-- ==== Sys2Proof/Word.lean ====
section
/-! DEFINITION. The words of the GJ4120: bytes, time base values and the frame check word. -/

namespace Sys2Proof

/-- One byte of a host frame, of a trunk frame or of a payload (R90, R131). -/
abbrev Byte := BitVec 8

/-- A value of the time base: 32 bits, one count a microsecond, wrapping at 2^32 (R163). -/
abbrev Time := BitVec 32

/-- The CRC-16 of host frames and trunk frames (R101, R131). -/
abbrev Crc := BitVec 16

/-- A field trunk, 0 or 1 (Table 1). -/
abbrev TrunkId := Fin 2

/-- A delivery channel, 0 to 7 (Table 1). -/
abbrev ChannelId := Fin 8

/-- A roster slot, 0 to 63 (R65). -/
abbrev StationId := Fin 64

/-- A record slot of the store, 0 to 255 (R28). -/
abbrev SlotId := Fin 256

/-- A rule slot of a screening table, 0 to 47 (R18). -/
abbrev RuleId := Fin 48

end Sys2Proof
end

