-- ==== Sys2Proof/Syntax.lean ====
section
/-! DEFINITION. The commands of the GJ4120: one constructor for each row of spec/opcode_table.json. -/

namespace Sys2Proof

/-- The part's steps. A request row is a good host frame of that kind reaching acceptance (R136), with its
tag and its body; the rest are events at the part's pins, on its trunks, or inside it.

`dt` is how many microseconds the time base moves on before the event is taken: the events that lie on a
serial line carry it, because a character takes time to pass (log entry 3). -/
inductive Instr where
  /-- RESET# goes low (R144). -/
  | resetAssert
  /-- RESET# is released; the levels of MODE1 and MODE0 at that moment, true for high (R127). -/
  | resetRelease (mode1 mode0 : Bool)
  /-- HOLD# goes high (R128). -/
  | holdRelease
  /-- One inbound host byte (R133). `mark` is its framing error in a UART mode. In the SPI mode, where no byte has one,
  it says that the byte's first clock came before the message now in transmission was picked, so that the byte out was
  none of that message (R129, log entry 23). -/
  | inboundByte (dt : Nat) (value : Byte) (mark : Bool)
  /-- A good frame whose kind is not a request kind reaches acceptance (R136). -/
  | unknownKindFrame (kind tag : Byte) (body : List Byte)
  /-- LINK_OPEN (R140). -/
  | linkOpen (tag : Byte) (body : List Byte)
  /-- LINK_CLOSE (R141). -/
  | linkClose (tag : Byte) (body : List Byte)
  /-- PART_RESET (R143). -/
  | partReset (tag : Byte) (body : List Byte)
  /-- NOTICE_MASK (R154). -/
  | noticeMask (tag : Byte) (body : List Byte)
  /-- COUNTERS_READ (R159). -/
  | countersRead (tag : Byte) (body : List Byte)
  /-- RULE_WRITE (R20). -/
  | ruleWrite (tag : Byte) (body : List Byte)
  /-- RULE_ERASE (R21). -/
  | ruleErase (tag : Byte) (body : List Byte)
  /-- SET_WRITE (R22). -/
  | setWrite (tag : Byte) (body : List Byte)
  /-- DEFAULT_WRITE (R23). -/
  | defaultWrite (tag : Byte) (body : List Byte)
  /-- STAGE_LOAD (R23). -/
  | stageLoad (tag : Byte) (body : List Byte)
  /-- RULE_COMMIT (R24). -/
  | ruleCommit (tag : Byte) (body : List Byte)
  /-- RULE_READ (R26). -/
  | ruleRead (tag : Byte) (body : List Byte)
  /-- CHANNEL_CONFIG whose enabled flag is not 0 (R46). -/
  | channelConfigEnable (tag : Byte) (body : List Byte)
  /-- CHANNEL_CONFIG whose enabled flag is 0 (R47). -/
  | channelConfigDisable (tag : Byte) (body : List Byte)
  /-- CHANNEL_CREDIT (R51). -/
  | channelCredit (tag : Byte) (body : List Byte)
  /-- CHANNEL_FLUSH (R60). -/
  | channelFlush (tag : Byte) (body : List Byte)
  /-- CHANNEL_QUERY (R61). -/
  | channelQuery (tag : Byte) (body : List Byte)
  /-- STATION_ADD (R67). -/
  | stationAdd (tag : Byte) (body : List Byte)
  /-- STATION_SET (R68). -/
  | stationSet (tag : Byte) (body : List Byte)
  /-- STATION_QUERY (R69). -/
  | stationQuery (tag : Byte) (body : List Byte)
  /-- STATION_LIST (R69). -/
  | stationList (tag : Byte) (body : List Byte)
  /-- STATION_SUSPEND (R84). -/
  | stationSuspend (tag : Byte) (body : List Byte)
  /-- STATION_RESUME (R85). -/
  | stationResume (tag : Byte) (body : List Byte)
  /-- STATION_REMOVE (R86, R87). -/
  | stationRemove (tag : Byte) (body : List Byte)
  /-- TRUNK_CONFIG (R92). -/
  | trunkConfig (tag : Byte) (body : List Byte)
  /-- TRUNK_START (R93). -/
  | trunkStart (tag : Byte) (body : List Byte)
  /-- TRUNK_STOP (R95). -/
  | trunkStop (tag : Byte) (body : List Byte)
  /-- TRUNK_QUERY (R99). -/
  | trunkQuery (tag : Byte) (body : List Byte)
  /-- DIRECTIVE_SUBMIT (R113). -/
  | directiveSubmit (tag : Byte) (body : List Byte)
  /-- DIRECTIVE_CANCEL (R120). -/
  | directiveCancel (tag : Byte) (body : List Byte)
  /-- DIRECTIVE_QUERY (R122). -/
  | directiveQuery (tag : Byte) (body : List Byte)
  /-- The last byte of the message in transmission has been sent (R139). -/
  | messageCompletion (dt : Nat)
  /-- The end of a close (R141, step 7). -/
  | closeEnd
  /-- The stop step of a close (R110, R141 step 2). -/
  | closeStopStep
  /-- The directive, flush and notice steps of a close (R124, R62, R155). -/
  | closeDirectiveStep
  /-- The idle run of a STARTING trunk reaches 32 byte times (R94). -/
  | idleComplete (trunk : TrunkId)
  /-- The 100 ms start limit of a STARTING trunk expires (R94). -/
  | startLimitExpiry (trunk : TrunkId)
  /-- RXD goes low on a STARTING trunk, and returns high `lowFor` microseconds later (R94, log entry 6). -/
  | lineLow (trunk : TrunkId) (dt lowFor : Nat)
  /-- The pacing time of the trunk's next round has come (R70, R73). -/
  | roundStart (trunk : TrunkId)
  /-- The trunk takes its round's next place (R71, R100). -/
  | turnBegin (trunk : TrunkId)
  /-- A character is taken while SENDING (R102). -/
  | echoCharacter (trunk : TrunkId) (dt : Nat) (value : Byte) (framingError : Bool)
  /-- One byte time has passed after a POLL byte's stop bit with no echo (R102). -/
  | echoDeadlineExpiry (trunk : TrunkId)
  /-- The first character of a REPLY starts (R103). -/
  | replyStart (trunk : TrunkId) (dt : Nat)
  /-- The reply window ends with no REPLY begun (R103). -/
  | replyTimeout (trunk : TrunkId)
  /-- A character is taken while RECEIVING (R104). -/
  | replyCharacter (trunk : TrunkId) (dt : Nat) (value : Byte) (framingError : Bool)
  /-- More than two byte times pass between two characters of a REPLY (R104). -/
  | gapExpiry (trunk : TrunkId)
  /-- A character is taken while listening, outside SENDING, WAITING and RECEIVING (R108). -/
  | strayByte (trunk : TrunkId) (dt : Nat) (value : Byte) (framingError : Bool)
  /-- The settle gap ends (R107). -/
  | settleEnd (trunk : TrunkId)
  /-- The next record of the REPLY in hand is checked against the baseline (R79). -/
  | sequenceCheck (trunk : TrunkId)
  /-- The store takes the screened record of the trunk's REPLY (R34). -/
  | admission (trunk : TrunkId)
  /-- The trunk's turn is closed (R75). -/
  | turnClose (trunk : TrunkId)
  /-- The head entry of the channel's queue has waited the hold time (R52). -/
  | holdExpiry (channel : ChannelId)
  /-- HOLD# goes low when `begun` bytes of the message in transmission have been begun (R128, log entry 5). -/
  | holdAssert (begun : Nat)
  /-- HCS# goes high (R129). -/
  | hcsHigh
  deriving DecidableEq, Repr

end Sys2Proof
end

