-- ==== Sys2Proof/Decode.lean ====
section
/-! DEFINITION. The table's bits. Every row of spec/opcode_table.json has an empty list of fields and no
fixed bits, so no word spells a command; the byte layouts of chapter 10 are read by the frame receiver and the
owners of the requests (Machine/Frames.lean, Machine/Inbound.lean). -/

namespace Sys2Proof

/-- The command a word of `nbits` bits spells by the table's bits: none, because the table gives no row any
bits (spec/98_reader.md: no row has fixed bits or fields). -/
def decodeTableWord (_nbits _w : Nat) : Option Instr := none

end Sys2Proof
end

