-- ==== Sys2Proof/Config.lean ====
section
/-! DEFINITION. What the GJ4120 fixes for every run: the capacities of Table 1, the framing bytes, and the
kinds of host frames with the body lengths they allow (Tables 10-2 and 10-5). The spec leaves no value of an
effect open, so there is no free value here (NOTES.md, Assumptions). -/

namespace Sys2Proof.Config

/-- The delimiter of host frames, and the fill byte of the SPI mode (R129, R132). -/
def delimiter : Byte := 0xA5#8
/-- The escape byte of host frames (R132). -/
def escape : Byte := 0xA6#8
/-- The lead byte of a POLL (R101). -/
def pollLead : Byte := 0x3C#8
/-- The lead byte of a REPLY (R104). -/
def replyLead : Byte := 0x3E#8

/-- The largest content of a host frame (R131). -/
def maxContent : Nat := 534
/-- The largest body of a host frame (R131). -/
def maxBody : Nat := 528
/-- Requests outstanding at once (R134). -/
def maxOutstanding : Nat := 8
/-- Reply queue entries that serve refusals (R135). -/
def maxRefusals : Nat := 4
/-- Reply queue entries in all (R135). -/
def maxReplies : Nat := 12
/-- Notice queue entries in all (R145). -/
def maxNotices : Nat := 32
/-- Notice queue entries that ordinary kinds may hold (R151). -/
def maxOrdinary : Nat := 31
/-- Directives in all (R111). -/
def maxDirectives : Nat := 32
/-- Directives of one station (R111). -/
def maxStationDirectives : Nat := 4
/-- The attempt limit a directive takes when its request gives 0 (R113). -/
def defaultAttemptLimit : Nat := 4
/-- Records in one batch (R55). -/
def maxBatch : Nat := 8
/-- The ceiling of a channel's credit (R50). -/
def maxCredit : Nat := 255
/-- The ceiling of the sum of the channel reserves, and the number of record slots (R32). -/
def maxReserves : Nat := 256
/-- The echo-fault run that faults a trunk (R97). -/
def maxEchoRun : Nat := 3
/-- The start limit, in microseconds (R93). -/
def startLimit : Nat := 100000
/-- The least length of a round that took no turn, in microseconds (R73). -/
def emptyRound : Nat := 1000
/-- The ceiling of a counter of the bank, and of a hit count (R14, R157). -/
def counterMax : Nat := 4294967295
/-- The ceiling of a notice's counts and of the lost-notice count (chapter 8). -/
def noticeMax : Nat := 65535

/-- Kind of a reply frame (R132). -/
def replyKind : Byte := 0x80#8
/-- Kind of a record batch frame (R132). -/
def batchKind : Byte := 0x81#8
/-- Kind of a notice frame (R132). -/
def noticeKind : Byte := 0x82#8

/-- The body lengths a request kind allows (Table 10-5, R167); `none` for a kind that is not a request kind. -/
def bodyLengths (kind : Byte) : Option (List Nat) :=
  match kind.toNat with
  | 0x01 => some [1]      -- LINK_OPEN
  | 0x02 => some [0]      -- LINK_CLOSE
  | 0x03 => some [0]      -- PART_RESET
  | 0x04 => some [1]      -- NOTICE_MASK
  | 0x05 => some [3]      -- COUNTERS_READ
  | 0x10 => some [37]     -- RULE_WRITE
  | 0x11 => some [1]      -- RULE_ERASE
  | 0x12 => some [9]      -- SET_WRITE
  | 0x13 => some [2]      -- DEFAULT_WRITE
  | 0x14 => some [0]      -- STAGE_LOAD
  | 0x15 => some [0, 2]   -- RULE_COMMIT
  | 0x16 => some [3]      -- RULE_READ
  | 0x18 => some [10]     -- CHANNEL_CONFIG
  | 0x19 => some [2]      -- CHANNEL_CREDIT
  | 0x1A => some [1]      -- CHANNEL_FLUSH
  | 0x1B => some [1]      -- CHANNEL_QUERY
  | 0x20 => some [3]      -- STATION_ADD
  | 0x21 => some [2]      -- STATION_SET
  | 0x22 => some [1]      -- STATION_QUERY
  | 0x23 => some [0]      -- STATION_LIST
  | 0x24 => some [1]      -- STATION_SUSPEND
  | 0x25 => some [1]      -- STATION_RESUME
  | 0x26 => some [1]      -- STATION_REMOVE
  | 0x28 => some [8]      -- TRUNK_CONFIG
  | 0x29 => some [1]      -- TRUNK_START
  | 0x2A => some [1]      -- TRUNK_STOP
  | 0x2B => some [1]      -- TRUNK_QUERY
  | 0x30 => some [19]     -- DIRECTIVE_SUBMIT
  | 0x31 => some [2]      -- DIRECTIVE_CANCEL
  | 0x32 => some [2]      -- DIRECTIVE_QUERY
  | _ => none

end Sys2Proof.Config
end

