-- ==== Sys2Proof/Machine/State.lean ====
section
/-! DEFINITION. The state of the GJ4120, as plain data: every block of Figure 1 with what chapter by chapter
the spec says it holds, the host pins, and the queue of waiting commands. -/

namespace Sys2Proof.Machine

/-! ### Codes and names -/

/-- Host link modes (Table 7-1). -/
inductive LinkMode where
  | uart115200 | uart460800 | spi | uart1000000
  deriving DecidableEq, Repr

/-- Status codes (Table 7-3, Table 10-3). -/
inductive Status where
  | ok | busy | badArg | badLength | unknownKind | noRoom | notFound | conflict | wrongState | notOpen
  | tagInUse | tooLate | lineBusy | aborted
  deriving DecidableEq, Repr

/-- States of a station (Table 4-1). -/
inductive StationState where
  | idle | probing | active | lagging | lost | suspended | removing
  deriving DecidableEq, Repr

/-- States of a trunk (Table 5-2). -/
inductive TrunkState where
  | stopped | starting | running | stopping | faulted
  deriving DecidableEq, Repr

/-- Fault causes, and the causes a TRUNK_STATE notice carries (R98, Table 10-4). -/
inductive Cause where
  | none | request | lineBusy | echo
  deriving DecidableEq, Repr

/-- A channel's fill state (R58). -/
inductive Level where
  | normal | filling
  deriving DecidableEq, Repr

/-- Overflow policies (Table 3-1). -/
inductive Policy where
  | keepOld | keepNew | defer
  deriving DecidableEq, Repr

/-- Outcomes of a directive (Table 6-3). -/
inductive DirectiveOutcome where
  | delivered | exhausted | aborted | cancelled | withdrawn
  deriving DecidableEq, Repr

/-! ### Field records and the record store (chapter 2) -/

/-- A field record with all of its fields (R28). -/
structure Record where
  trunk   : TrunkId
  address : Byte
  station : StationId
  kind    : Byte
  seq     : Byte
  stamp   : Time
  payload : List Byte
  deriving DecidableEq, Repr

/-- An occupied slot: the record and its reference count (R28). -/
structure Stored where
  record : Record
  refs   : Nat
  deriving DecidableEq, Repr

/-- The 256 slots and the free count F (R28). -/
structure Store where
  slots : Vector (Option Stored) 256
  free  : Nat
  deriving DecidableEq, Repr

/-! ### Screening (chapter 1) -/

/-- The trunk term (R2). -/
inductive TrunkTerm where
  | only (trunk : TrunkId)
  | either
  deriving DecidableEq, Repr

/-- The window term: `width` value bytes and mask bytes are kept (R4, R169). -/
structure WindowTerm where
  offset : Nat
  width  : Nat
  value  : List Byte
  mask   : List Byte
  deriving DecidableEq, Repr

/-- The sum term; `equal` is the sense EQUAL (R5). -/
structure SumTerm where
  offset : Nat
  span   : Nat
  target : Nat
  equal  : Bool
  deriving DecidableEq, Repr

/-- The set term; `member` is the sense IN (R6). -/
structure SetTerm where
  bins   : Fin 4
  offset : Nat
  member : Bool
  deriving DecidableEq, Repr

/-- A rule's action (R7). -/
inductive Action where
  | deliver (channel : ChannelId)
  | tee (channel : ChannelId)
  | count
  | discard
  deriving DecidableEq, Repr

/-- A screening rule (Table 1-1), less its hit count, which the active table holds. -/
structure Rule where
  enabled     : Bool
  trunk       : TrunkTerm
  addrValue   : Byte
  addrMask    : Byte
  kindLow     : Byte
  kindHigh    : Byte
  lenMin      : Nat
  lenMax      : Nat
  window      : Option WindowTerm
  sum         : Option SumTerm
  set         : Option SetTerm
  action      : Action
  deriving DecidableEq, Repr

/-- A table's default action (R11). -/
inductive DefaultAction where
  | deliver (channel : ChannelId)
  | discard
  deriving DecidableEq, Repr

/-- A rule table: 48 slots, a default action, four bin sets of 64 bins, bin n being bit n (R18). -/
structure RuleTable where
  slots         : Vector (Option Rule) 48
  defaultAction : DefaultAction
  bins          : Vector (BitVec 64) 4
  deriving DecidableEq, Repr

/-- The active table: a table, its generation, and a hit count for each slot, 0 for an empty one (R14, R18). -/
structure ActiveTable where
  table      : RuleTable
  generation : Nat
  hits       : Vector Nat 48
  deriving DecidableEq, Repr

/-! ### Delivery channels (chapter 3) -/

/-- The seven settings of Table 3-1 besides the enabled flag; `hold` in milliseconds. -/
structure ChannelConfig where
  depth   : Nat
  reserve : Nat
  policy  : Policy
  trigger : Nat
  hold    : Nat
  high    : Nat
  low     : Nat
  deriving DecidableEq, Repr

/-- The CHANNEL group of counters (Table 9-1). -/
structure ChannelCounters where
  enqueued      : Nat
  sent          : Nat
  batches       : Nat
  keepOldDrops  : Nat
  evictions     : Nat
  noSlotDrops   : Nat
  disabledDrops : Nat
  deriving DecidableEq, Repr

/-- A queue entry: the slot it names and its enqueue time (R48). -/
structure QueueEntry where
  slot : SlotId
  time : Time
  deriving DecidableEq, Repr

/-- A delivery channel (R45). `inflight = []` is "no in-flight batch". `holdRunOut` is the hold flag, `holdDue`
the armed hold expiry (R52), `offered` whether the arbiter holds the channel's offer (R54). -/
structure Channel where
  config     : ChannelConfig
  enabled    : Bool
  credit     : Nat
  queue      : List QueueEntry
  usage      : Nat
  level      : Level
  inflight   : List SlotId
  holdRunOut : Bool
  holdDue    : Option Time
  offered    : Bool
  counters   : ChannelCounters
  deriving DecidableEq, Repr

/-! ### The station roster (chapter 4) -/

/-- The STATION group of counters (R65, Table 9-1). -/
structure StationCounters where
  turns      : Nat
  hits       : Nat
  misses     : Nat
  accepted   : Nat
  duplicates : Nat
  gapLost    : Nat
  deferrals  : Nat
  discarded  : Nat
  restarts   : Nat
  strayAcks  : Nat
  deriving DecidableEq, Repr

/-- A station entry (Table 4-1). `serial` tells one occupancy of the slot from another (R70, R71; log entry 8);
`removeTag` is the tag of the STATION_REMOVE whose reply is deferred (R87). -/
structure Station where
  trunk          : TrunkId
  address        : Byte
  state          : StationState
  pollClass      : Nat
  missCount      : Nat
  baseline       : Option Byte
  suspendPending : Bool
  nextNumber     : Nat
  lastHit        : Option Time
  counters       : StationCounters
  serial         : Nat
  removeTag      : Option Byte
  deriving DecidableEq, Repr

/-! ### The trunks (chapter 5) -/

/-- A record as a REPLY carries it (Table 10-15). -/
structure ReplyRecord where
  kind    : Byte
  seq     : Byte
  payload : List Byte
  deriving DecidableEq, Repr

/-- A record that has been screened to a non-empty delivery set and waits for admission: the gap the sequence
check found, the delivery set, and the applied list with its generation (R12, R15). -/
structure Screened where
  record     : Record
  gap        : Nat
  channels   : List ChannelId
  applied    : List RuleId
  generation : Nat
  deriving DecidableEq, Repr

/-- How far a turn has come: attempts are being made; it ended as a MISS; or it ended as a HIT at time
`stamp`, with the records still to be walked and the one between its walk and its admission (R75). -/
inductive TurnStage where
  | polling
  | missed
  | replied (stamp : Time) (todo : List ReplyRecord) (screened : Option Screened)
  deriving DecidableEq, Repr

/-- The turn in flight: the station's slot, the attempt number, the id of the attached directive with the
directive mark, and the state the station held when the turn began (R76, R100). -/
structure Turn where
  slot       : StationId
  attempt    : Nat
  directive  : Option Nat
  mark       : Bool
  startState : StationState
  stage      : TurnStage
  deriving DecidableEq, Repr

/-- The phase of the turn sequencer (Table 5-5) with what the phase holds: the POLL being sent, the time its
first byte began and how many echoes have been taken; the reply timeout; the REPLY's characters and the gap
expiry; the end of the settle gap. -/
inductive Phase where
  | idle
  | sending (poll : List Byte) (start : Time) (echoed : Nat)
  | waiting (due : Time)
  | receiving (chars : List Byte) (gap : Option Time)
  | settling (due : Time)
  deriving DecidableEq, Repr

/-- A place of a due list: the slot and its occupancy (R70). -/
structure Place where
  slot   : StationId
  serial : Nat
  deriving DecidableEq, Repr

/-- The round in progress: the places still to come, and whether the round has taken a turn (R70, R73). -/
structure Round where
  places : List Place
  turned : Bool
  deriving DecidableEq, Repr

/-- The idle watch of a STARTING trunk: where the idle run counts from, none while RXD is low and its rise is not
known; the start limit; and the tag of the TRUNK_START whose reply is deferred (R93, R94). -/
structure StartWatch where
  idleFrom : Option Time
  limit    : Time
  tag      : Byte
  deriving DecidableEq, Repr

/-- Trunk configuration (Table 5-3): the bit rate's code (Table 10-4), the reply timeout in microseconds, the
round minimum period in milliseconds. -/
structure TrunkConfig where
  rate      : Fin 8
  timeout   : Nat
  retries   : Nat
  missLimit : Nat
  period    : Nat
  deriving DecidableEq, Repr

/-- The TRUNK group of counters (Table 9-1). -/
structure TrunkCounters where
  pollsSent    : Nat
  goodReplies  : Nat
  crcFailures  : Nat
  broken       : Nat
  misaddressed : Nat
  timeouts     : Nat
  echoFaults   : Nat
  strayBytes   : Nat
  rounds       : Nat
  deriving DecidableEq, Repr

/-- A trunk controller (Table 5-2) with its round (R70), its pins, and the tag of a deferred TRUNK_STOP (R95).
`de` is the DE pin, `txMark` whether TXD rests at mark. -/
structure Trunk where
  state        : TrunkState
  cause        : Cause
  config       : TrunkConfig
  phase        : Phase
  turn         : Option Turn
  echoRun      : Nat
  roundCounter : Nat
  roundStart   : Time
  round        : Option Round
  nextRound    : Option Time
  watch        : Option StartWatch
  stopTag      : Option Byte
  de           : Bool
  txMark       : Bool
  counters     : TrunkCounters
  deriving DecidableEq, Repr

/-! ### Directives (chapter 6) -/

/-- The state of a directive entry; ATTACHED carries the state before attachment, AWAITING when
`wasAwaiting` (Table 6-1). -/
inductive DirectiveState where
  | pending
  | attached (wasAwaiting : Bool)
  | awaiting
  deriving DecidableEq, Repr

/-- A directive entry (Table 6-1). -/
structure Directive where
  id       : Nat
  slot     : StationId
  number   : Nat
  payload  : List Byte
  limit    : Nat
  attempts : Nat
  state    : DirectiveState
  deriving DecidableEq, Repr

/-- The directive queue, oldest first, and the next id (R111). -/
structure DirectiveQueue where
  entries : List Directive
  nextId  : Nat
  deriving DecidableEq, Repr

/-! ### Notices (chapter 8) -/

/-- The four counts of a CHANNEL_LOSS (R40). -/
structure Loss where
  disabled : Nat
  keepOld  : Nat
  keepNew  : Nat
  noSlot   : Nat
  deriving DecidableEq, Repr

/-- A notice with the fields of its kind (Table 8-1). -/
inductive Notice where
  | stationState (slot : StationId) (trunk : TrunkId) (address : Byte) (was now : StationState) (changes : Nat)
  | sequence (slot : StationId) (gaps restarts : Nat)
  | directiveDone (id : Nat) (slot : StationId) (outcome : DirectiveOutcome) (result : Byte) (attempts : Nat)
  | channelLevel (channel : ChannelId) (level : Level) (flips : Nat)
  | channelLoss (channel : ChannelId) (loss : Loss)
  | trunkState (trunk : TrunkId) (was now : TrunkState) (cause : Cause)
  | noticeLost (count : Nat)
  deriving DecidableEq, Repr

/-- An entry of the notice queue (R145). -/
structure NoticeEntry where
  time      : Time
  mergeOpen : Bool
  notice    : Notice
  deriving DecidableEq, Repr

/-- The notice queue, the lost-notice count and the notice mask (R145); bit k - 1 of the mask enables kind k. -/
structure NoticeQueue where
  entries : List NoticeEntry
  lost    : Nat
  mask    : Byte
  deriving DecidableEq, Repr

/-! ### The host link (chapter 7) -/

/-- The step a close waits in (R141): for the earlier answers; for both trunks to be STOPPED; for the
in-flight batches. -/
inductive CloseStage where
  | answers | stopping | batches
  deriving DecidableEq, Repr

/-- The session; CLOSING carries the close's stage and the tag of its LINK_CLOSE (R140, R141). -/
inductive Session where
  | closed
  | opened
  | closing (stage : CloseStage) (tag : Byte)
  deriving DecidableEq, Repr

/-- An outstanding request: its tag, its kind, and whether its reply has been queued (R134). -/
structure Request where
  tag      : Byte
  kind     : Byte
  answered : Bool
  deriving DecidableEq, Repr

/-- A reply in the reply queue (R135, R166); `refusal` marks the replies of acceptance. -/
structure Reply where
  tag     : Byte
  kind    : Byte
  status  : Status
  results : List Byte
  refusal : Bool
  deriving DecidableEq, Repr

/-- The frame receiver, with the content collected so far (R133). -/
inductive Receiver where
  | hunting
  | collecting (content : List Byte)
  | escaped (content : List Byte)
  | discarding
  deriving DecidableEq, Repr

/-- What a message in transmission is, and so who owns its completion (R139). -/
inductive Outgoing where
  | reply (r : Reply)
  | notice (n : NoticeEntry)
  | batch (channel : ChannelId)
  deriving DecidableEq, Repr

/-- The message in transmission: its owner, its bytes on the wire (R132), and how many of them are known to
have been sent (log entry 5). -/
structure Transmission where
  what : Outgoing
  wire : List Byte
  sent : Nat
  deriving DecidableEq, Repr

/-- The LINK group of counters (Table 9-1). -/
structure LinkCounters where
  screened    : Nat
  discarded   : Nat
  unrouted    : Nat
  badCrc      : Nat
  tooLong     : Nat
  badFrame    : Nat
  dropped     : Nat
  refusals    : Nat
  deriving DecidableEq, Repr

/-- The host link controller: session, request table, reply queue, frame receiver, transmitter, the arbiter's
last served channel and non-batch run, and whether a PART_RESET is pending (R134 to R143). -/
structure Link where
  session      : Session
  requests     : List Request
  replies      : List Reply
  receiver     : Receiver
  tx           : Option Transmission
  lastServed   : ChannelId
  nonBatchRun  : Nat
  resetPending : Bool
  counters     : LinkCounters
  deriving DecidableEq, Repr

/-- The HTXD/MISO pin (R127 to R129): at mark, sending a UART message, high-impedance, or driving an SPI byte. -/
inductive HostOut where
  | mark
  | sending
  | highZ
  | driving (value : Byte)
  deriving DecidableEq, Repr

/-! ### The whole part -/

/-- The state of the part. `pending` is the queue of waiting commands, first in, first out. -/
structure State where
  pending    : List Instr
  inReset    : Bool
  holdLow    : Bool
  hcsIsHigh  : Bool
  attnLow    : Bool
  hostOut    : HostOut
  mode       : LinkMode
  timeBase   : Time
  link       : Link
  notices    : NoticeQueue
  active     : ActiveTable
  staging    : RuleTable
  store      : Store
  channels   : Vector Channel 8
  roster     : Vector (Option Station) 64
  nextSerial : Nat
  trunks     : Vector Trunk 2
  directives : DirectiveQueue
  deriving DecidableEq, Repr

/-! ### Why a step can stop -/

/-- Faults: none. The spec gives every command of the table its effect in every state, and the part has no
state in which it stops; so no meaning raises a fault (NOTES.md, Stops). -/
inductive Fault where
  deriving DecidableEq, Repr

/-- Refusals. No meaning raises one (NOTES.md, Stops). -/
inductive Refusal where
  /-- Raised by `exec` for a command without a meaning, naming its row; no arm does. Safe: the model stops. -/
  | notModelled (mnemonic : String)
  deriving DecidableEq, Repr

/-! ### Reset values -/

/-- The default settings of Table 3-1. -/
def ChannelConfig.default : ChannelConfig :=
  { depth := 16, reserve := 0, policy := .keepOld, trigger := 1, hold := 0, high := 12, low := 4 }

/-- All channel counters 0 (R45). -/
def ChannelCounters.zero : ChannelCounters :=
  { enqueued := 0, sent := 0, batches := 0, keepOldDrops := 0, evictions := 0, noSlotDrops := 0,
    disabledDrops := 0 }

/-- A channel after reset (R45). -/
def Channel.reset : Channel :=
  { config := .default, enabled := false, credit := 0, queue := [], usage := 0, level := .normal,
    inflight := [], holdRunOut := false, holdDue := none, offered := false, counters := .zero }

/-- All station counters 0 (R158). -/
def StationCounters.zero : StationCounters :=
  { turns := 0, hits := 0, misses := 0, accepted := 0, duplicates := 0, gapLost := 0, deferrals := 0,
    discarded := 0, restarts := 0, strayAcks := 0 }

/-- The default configuration of Table 5-3; 4 is the code of 115,200 bit/s. -/
def TrunkConfig.default : TrunkConfig :=
  { rate := 4, timeout := 2000, retries := 1, missLimit := 3, period := 100 }

/-- All trunk counters 0 (R158). -/
def TrunkCounters.zero : TrunkCounters :=
  { pollsSent := 0, goodReplies := 0, crcFailures := 0, broken := 0, misaddressed := 0, timeouts := 0,
    echoFaults := 0, strayBytes := 0, rounds := 0 }

/-- A trunk after reset (R90, R91, Table 5-2). -/
def Trunk.reset : Trunk :=
  { state := .stopped, cause := .none, config := .default, phase := .idle, turn := none, echoRun := 0,
    roundCounter := 0, roundStart := 0, round := none, nextRound := none, watch := none, stopTag := none,
    de := false, txMark := true, counters := .zero }

/-- An empty table: every slot empty, default DISCARD, every bin clear (R18). -/
def RuleTable.empty : RuleTable :=
  { slots := Vector.replicate 48 none, defaultAction := .discard, bins := Vector.replicate 4 0 }

/-- The active table after reset: empty, generation 0 (R18). -/
def ActiveTable.reset : ActiveTable :=
  { table := .empty, generation := 0, hits := Vector.replicate 48 0 }

/-- The store after reset: all 256 slots free (R30). -/
def Store.reset : Store := { slots := Vector.replicate 256 none, free := 256 }

/-- All link counters 0 (R158). -/
def LinkCounters.zero : LinkCounters :=
  { screened := 0, discarded := 0, unrouted := 0, badCrc := 0, tooLong := 0, badFrame := 0, dropped := 0,
    refusals := 0 }

/-- The host link after reset (R144). -/
def Link.reset : Link :=
  { session := .closed, requests := [], replies := [], receiver := .hunting, tx := none, lastServed := 7,
    nonBatchRun := 0, resetPending := false, counters := .zero }

/-- The notice queue after reset: empty, nothing lost, every ordinary kind enabled (R145). -/
def NoticeQueue.reset : NoticeQueue := { entries := [], lost := 0, mask := 0x3F#8 }

/-- The directive queue after reset (R111). -/
def DirectiveQueue.reset : DirectiveQueue := { entries := [], nextId := 1 }

/-- The part right after RESET# has been released with both straps low (R127, R144). The straps, and the
levels of HOLD# and HCS#, come from outside: log entries 4 and 7. -/
def State.reset : State :=
  { pending := [], inReset := false, holdLow := false, hcsIsHigh := true, attnLow := false, hostOut := .mark,
    mode := .uart115200, timeBase := 0, link := .reset, notices := .reset, active := .reset,
    staging := .empty, store := .reset, channels := Vector.replicate 8 .reset,
    roster := Vector.replicate 64 none, nextSerial := 0, trunks := Vector.replicate 2 .reset,
    directives := .reset }

end Sys2Proof.Machine
end

