-- ==== Sys2Proof/Machine/Operands.lean ====
section
/-! DEFINITION. Operand forms: how the fields of bodies and frames are read and written (chapter 10), the codes
of Tables 10-3 and 10-4, the encoded rule and bin set, and intervals of the time base. -/

namespace Sys2Proof.Machine

/-! ### Indexed state -/

/-- The vector `v` with element `i` replaced by `a`. -/
def setAt {α : Type} {n : Nat} (v : Vector α n) (i : Fin n) (a : α) : Vector α n := v.set i.1 a i.2

/-- A byte as an index below `n`, if it is one. -/
def index? (n : Nat) (b : Byte) : Option (Fin n) :=
  if h : b.toNat < n then some ⟨b.toNat, h⟩ else none

/-! ### Bytes of a body -/

/-- Byte `i` of a body. -/
def byteAt (body : List Byte) (i : Nat) : Byte := body.getD i 0#8

/-- Byte `i` of a body as a number. -/
def natAt (body : List Byte) (i : Nat) : Nat := (byteAt body i).toNat

/-- The two-byte field at `i`, low byte first (10, Conventions). -/
def u16At (body : List Byte) (i : Nat) : Nat := natAt body i + 256 * natAt body (i + 1)

/-- A number as one byte. -/
def byteOf (n : Nat) : Byte := BitVec.ofNat 8 n

/-- A number as two bytes, low byte first. -/
def le16 (n : Nat) : List Byte := [byteOf n, byteOf (n / 256)]

/-- A number as four bytes, low byte first. -/
def le32 (n : Nat) : List Byte :=
  [byteOf n, byteOf (n / 256), byteOf (n / 65536), byteOf (n / 16777216)]

/-- A flag as a byte, 1 or 0. -/
def flagByte (b : Bool) : Byte := if b then 1#8 else 0#8

/-- A list of bytes cut or filled with zeros to length `n`. -/
def padTo (n : Nat) (bs : List Byte) : List Byte := (bs ++ List.replicate n 0#8).take n

/-! ### Codes (Tables 10-3 and 10-4) -/

/-- The code of a status (Table 10-3). -/
def Status.code : Status → Byte
  | .ok => 0x00#8 | .busy => 0x01#8 | .badArg => 0x02#8 | .badLength => 0x03#8 | .unknownKind => 0x04#8
  | .noRoom => 0x05#8 | .notFound => 0x06#8 | .conflict => 0x07#8 | .wrongState => 0x08#8
  | .notOpen => 0x09#8 | .tagInUse => 0x0A#8 | .tooLate => 0x0B#8 | .lineBusy => 0x0C#8
  | .aborted => 0x0D#8

/-- The code of a station state. -/
def StationState.code : StationState → Byte
  | .idle => 0#8 | .probing => 1#8 | .active => 2#8 | .lagging => 3#8 | .lost => 4#8 | .suspended => 5#8
  | .removing => 6#8

/-- The code of a trunk state. -/
def TrunkState.code : TrunkState → Byte
  | .stopped => 0#8 | .starting => 1#8 | .running => 2#8 | .stopping => 3#8 | .faulted => 4#8

/-- The code of a cause. -/
def Cause.code : Cause → Byte
  | .none => 0#8 | .request => 1#8 | .lineBusy => 2#8 | .echo => 3#8

/-- The code of a turn phase. -/
def Phase.code : Phase → Byte
  | .idle => 0#8 | .sending _ _ _ => 1#8 | .waiting _ => 2#8 | .receiving _ _ => 3#8 | .settling _ => 4#8

/-- The code of a host link mode. -/
def LinkMode.code : LinkMode → Byte
  | .uart115200 => 0#8 | .uart460800 => 1#8 | .spi => 2#8 | .uart1000000 => 3#8

/-- The host link mode the straps give, MODE1 first, true for high (Table 7-1). -/
def LinkMode.ofStraps : Bool → Bool → LinkMode
  | false, false => .uart115200
  | false, true => .uart460800
  | true, false => .spi
  | true, true => .uart1000000

/-- The code of an overflow policy. -/
def Policy.code : Policy → Byte
  | .keepOld => 0#8 | .keepNew => 1#8 | .defer => 2#8

/-- The policy a code names. -/
def Policy.ofCode (b : Byte) : Option Policy :=
  match b.toNat with
  | 0 => some .keepOld | 1 => some .keepNew | 2 => some .defer | _ => none

/-- The code of a channel level. -/
def Level.code : Level → Byte
  | .normal => 0#8 | .filling => 1#8

/-- The code of a directive outcome. -/
def DirectiveOutcome.code : DirectiveOutcome → Byte
  | .delivered => 0#8 | .exhausted => 1#8 | .aborted => 2#8 | .cancelled => 3#8 | .withdrawn => 4#8

/-- The code of a directive's state. -/
def DirectiveState.code : DirectiveState → Byte
  | .pending => 0#8 | .attached _ => 1#8 | .awaiting => 2#8

/-- The code of the state before attachment, 0xFF unless ATTACHED (Table 10-9). -/
def DirectiveState.beforeCode : DirectiveState → Byte
  | .attached false => 0#8 | .attached true => 2#8 | .pending => 0xFF#8 | .awaiting => 0xFF#8

/-- The code of a notice kind. -/
def Notice.code : Notice → Nat
  | .stationState .. => 1 | .sequence .. => 2 | .directiveDone .. => 3 | .channelLevel .. => 4
  | .channelLoss .. => 5 | .trunkState .. => 6 | .noticeLost _ => 7

/-! ### Rates and intervals -/

/-- The bit rate of a code, in bit/s (Table 10-4). -/
def rateOf (code : Fin 8) : Nat :=
  match code with
  | 0 => 9600 | 1 => 19200 | 2 => 38400 | 3 => 57600 | 4 => 115200 | 5 => 250000 | 6 => 500000
  | 7 => 1000000

/-- An interval of `n` byte times in microseconds: `n` times 10,000,000 over the bit rate, rounded up (R90,
Table 5-1). -/
def byteTimes (code : Fin 8) (n : Nat) : Nat :=
  match rateOf code with
  | 0 => 0
  | r + 1 => (n * 10000000 + r) / (r + 1)

/-- The time `us` microseconds after `t` (R164). -/
def later (t : Time) (us : Nat) : Time := t + BitVec.ofNat 32 us

/-- The microseconds from `since` to `now`, modulo 2^32 (R164). -/
def elapsed (since now : Time) : Nat := (now - since).toNat

/-- How much the time base has moved on when the last stop bit of `n` bytes sent back to back has been sent, in
whole microseconds: 781 for 9 bytes at 115,200 bit/s (Figure 7; log entry 9). -/
def sentTime (code : Fin 8) (n : Nat) : Nat := n * 10000000 / rateOf code

/-- The time `us` microseconds before `t` (R164). -/
def earlier (t : Time) (us : Nat) : Time := t - BitVec.ofNat 32 us

/-- The time base has come to `due`: `due` is not in the half cycle ahead of `now` (R164). -/
def reached (due now : Time) : Bool := decide (elapsed due now < 2147483648)

/-- `due` lies before `now`: what was due then came first (R164). At the same time either may come first. -/
def passed (due now : Time) : Bool := decide (due ≠ now) && reached due now

/-- How many bit times of a good character are high after its last rise: the data bits at its end that are 1, sent
least significant first, and the stop bit (R90). -/
def highBits (value : Byte) : Nat :=
  ((List.range 8).reverse.takeWhile fun i => value.getLsbD i).length + 1

/-- When RXD last rose in a good character that has been taken at `now` (R90, log entry 18). -/
def lastRise (code : Fin 8) (value : Byte) (now : Time) : Time :=
  earlier now (highBits value * 1000000 / rateOf code)

/-! ### The encoded rule (Table 10-10) and the bin set (Table 10-11) -/

/-- The trunk term a code names (Table 10-4). -/
def TrunkTerm.ofCode (b : Byte) : Option TrunkTerm :=
  match b.toNat with
  | 0 => some (.only 0) | 1 => some (.only 1) | 2 => some .either | _ => none

/-- The code of a trunk term. -/
def TrunkTerm.code : TrunkTerm → Byte
  | .only t => byteOf t.1 | .either => 2#8

/-- The action that an action byte and a channel byte name; the channel byte of COUNT and DISCARD is not
examined (R20, R168). -/
def Action.ofCode (action channel : Byte) : Option Action :=
  match action.toNat with
  | 0 => (index? 8 channel).map .deliver
  | 1 => (index? 8 channel).map .tee
  | 2 => some .count
  | 3 => some .discard
  | _ => none

/-- The action byte and the channel byte of an action (R169). -/
def Action.bytes : Action → List Byte
  | .deliver c => [0#8, byteOf c.1] | .tee c => [1#8, byteOf c.1] | .count => [2#8, 0#8]
  | .discard => [3#8, 0#8]

/-- The window term of an encoded rule: only the first `width` value and mask bytes are kept (R169). -/
def decodeWindow (e : List Byte) : Option WindowTerm :=
  if natAt e 8 ≤ 55 ∧ 1 ≤ natAt e 9 ∧ natAt e 9 ≤ 8 then
    some { offset := natAt e 8, width := natAt e 9, value := padTo (natAt e 9) (e.drop 10),
           mask := padTo (natAt e 9) (e.drop 18) }
  else none

/-- The sum term of an encoded rule (R20). -/
def decodeSum (e : List Byte) : Option SumTerm :=
  if natAt e 26 ≤ 55 ∧ 1 ≤ natAt e 27 ∧ natAt e 27 ≤ 56 ∧ natAt e 30 ≤ 1 then
    some { offset := natAt e 26, span := natAt e 27, target := u16At e 28, equal := natAt e 30 == 0 }
  else none

/-- The set term of an encoded rule (R20). -/
def decodeSet (e : List Byte) : Option SetTerm :=
  match index? 4 (byteAt e 31) with
  | some b =>
    if natAt e 32 ≤ 55 ∧ natAt e 33 ≤ 1 then
      some { bins := b, offset := natAt e 32, member := natAt e 33 == 0 }
    else none
  | none => none

/-- An optional term: absent when its presence flag is clear, and then not examined (R20). -/
def optional {α : Type} (present : Bool) (term : Option α) : Option (Option α) :=
  if present then term.map some else some none

/-- The rule that 36 bytes encode, or none when a check of R20 or R168 fails. -/
def decodeRule (e : List Byte) : Option Rule :=
  match TrunkTerm.ofCode (byteAt e 1), optional ((byteAt e 0).getLsbD 1) (decodeWindow e),
      optional ((byteAt e 0).getLsbD 2) (decodeSum e), optional ((byteAt e 0).getLsbD 3) (decodeSet e),
      Action.ofCode (byteAt e 34) (byteAt e 35) with
  | some trunk, some window, some sum, some set, some action =>
    if natAt e 0 < 16 ∧ natAt e 4 ≤ natAt e 5 ∧ natAt e 6 ≤ natAt e 7 ∧ natAt e 7 ≤ 56 then
      some { enabled := (byteAt e 0).getLsbD 0, trunk := trunk, addrValue := byteAt e 2,
             addrMask := byteAt e 3, kindLow := byteAt e 4, kindHigh := byteAt e 5,
             lenMin := natAt e 6, lenMax := natAt e 7, window := window, sum := sum, set := set,
             action := action }
    else none
  | _, _, _, _, _ => none

/-- The flags byte of an encoded rule. -/
def ruleFlags (r : Rule) : Byte :=
  byteOf ((if r.enabled then 1 else 0) + (if r.window.isSome then 2 else 0)
    + (if r.sum.isSome then 4 else 0) + (if r.set.isSome then 8 else 0))

/-- Bytes 8 to 25 of an encoded rule: an absent window term is all zeros (R169). -/
def windowBytes : Option WindowTerm → List Byte
  | some w => [byteOf w.offset, byteOf w.width] ++ padTo 8 w.value ++ padTo 8 w.mask
  | none => List.replicate 18 0#8

/-- Bytes 26 to 30 of an encoded rule. -/
def sumBytes : Option SumTerm → List Byte
  | some t => [byteOf t.offset, byteOf t.span] ++ le16 t.target ++ [flagByte (!t.equal)]
  | none => List.replicate 5 0#8

/-- Bytes 31 to 33 of an encoded rule. -/
def setBytes : Option SetTerm → List Byte
  | some t => [byteOf t.bins.1, byteOf t.offset, flagByte (!t.member)]
  | none => List.replicate 3 0#8

/-- The 36 bytes that encode a rule (Table 10-10, R169). -/
def encodeRule (r : Rule) : List Byte :=
  [ruleFlags r, r.trunk.code, r.addrValue, r.addrMask, r.kindLow, r.kindHigh, byteOf r.lenMin,
    byteOf r.lenMax] ++ windowBytes r.window ++ sumBytes r.sum ++ setBytes r.set ++ r.action.bytes

/-- The bin set that 8 bytes encode: bin 8b + j is bit j of byte b (Table 10-11). -/
def decodeBins (e : List Byte) : BitVec 64 :=
  BitVec.ofNat 64 ((List.range 8).foldl (fun acc b => acc + natAt e b * 256 ^ b) 0)

/-- The 8 bytes that encode a bin set (Table 10-11). -/
def encodeBins (bins : BitVec 64) : List Byte :=
  (List.range 8).map fun b => byteOf (bins.toNat / 256 ^ b)

/-- The default action that the two bytes of a DEFAULT_WRITE name; the channel byte is reserved for DISCARD
(R23, R168). -/
def DefaultAction.ofCode (action channel : Byte) : Option DefaultAction :=
  match action.toNat with
  | 0 => (index? 8 channel).map .deliver
  | 3 => if channel = 0#8 then some .discard else none
  | _ => none

/-- The action byte and the channel byte of a default action (Table 10-7). -/
def DefaultAction.bytes : DefaultAction → List Byte
  | .deliver c => [0#8, byteOf c.1] | .discard => [3#8, 0#8]

/-- The channel settings a CHANNEL_CONFIG body carries, or none when one is out of range (R46, R168). -/
def decodeChannelConfig (body : List Byte) : Option ChannelConfig :=
  match Policy.ofCode (byteAt body 4) with
  | some policy =>
    if natAt body 1 = 1 ∧ 1 ≤ natAt body 2 ∧ natAt body 2 ≤ 64 ∧ natAt body 3 ≤ 64 ∧ 1 ≤ natAt body 5
        ∧ natAt body 5 ≤ 8 ∧ u16At body 6 ≤ 1000 ∧ 1 ≤ natAt body 8 ∧ natAt body 8 ≤ natAt body 2
        ∧ natAt body 9 < natAt body 8 then
      some { depth := natAt body 2, reserve := natAt body 3, policy := policy, trigger := natAt body 5,
             hold := u16At body 6, high := natAt body 8, low := natAt body 9 }
    else none
  | none => none

/-- The trunk settings a TRUNK_CONFIG body carries, or none when one is out of range (R92). -/
def decodeTrunkConfig (body : List Byte) : Option TrunkConfig :=
  match index? 8 (byteAt body 1) with
  | some rate =>
    if 100 ≤ u16At body 2 ∧ natAt body 4 ≤ 3 ∧ 1 ≤ natAt body 5 ∧ natAt body 5 ≤ 15
        ∧ u16At body 6 ≤ 1000 then
      some { rate := rate, timeout := u16At body 2, retries := natAt body 4, missLimit := natAt body 5,
             period := u16At body 6 }
    else none
  | none => none

/-- The counter groups of COUNTERS_READ (Table 10-4). -/
inductive CounterGroup where
  | trunk | station | channel | link
  deriving DecidableEq, Repr

/-- The counter group a code names. -/
def CounterGroup.ofCode (b : Byte) : Option CounterGroup :=
  match b.toNat with
  | 0 => some .trunk | 1 => some .station | 2 => some .channel | 3 => some .link | _ => none

/-- The trunk counters in the order of Table 9-1. -/
def TrunkCounters.list (c : TrunkCounters) : List Nat :=
  [c.pollsSent, c.goodReplies, c.crcFailures, c.broken, c.misaddressed, c.timeouts, c.echoFaults,
    c.strayBytes, c.rounds]

/-- The station counters in the order of Table 9-1. -/
def StationCounters.list (c : StationCounters) : List Nat :=
  [c.turns, c.hits, c.misses, c.accepted, c.duplicates, c.gapLost, c.deferrals, c.discarded, c.restarts,
    c.strayAcks]

/-- The channel counters in the order of Table 9-1. -/
def ChannelCounters.list (c : ChannelCounters) : List Nat :=
  [c.enqueued, c.sent, c.batches, c.keepOldDrops, c.evictions, c.noSlotDrops, c.disabledDrops]

/-- The link counters in the order of Table 9-1. -/
def LinkCounters.list (c : LinkCounters) : List Nat :=
  [c.screened, c.discarded, c.unrouted, c.badCrc, c.tooLong, c.badFrame, c.dropped, c.refusals]

end Sys2Proof.Machine
end

