-- ==== Sys2Proof/Machine/Flags.lean ====
section
/-! DEFINITION. The conditions the part derives from its state: full queues, readiness, the unmet reserve and
the obtainable slot, listening, offers, and the ATTN# condition. -/

namespace Sys2Proof.Machine

/-! ### Channels and the store -/

/-- A queue is full when its length equals the channel's depth (R36). -/
def Channel.full (c : Channel) : Bool := decide (c.config.depth ≤ c.queue.length)

/-- The hold time in microseconds (R52). -/
def Channel.holdMicros (c : Channel) : Nat := c.config.hold * 1000

/-- The five conditions of readiness (R53). -/
def Channel.ready (c : Channel) : Bool :=
  c.enabled && decide (1 ≤ c.credit) && !c.queue.isEmpty && c.inflight.isEmpty
    && (decide (c.config.trigger ≤ c.queue.length) || c.holdRunOut)

/-- The effective reserve: the configured one, or 0 for a DISABLED channel (R31). -/
def Channel.effectiveReserve (c : Channel) : Nat := if c.enabled then c.config.reserve else 0

/-- The part of the channel's effective reserve that its usage leaves unmet (R33). -/
def Channel.unmet (c : Channel) : Nat := c.effectiveReserve - c.usage

/-- The unmet reserve U (R33). -/
def State.unmetReserve (s : State) : Nat := (s.channels.toList.map Channel.unmet).sum

/-- A slot is obtainable for the delivery set: F is at least 1, and F is greater than U or some channel of the
set is below its effective reserve (R33). -/
def State.obtainable (s : State) (channels : List ChannelId) : Bool :=
  decide (1 ≤ s.store.free)
    && (decide (s.unmetReserve < s.store.free)
      || channels.any fun c => decide ((s.channels[c]).usage < (s.channels[c]).effectiveReserve))

/-- The sum of the configured reserves of the channels other than `c` (R46). -/
def State.otherReserves (s : State) (c : ChannelId) : Nat :=
  ((List.finRange 8).map fun d => if d = c then 0 else (s.channels[d]).config.reserve).sum

/-- The lowest-numbered free slot (R39). -/
def Store.lowestFree (st : Store) : Option SlotId :=
  (List.finRange 256).find? fun i => (st.slots[i]).isNone

/-! ### Trunks and stations -/

/-- The trunk whose turn is in flight for the station in slot `i`, if any: the station's turn is in flight
from its beginning to its close (R72). -/
def State.turnInFlight (s : State) (i : StationId) : Bool :=
  s.trunks.toList.any fun t =>
    match t.turn with
    | some turn => turn.slot == i
    | none => false

/-- A character taken now is a stray byte: the controller listens and is neither SENDING, WAITING nor
RECEIVING (R90, R108). -/
def Trunk.hearsStray (t : Trunk) : Bool :=
  match t.state, t.phase with
  | .starting, _ => true
  | .running, .settling _ => true
  | .running, .idle => true
  | .stopping, .settling _ => true
  | .stopping, .idle => true
  | _, _ => false

/-- A station in this state is polled when its place comes (R71). -/
def StationState.pollable : StationState → Bool
  | .probing | .active | .lagging | .lost => true
  | .idle | .suspended | .removing => false

/-- A station is due in round `r` (Table 4-2). -/
def Station.dueIn (st : Station) (slot r : Nat) : Bool :=
  match st.state with
  | .probing | .lagging => true
  | .active => decide (r % 2 ^ st.pollClass = slot % 2 ^ st.pollClass)
  | .lost => decide (r % 16 = slot % 16)
  | .idle | .suspended | .removing => false

/-! ### The host link -/

/-- The link runs as a UART (Table 7-1). -/
def LinkMode.isUart (m : LinkMode) : Bool := !decide (m = .spi)

/-- HOLD# keeps the transmitter from beginning a byte: it is low, in a UART mode (R128). -/
def State.held (s : State) : Bool := s.mode.isUart && s.holdLow

/-- Some channel is offered to the arbiter (R54). -/
def State.anyOffered (s : State) : Bool := s.channels.toList.any Channel.offered

/-- Something waits to be sent: a reply, a notice, or an offered channel (R138). -/
def State.somethingWaits (s : State) : Bool :=
  !s.link.replies.isEmpty || !s.notices.entries.isEmpty || s.anyOffered

/-- The condition that drives ATTN# low (R130). -/
def State.attnCondition (s : State) : Bool := s.somethingWaits || s.link.tx.isSome

/-- Every request accepted before the close has had its reply queued (R141, step 1). -/
def State.earlierAnswered (s : State) (closeTag : Byte) : Bool :=
  s.link.requests.all fun r => r.answered || r.tag == closeTag

/-- Both trunks are STOPPED (R141, step 2). -/
def State.trunksStopped (s : State) : Bool :=
  s.trunks.toList.all fun t => decide (t.state = .stopped)

/-- No channel has an in-flight batch (R141, step 6). -/
def State.noBatchInFlight (s : State) : Bool := s.channels.toList.all fun c => c.inflight.isEmpty

/-- An ordinary notice kind: every kind but NOTICE_LOST (Table 8-1). -/
def Notice.ordinary : Notice → Bool
  | .noticeLost _ => false
  | _ => true

/-- An URGENT notice: TRUNK_STATE and NOTICE_LOST (Table 8-1). -/
def Notice.urgent : Notice → Bool
  | .trunkState .. => true
  | .noticeLost _ => true
  | _ => false

/-- The mask enables the notice's kind; NOTICE_LOST has no flag and is never disabled (R154). -/
def NoticeQueue.enables (q : NoticeQueue) (n : Notice) : Bool :=
  !n.ordinary || q.mask.getLsbD (n.code - 1)

/-- How many entries hold ordinary kinds (R151). -/
def NoticeQueue.ordinaryCount (q : NoticeQueue) : Nat :=
  (q.entries.filter fun e => e.notice.ordinary).length

/-- How many reply queue entries hold refusals (R135). -/
def Link.refusalCount (l : Link) : Nat := (l.replies.filter Reply.refusal).length

end Sys2Proof.Machine
end

