-- ==== Sys2Proof/Machine/Frames.lean ====
section
/-! DEFINITION. Messages and frames: the CRC-16, stuffing, and the byte layouts of chapter 10 for replies,
record batches, notices, POLL and REPLY frames. -/

namespace Sys2Proof.Machine

/-! ### CRC and stuffing -/

/-- One bit of the CRC-16: polynomial x^16 + x^12 + x^5 + 1, most significant bit first (R131). -/
def crcBit (crc : Crc) : Crc := if crc.msb then (crc <<< 1) ^^^ 0x1021#16 else crc <<< 1

/-- The CRC after one more byte. -/
def crcByte (crc : Crc) (b : Byte) : Crc :=
  crcBit (crcBit (crcBit (crcBit (crcBit (crcBit (crcBit (crcBit (crc ^^^ (b.setWidth 16 <<< 8)))))))))

/-- The CRC-16 of a run of bytes: initial value 0xFFFF, not reflected, no final inversion (R131). -/
def crc16 (bytes : List Byte) : Crc := bytes.foldl crcByte 0xFFFF#16

/-- A CRC as its two bytes, high byte first. -/
def crcBytes (crc : Crc) : List Byte := [(crc >>> 8).setWidth 8, crc.setWidth 8]

/-- One content byte as it goes on the wire (R132). -/
def stuffByte (b : Byte) : List Byte :=
  if b = Config.delimiter ∨ b = Config.escape then [Config.escape, b ^^^ 0x20#8] else [b]

/-- Stuffed content (R132). -/
def stuff (content : List Byte) : List Byte := content.flatMap stuffByte

/-- Kind, tag, body length and body of a host frame: what its CRC covers (R131). -/
def frameHead (kind tag : Byte) (body : List Byte) : List Byte := [kind, tag] ++ le16 body.length ++ body

/-- The content of a host frame (R131). -/
def frameContent (kind tag : Byte) (body : List Byte) : List Byte :=
  frameHead kind tag body ++ crcBytes (crc16 (frameHead kind tag body))

/-- The bytes of an outbound message on the wire. `chained` says that the closing delimiter of the message
before serves as its opening (R132). -/
def frameWire (chained : Bool) (kind tag : Byte) (body : List Byte) : List Byte :=
  (if chained then [] else [Config.delimiter]) ++ stuff (frameContent kind tag body) ++ [Config.delimiter]

/-! ### Bodies of replies, batches and notices -/

/-- The body of a reply: kind, status, results (R166). -/
def Reply.body (r : Reply) : List Byte := [r.kind, r.status.code] ++ r.results

/-- A record as a batch carries it (Table 10-12). -/
def Record.bytes (r : Record) : List Byte :=
  [byteOf (128 * r.trunk.1 + r.station.1), r.address, r.kind, r.seq] ++ le32 r.stamp.toNat
    ++ [byteOf r.payload.length] ++ r.payload

/-- The body of a RECORD_BATCH (R56, R170). -/
def batchBody (channel : ChannelId) (records : List Record) : List Byte :=
  [byteOf channel.1, byteOf records.length] ++ records.flatMap Record.bytes

/-- The fields of a notice from byte 5 of its body (Table 10-13). -/
def Notice.fields : Notice → List Byte
  | .stationState slot trunk address was now changes =>
    [byteOf slot.1, byteOf trunk.1, address, was.code, now.code] ++ le16 changes
  | .sequence slot gaps restarts => [byteOf slot.1] ++ le16 gaps ++ le16 restarts
  | .directiveDone id slot outcome result attempts =>
    le16 id ++ [byteOf slot.1, outcome.code, result, byteOf attempts]
  | .channelLevel channel level flips => [byteOf channel.1, level.code] ++ le16 flips
  | .channelLoss channel loss =>
    [byteOf channel.1] ++ le16 loss.disabled ++ le16 loss.keepOld ++ le16 loss.keepNew ++ le16 loss.noSlot
  | .trunkState trunk was now cause => [byteOf trunk.1, was.code, now.code, cause.code]
  | .noticeLost count => le16 count

/-- The body of a NOTICE (R171). -/
def NoticeEntry.body (e : NoticeEntry) : List Byte :=
  [byteOf e.notice.code] ++ le32 e.time.toNat ++ e.notice.fields

/-! ### POLL frames -/

/-- The fields a POLL carries for the directive attached to the turn: number, length, payload; number 0 and
length 0 when none is attached (R101, Table 10-14). -/
def directiveBytes : Option Directive → List Byte
  | some d => [byteOf d.number, byteOf d.payload.length] ++ d.payload
  | none => [0#8, 0#8]

/-- The flags byte of a POLL: bit 0 ack valid, bit 1 directive present. -/
def pollFlags (baseline : Option Byte) (directive : Option Directive) : Byte :=
  byteOf ((if baseline.isSome then 1 else 0) + (if directive.isSome then 2 else 0))

/-- Address, body length and body of a POLL: what its CRC covers (R101, R172). -/
def pollHead (address : Byte) (baseline : Option Byte) (directive : Option Directive) : List Byte :=
  [address, byteOf (2 + (directiveBytes directive).length), pollFlags baseline directive,
    baseline.getD 0#8] ++ directiveBytes directive

/-- The bytes of a POLL (R101, R172). -/
def pollBytes (address : Byte) (baseline : Option Byte) (directive : Option Directive) : List Byte :=
  [Config.pollLead] ++ pollHead address baseline directive
    ++ crcBytes (crc16 (pollHead address baseline directive))

/-! ### REPLY frames -/

/-- What a valid REPLY hands to the roster (R173). -/
structure ReplyFrame where
  restart : Bool
  ack     : Byte
  result  : Byte
  records : List ReplyRecord
  deriving DecidableEq, Repr

/-- Reads exactly `count` records that fill the bytes exactly (R173). -/
def replyRecords : Nat → List Byte → Option (List ReplyRecord)
  | 0, [] => some []
  | 0, _ :: _ => none
  | count + 1, kind :: seq :: len :: rest =>
    if len.toNat ≤ 56 ∧ len.toNat ≤ rest.length then
      (replyRecords count (rest.drop len.toNat)).map fun rs =>
        { kind := kind, seq := seq, payload := rest.take len.toNat } :: rs
    else none
  | _ + 1, _ => none

/-- The structure check of a REPLY's body; none when it is broken (R105, R173). -/
def replyStructure : List Byte → Option ReplyFrame
  | flags :: ack :: result :: count :: rest =>
    if count.toNat ≤ 4 then
      (replyRecords count.toNat rest).map fun rs =>
        { restart := flags.getLsbD 0, ack := ack, result := result, records := rs }
    else none
  | _ => none

/-- The body length byte of a REPLY under reception. -/
def replyLength (chars : List Byte) : Nat := natAt chars 2

/-- A REPLY is complete after 5 + the body length characters (R104). -/
def replyComplete (chars : List Byte) : Bool :=
  decide (3 ≤ chars.length) && decide (5 + replyLength chars ≤ chars.length)

/-- The verdict on a complete REPLY (R105). -/
inductive Verdict where
  | crcFailure
  | misaddressed
  | broken
  | valid (frame : ReplyFrame)
  deriving DecidableEq, Repr

/-- Judges a complete REPLY: CRC, then address, then structure (R105). -/
def judgeReply (address : Byte) (chars : List Byte) : Verdict :=
  let body := (chars.drop 3).take (replyLength chars)
  if crcBytes (crc16 ((chars.drop 1).take (2 + replyLength chars)))
      ≠ (chars.drop (3 + replyLength chars)).take 2 then .crcFailure
  else if byteAt chars 1 ≠ address then .misaddressed
  else match replyStructure body with
    | some frame => .valid frame
    | none => .broken

/-! ### Host frames received -/

/-- What a delimiter makes of the content collected (R133). -/
inductive FrameVerdict where
  | ignored
  | badFrame
  | badCrc
  | good (kind tag : Byte) (body : List Byte)
  deriving DecidableEq, Repr

/-- The CRC over all but the last two bytes agrees with them. -/
def contentCrcGood (content : List Byte) : Bool :=
  crcBytes (crc16 (content.take (content.length - 2))) == content.drop (content.length - 2)

/-- Judges the content of a frame that a delimiter ends (R133). -/
def judgeContent (content : List Byte) : FrameVerdict :=
  match content with
  | [] => .ignored
  | [_] => .badFrame
  | kind :: tag :: rest =>
    if !contentCrcGood content then .badCrc
    else if content.length < 6 then .badFrame
    else if u16At content 2 ≠ content.length - 6 then .badFrame
    else .good kind tag ((rest.drop 2).take (content.length - 6))

end Sys2Proof.Machine
end

