-- ==== Sys2Proof/Machine/Ops.lean ====
section
/-! DEFINITION. The operations the commands share: state updates, the time base, counters, replies, notices,
references to record slots, channel queues and their evaluations, the outbound arbiter, and the end of every
step. -/

namespace Sys2Proof.Machine

/-! ### State updates -/

/-- The state with channel `c` replaced. -/
def State.setChannel (s : State) (c : ChannelId) (x : Channel) : State :=
  { s with channels := setAt s.channels c x }

/-- The state with trunk `t` replaced. -/
def State.setTrunk (s : State) (t : TrunkId) (x : Trunk) : State := { s with trunks := setAt s.trunks t x }

/-- The state with roster slot `i` replaced. -/
def State.setStation (s : State) (i : StationId) (x : Option Station) : State :=
  { s with roster := setAt s.roster i x }

/-- Applies `f` to the entry of roster slot `i`, if the slot is occupied. -/
def State.mapStation (s : State) (i : StationId) (f : Station → Station) : State :=
  s.setStation i ((s.roster[i]).map f)

/-- The state with its link controller replaced. -/
def State.setLink (s : State) (l : Link) : State := { s with link := l }

/-- The state with its notice queue replaced. -/
def State.setNotices (s : State) (q : NoticeQueue) : State := { s with notices := q }

/-- The state with its directive entries replaced. -/
def State.setDirectives (s : State) (es : List Directive) : State :=
  { s with directives := { s.directives with entries := es } }

/-! ### Time -/

/-- Time passes: the time base moves on by `dt` microseconds (R163). -/
def State.elapse (s : State) (dt : Nat) : State := { s with timeBase := later s.timeBase dt }

/-- The time base comes to `now`, the moment of an event. -/
def State.comeTo (s : State) (now : Time) : State := { s with timeBase := now }

/-- The time base comes to `due`, unless it has come to it already: the moment at which an expiry armed for
`due` is taken (R164, log entry 2). -/
def State.advanceTo (s : State) (due : Time) : State :=
  { s with timeBase := if reached due s.timeBase then s.timeBase else due }

/-- One count of the time base: what passes when no command waits. It holds 0 while RESET# is low (R163). -/
def State.tick (s : State) : State := if s.inReset then s else s.elapse 1

/-! ### Counters -/

/-- A counter raised by `n`, stopping at its ceiling (R157). -/
def bump (counter n : Nat) : Nat := min (counter + n) Config.counterMax

/-- A notice's count raised by `n`, stopping at 65,535 (chapter 8). -/
def noticeSum (count n : Nat) : Nat := min (count + n) Config.noticeMax

/-- Applies `f` to the LINK counters. -/
def State.countLink (s : State) (f : LinkCounters → LinkCounters) : State :=
  s.setLink { s.link with counters := f s.link.counters }

/-- Applies `f` to the TRUNK counters of `t`. -/
def State.countTrunk (s : State) (t : TrunkId) (f : TrunkCounters → TrunkCounters) : State :=
  s.setTrunk t { s.trunks[t] with counters := f (s.trunks[t]).counters }

/-- Applies `f` to the STATION counters of slot `i`. -/
def State.countStation (s : State) (i : StationId) (f : StationCounters → StationCounters) : State :=
  s.mapStation i fun st => { st with counters := f st.counters }

/-! ### Replies (R134, R135, R166) -/

/-- The request with this tag has had its reply queued (R134). -/
def markAnswered (tag : Byte) (rs : List Request) : List Request :=
  rs.map fun r => if r.tag = tag then { r with answered := true } else r

/-- Queues the reply to the accepted request with this tag and kind (R134, R135, R166). -/
def State.answer (s : State) (kind tag : Byte) (status : Status) (results : List Byte) : State :=
  s.setLink { s.link with
    requests := markAnswered tag s.link.requests
    replies := s.link.replies ++
      [{ tag := tag, kind := kind, status := status, results := results, refusal := false }] }

/-- Queues a refusal, or drops the request when the four refusal entries are taken (R135). -/
def State.refuse (s : State) (kind tag : Byte) (status : Status) : State :=
  if s.link.refusalCount < Config.maxRefusals then
    s.setLink { s.link with
      replies := s.link.replies ++
        [{ tag := tag, kind := kind, status := status, results := [], refusal := true }]
      counters := { s.link.counters with refusals := bump s.link.counters.refusals 1 } }
  else s.countLink fun c => { c with dropped := bump c.dropped 1 }

/-! ### Notices (R146 to R153) -/

/-- The counts of two losses added, each stopping at 65,535 (R149). -/
def Loss.merge (old new : Loss) : Loss :=
  { disabled := noticeSum old.disabled new.disabled, keepOld := noticeSum old.keepOld new.keepOld,
    keepNew := noticeSum old.keepNew new.keepNew, noSlot := noticeSum old.noSlot new.noSlot }

/-- The notice that `new` merged into an entry makes of it, or none when the entry is no partner of `new`
(Table 8-1, R147 to R150). -/
def NoticeEntry.merged (e : NoticeEntry) (new : Notice) : Option Notice :=
  match e.notice, new with
  | .stationState slot trunk address was _ changes, .stationState slot' trunk' address' _ now' changes' =>
    if e.mergeOpen ∧ slot = slot' ∧ trunk = trunk' ∧ address = address' then
      some (.stationState slot trunk address was now' (noticeSum changes changes'))
    else none
  | .sequence slot gaps restarts, .sequence slot' gaps' restarts' =>
    if e.mergeOpen ∧ slot = slot' then
      some (.sequence slot (noticeSum gaps gaps') (noticeSum restarts restarts'))
    else none
  | .channelLevel c _ flips, .channelLevel c' level' _ =>
    if c = c' then some (.channelLevel c level' (noticeSum flips 1)) else none
  | .channelLoss c loss, .channelLoss c' loss' =>
    if c = c' then some (.channelLoss c (loss.merge loss')) else none
  | .trunkState t was _ _, .trunkState t' _ now' cause' =>
    if t = t' then some (.trunkState t was now' cause') else none
  | _, _ => none

/-- Merges `new` into its partner, in place (R147); none when there is no partner. -/
def mergeNotice (new : Notice) : List NoticeEntry → Option (List NoticeEntry)
  | [] => none
  | e :: es =>
    match e.merged new with
    | some n => some ({ e with notice := n } :: es)
    | none => (mergeNotice new es).map (e :: ·)

/-- Coalescing, appending or losing a notice that has passed the filters (R147, R151). -/
def NoticeQueue.take (q : NoticeQueue) (now : Time) (new : Notice) : NoticeQueue :=
  match mergeNotice new q.entries with
  | some es => { q with entries := es }
  | none =>
    if q.ordinaryCount < Config.maxOrdinary then
      { q with entries := q.entries ++ [{ time := now, mergeOpen := true, notice := new }] }
    else { q with lost := noticeSum q.lost 1 }

/-- A notice is raised: the session and mask filters, then the queue (R146). -/
def State.raise (s : State) (new : Notice) : State :=
  if s.link.session = .opened ∧ s.notices.enables new then
    s.setNotices (s.notices.take s.timeBase new)
  else s

/-- Adds a count to the NOTICE_LOST entry, if the queue holds one (R152). -/
def addToLost (count : Nat) : List NoticeEntry → Option (List NoticeEntry)
  | [] => none
  | e :: es =>
    match e.notice with
    | .noticeLost n => some ({ e with notice := .noticeLost (noticeSum n count) } :: es)
    | _ => (addToLost count es).map (e :: ·)

/-- What the departure of an entry does with the lost-notice count (R152). -/
def NoticeQueue.afterDeparture (q : NoticeQueue) (now : Time) : NoticeQueue :=
  if q.lost = 0 then q
  else match addToLost q.lost q.entries with
    | some es => { q with entries := es, lost := 0 }
    | none =>
      { q with entries := q.entries ++ [{ time := now, mergeOpen := false, notice := .noticeLost q.lost }],
               lost := 0 }

/-- Takes the first element that satisfies `p` out of a list. -/
def takeFirst {α : Type} (p : α → Bool) : List α → Option (α × List α)
  | [] => none
  | a :: as => if p a then some (a, as) else (takeFirst p as).map fun r => (r.1, a :: r.2)

/-- The entry the notice queue offers, and the rest: the oldest URGENT one, else the oldest ROUTINE one
(R153). -/
def NoticeQueue.offer (q : NoticeQueue) : Option (NoticeEntry × List NoticeEntry) :=
  match takeFirst (fun e => e.notice.urgent) q.entries with
  | some r => some r
  | none => takeFirst (fun _ => true) q.entries

/-- The completion of a removal: entries of the slot no longer take merges (R148). -/
def NoticeQueue.closeMerging (q : NoticeQueue) (i : StationId) : NoticeQueue :=
  { q with entries := q.entries.map fun e =>
      match e.notice with
      | .stationState slot _ _ _ _ _ => if slot = i then { e with mergeOpen := false } else e
      | .sequence slot _ _ => if slot = i then { e with mergeOpen := false } else e
      | _ => e }

/-! ### References to record slots (R41) -/

/-- The end of one reference to a slot (R41). -/
def Store.release (st : Store) (i : SlotId) : Store :=
  match st.slots[i] with
  | none => st
  | some x =>
    if x.refs ≤ 1 then { slots := setAt st.slots i none, free := st.free + 1 }
    else { st with slots := setAt st.slots i (some { x with refs := x.refs - 1 }) }

/-- The ends of references to several slots, in order. -/
def Store.releaseAll (st : Store) (is : List SlotId) : Store := is.foldl Store.release st

/-- A record takes the slot `i` with `refs` references (R39). -/
def Store.occupy (st : Store) (i : SlotId) (r : Record) (refs : Nat) : Store :=
  { slots := setAt st.slots i (some { record := r, refs := refs }), free := st.free - 1 }

/-! ### Channel queues (R48, R49, R52, R58) -/

/-- The head entry leaves the queue, its reference ends with it (R37, R48), and its hold flag and armed expiry are gone
(R52). -/
def Channel.dropHead (c : Channel) : Channel :=
  { c with queue := c.queue.tail, usage := c.usage - 1, holdRunOut := false, holdDue := none }

/-- An entry is appended (R39, R48). -/
def Channel.append (c : Channel) (now : Time) (i : SlotId) : Channel :=
  { c with queue := c.queue ++ [{ slot := i, time := now }], usage := c.usage + 1,
           counters := { c.counters with enqueued := bump c.counters.enqueued 1 } }

/-- Every entry leaves the queue (R43); the channel's part of it. -/
def Channel.emptied (c : Channel) : Channel :=
  { c with queue := [], usage := c.usage - c.queue.length, holdRunOut := false, holdDue := none }

/-- The hold flag after its evaluation for the entry now at the head: once run out it stays run out until that entry
leaves (R49, R52). -/
def Channel.evalHold (c : Channel) (now : Time) : Channel :=
  match c.queue with
  | [] => { c with holdRunOut := false, holdDue := none }
  | e :: _ =>
    if c.holdRunOut ∨ c.holdMicros ≤ elapsed e.time now then { c with holdRunOut := true, holdDue := none }
    else { c with holdRunOut := false, holdDue := some (later e.time c.holdMicros) }

/-- The hold evaluation of channel `c` (R49, R52). -/
def State.evalHold (s : State) (c : ChannelId) : State := s.setChannel c ((s.channels[c]).evalHold s.timeBase)

/-- The level after the mark evaluation (R58). -/
def Channel.markedLevel (c : Channel) : Level :=
  match c.level with
  | .normal => if c.config.high ≤ c.queue.length then .filling else .normal
  | .filling => if c.queue.length ≤ c.config.low then .normal else .filling

/-- The mark evaluation of channel `c`, with the CHANNEL_LEVEL notice of a change (R58, R59). -/
def State.evalMarks (s : State) (c : ChannelId) : State :=
  let x := s.channels[c]
  if x.markedLevel = x.level then s
  else (s.setChannel c { x with level := x.markedLevel }).raise (.channelLevel c x.markedLevel 1)

/-- The readiness evaluation of channel `c`: the offer is made or withdrawn (R54). -/
def State.evalReady (s : State) (c : ChannelId) : State :=
  let x := s.channels[c]
  s.setChannel c { x with offered := x.ready }

/-- The evaluations that end an event which changed the channel's queue: the hold flag, the marks, then readiness
(R49). -/
def State.evalChannel (s : State) (c : ChannelId) : State := ((s.evalHold c).evalMarks c).evalReady c

/-- Every queue entry of channel `c` is removed, oldest first, each releasing its reference (R43). -/
def State.flushQueue (s : State) (c : ChannelId) : State :=
  let x := s.channels[c]
  { s.setChannel c x.emptied with store := s.store.releaseAll (x.queue.map QueueEntry.slot) }

/-! ### Batches (R55 to R57, R170) -/

/-- The records the slots hold, in order. -/
def Store.recordsOf (st : Store) (is : List SlotId) : List Record :=
  is.filterMap fun i => (st.slots[i]).map Stored.record

/-- How many records a batch of the channel takes (R55). -/
def Channel.batchSize (c : Channel) : Nat := min c.queue.length (min c.credit Config.maxBatch)

/-- The channel after it has formed a batch, before the evaluations: the head entry has left with its hold flag (R52,
R55). -/
def Channel.formBatch (c : Channel) : Channel :=
  { c with queue := c.queue.drop c.batchSize,
           inflight := (c.queue.take c.batchSize).map QueueEntry.slot,
           credit := c.credit - c.batchSize, holdRunOut := false, holdDue := none }

/-- The completion of channel `c`'s batch (R42, R57). -/
def State.completeBatch (s : State) (c : ChannelId) : State :=
  let x := s.channels[c]
  let n := x.inflight.length
  let done := { x with
    inflight := [], usage := x.usage - n,
    counters := { x.counters with sent := bump x.counters.sent n, batches := bump x.counters.batches 1 } }
  { s.setChannel c done with store := s.store.releaseAll x.inflight }.evalReady c

/-! ### The outbound arbiter (R132, R138) -/

/-- A message goes into transmission. -/
def State.transmit (s : State) (what : Outgoing) (wire : List Byte) (run : Nat) : State :=
  s.setLink { s.link with tx := some { what := what, wire := wire, sent := 0 }, nonBatchRun := run }

/-- The non-batch run after a reply or a notice is picked (R138). -/
def State.nextRun (s : State) : Nat := if s.anyOffered then s.link.nonBatchRun + 1 else 0

/-- The first offered channel counting upward from the channel after the last served (R138). -/
def State.nextOffered (s : State) : Option ChannelId :=
  ((List.finRange 8).map fun k => s.link.lastServed + 1 + k).find? fun c => (s.channels[c]).offered

/-- The oldest reply is picked; it keeps its entry (R138). -/
def State.sendReply (s : State) (chained : Bool) (r : Reply) : State :=
  s.transmit (.reply r) (frameWire chained Config.replyKind r.tag r.body) s.nextRun

/-- The offered notice is picked: it leaves the queue, and its departure is taken (R152, R153). -/
def State.sendNotice (s : State) (chained : Bool) (e : NoticeEntry) (rest : List NoticeEntry) : State :=
  (s.setNotices ({ s.notices with entries := rest }.afterDeparture s.timeBase)).transmit (.notice e)
    (frameWire chained Config.noticeKind 0#8 e.body) s.nextRun

/-- A ready channel takes the arbiter's grant: it forms its batch, which goes into transmission (R55, R138). -/
def State.sendBatch (s : State) (chained : Bool) (c : ChannelId) : State :=
  let formed := ((s.setChannel c ((s.channels[c]).formBatch)).evalChannel c).transmit (.batch c)
    (frameWire chained Config.batchKind 0#8
      (batchBody c (s.store.recordsOf (((s.channels[c]).formBatch).inflight)))) 0
  formed.setLink { formed.link with lastServed := c }

/-- Channel `c`'s offer is withdrawn. -/
def State.withdrawOffer (s : State) (c : ChannelId) : State :=
  s.setChannel c { s.channels[c] with offered := false }

/-- One pick of the arbiter (R138). A channel that is offered and not ready declines its grant, and the pick is
made again without its offer (R55); `fuel` bounds the declines, and 9 covers all 8 channels. -/
def State.pick (chained : Bool) : Nat → State → State
  | 0, s => s
  | fuel + 1, s =>
    let batch : State :=
      match s.nextOffered with
      | none => s
      | some c =>
        if (s.channels[c]).ready then s.sendBatch chained c
        else State.pick chained fuel (s.withdrawOffer c)
    if s.link.nonBatchRun = 4 ∧ s.anyOffered then batch
    else match s.link.replies with
      | r :: _ => s.sendReply chained r
      | [] =>
        match s.notices.offer with
        | some (e, rest) => s.sendNotice chained e rest
        | none => batch

/-- The arbiter picks when the transmitter is free (R138). -/
def State.arbitrate (s : State) (chained : Bool) : State :=
  if s.link.tx.isNone then State.pick chained 9 s else s

/-! ### Pins, and the end of every step -/

/-- The byte the part supplies at the next SPI exchange: the next byte of the message in transmission, or the
fill byte (R129). -/
def State.spiByte (s : State) : Byte :=
  match s.link.tx with
  | some m => m.wire.getD m.sent Config.delimiter
  | none => Config.delimiter

/-- The level of HTXD or MISO (R127 to R129). With HCS# low and no byte clocked yet, as after a RESET# release into the
SPI mode, the spec names no level: DESIGN CHOICE, the byte of the next exchange is driven at once (log entry 27). -/
def State.outPin (s : State) : HostOut :=
  if s.mode.isUart then
    if s.inReset then .mark
    else match s.link.tx with
      | some m => if s.holdLow && decide (m.sent < m.wire.length) then .mark else .sending
      | none => .mark
  else if s.inReset || s.hcsIsHigh then .highZ
  else match s.hostOut with
    | .driving b => .driving b
    | _ => .driving s.spiByte

/-- The output pins follow the state (R127, R130). -/
def State.drivePins (s : State) : State :=
  { s with attnLow := !s.inReset && s.attnCondition, hostOut := s.outPin }

/-- The end of a step: the arbiter picks if the transmitter is free, and the pins follow (R130, R138). -/
def State.finish (s : State) (chained : Bool) : State := (s.arbitrate chained).drivePins

/-- The outcome of a command: its effect and the end of the step. While RESET# is low every block is held in
reset and nothing is taken (R127, R162). -/
def perform (effect : State → State) (s : State) : Host.Outcome State Fault Refusal :=
  .next (if s.inReset then s else (effect s).finish false)

/-! ### Resets (R143, R144) -/

/-- Everything a reset clears is cleared; the waiting commands, the pin levels from outside and the host link
mode stay. -/
def State.cleared (s : State) : State :=
  { State.reset with pending := s.pending, inReset := s.inReset, holdLow := s.holdLow,
                     hcsIsHigh := s.hcsIsHigh, mode := s.mode }

/-! ### Acceptance (R136) -/

/-- The tag and table checks, the last two of acceptance (R136). -/
def State.tableCheck (s : State) (tag : Byte) : Option Status :=
  if s.link.requests.any fun r => r.tag == tag then some .tagInUse
  else if Config.maxOutstanding ≤ s.link.requests.length then some .busy
  else none

/-- The session, tag and table checks of acceptance, in that order (R136). -/
def State.sessionCheck (s : State) (kind tag : Byte) : Option Status :=
  match s.link.session with
  | .closed => if kind = 0x01#8 ∨ kind = 0x03#8 then s.tableCheck tag else some .notOpen
  | .closing _ _ => if kind = 0x03#8 then s.tableCheck tag else some .wrongState
  | .opened => s.tableCheck tag

/-- The first check of acceptance that a good frame fails, as the status of its refusal; none when the request
is accepted (R136). -/
def State.acceptance (s : State) (kind tag : Byte) (body : List Byte) : Option Status :=
  if tag = 0#8 then some .badArg
  else match Config.bodyLengths kind with
    | none => some .unknownKind
    | some lengths =>
      if lengths.contains body.length then s.sessionCheck kind tag else some .badLength

/-- An accepted request takes a slot of the request table (R134). -/
def State.enter (s : State) (kind tag : Byte) : State :=
  s.setLink { s.link with
    requests := s.link.requests ++ [{ tag := tag, kind := kind, answered := false }] }

/-- Acceptance takes a good frame: discarded while a PART_RESET is pending, else refused by the first check
that fails, else accepted and dispatched to its owner in the same event (R134, R136). -/
def takeFrame (kind tag : Byte) (body : List Byte) (owner : State → State) (s : State) : State :=
  if s.link.resetPending then s
  else match s.acceptance kind tag body with
    | some status => s.refuse kind tag status
    | none => owner (s.enter kind tag)

end Sys2Proof.Machine
end

