-- ==== Sys2Proof/Machine/Channels.lean ====
section
/-! DEFINITION. The channel unit's requests and its hold expiry (chapter 3). -/

namespace Sys2Proof.Machine

/-- CHANNEL_CONFIG that enables, at its owner: the checks in their order, then the settings (R46). -/
def channelEnable (tag : Byte) (body : List Byte) (s : State) : State :=
  match index? 8 (byteAt body 0), decodeChannelConfig body with
  | some c, some config =>
    let x := s.channels[c]
    if x.enabled ∧ x.usage ≠ 0 then s.answer 0x18#8 tag .busy []
    else if Config.maxReserves < s.otherReserves c + config.reserve then s.answer 0x18#8 tag .noRoom []
    else
      ((s.setChannel c { x with config := config, enabled := true, level := .normal }).evalReady c).answer
        0x18#8 tag .ok [0#8]
  | _, _ => s.answer 0x18#8 tag .badArg []

/-- CHANNEL_CONFIG that disables, at its owner (R47). Its ignored bytes 2 to 9 are not kept, and the settings that stood
before stay configured and reported, as R45, R47 and R61 say; R168 would have these fields reported as 0 (DESIGN CHOICE,
log entry 26). -/
def channelDisable (tag : Byte) (body : List Byte) (s : State) : State :=
  match index? 8 (byteAt body 0) with
  | some c =>
    let flushed := s.flushQueue c
    ((flushed.setChannel c { flushed.channels[c] with credit := 0, enabled := false }).evalChannel c).answer
      0x18#8 tag .ok [byteOf (s.channels[c]).queue.length]
  | none => s.answer 0x18#8 tag .badArg []

/-- CHANNEL_CREDIT at its owner (R51). DESIGN CHOICE: n is tested before the channel's state, so n = 0 on a DISABLED
channel is answered BAD_ARG; R51 gives no order of the two checks (log entry 28). -/
def channelCredit (tag : Byte) (body : List Byte) (s : State) : State :=
  match index? 8 (byteAt body 0) with
  | some c =>
    let x := s.channels[c]
    let credit := min Config.maxCredit (x.credit + natAt body 1)
    if natAt body 1 = 0 then s.answer 0x19#8 tag .badArg []
    else if !x.enabled then s.answer 0x19#8 tag .wrongState []
    else ((s.setChannel c { x with credit := credit }).evalReady c).answer 0x19#8 tag .ok [byteOf credit]
  | none => s.answer 0x19#8 tag .badArg []

/-- CHANNEL_FLUSH at its owner (R60). -/
def channelFlush (tag : Byte) (body : List Byte) (s : State) : State :=
  match index? 8 (byteAt body 0) with
  | some c =>
    ((s.flushQueue c).evalChannel c).answer 0x1A#8 tag .ok [byteOf (s.channels[c]).queue.length]
  | none => s.answer 0x1A#8 tag .badArg []

/-- What CHANNEL_QUERY reports of channel `c` (R61, Table 10-8). -/
def channelReport (c : ChannelId) (x : Channel) : List Byte :=
  [byteOf c.1, flagByte x.enabled, byteOf x.config.depth, byteOf x.config.reserve, x.config.policy.code,
    byteOf x.config.trigger] ++ le16 x.config.hold
    ++ [byteOf x.config.high, byteOf x.config.low, byteOf x.credit, byteOf x.queue.length, byteOf x.usage,
      byteOf x.inflight.length, x.level.code]

/-- CHANNEL_QUERY at its owner (R61). -/
def channelQuery (tag : Byte) (body : List Byte) (s : State) : State :=
  match index? 8 (byteAt body 0) with
  | some c => s.answer 0x1B#8 tag .ok (channelReport c s.channels[c])
  | none => s.answer 0x1B#8 tag .badArg []

/-- A hold expiry at its channel: an expiry that is not armed does not happen (R52). -/
def holdExpiry (c : ChannelId) (s : State) : State :=
  match (s.channels[c]).holdDue with
  | some due =>
    ((s.advanceTo due).setChannel c { s.channels[c] with holdRunOut := true, holdDue := none }).evalReady c
  | none => s

/-- The flush step of a close at one channel (R62). -/
def State.flushChannel (s : State) (c : ChannelId) : State :=
  let flushed := s.flushQueue c
  (flushed.setChannel c { flushed.channels[c] with credit := 0 }).evalChannel c

/-- The flush step of a close, at all eight channels (R62). -/
def State.flushStep (s : State) : State := (List.finRange 8).foldl State.flushChannel s

/-! ### The frames of these requests at acceptance -/

/-- An enabling CHANNEL_CONFIG frame at acceptance. -/
def takeChannelConfigEnable (tag : Byte) (body : List Byte) : State → State :=
  takeFrame 0x18#8 tag body (channelEnable tag body)

/-- A disabling CHANNEL_CONFIG frame at acceptance. -/
def takeChannelConfigDisable (tag : Byte) (body : List Byte) : State → State :=
  takeFrame 0x18#8 tag body (channelDisable tag body)

/-- A CHANNEL_CREDIT frame at acceptance. -/
def takeChannelCredit (tag : Byte) (body : List Byte) : State → State :=
  takeFrame 0x19#8 tag body (channelCredit tag body)

/-- A CHANNEL_FLUSH frame at acceptance. -/
def takeChannelFlush (tag : Byte) (body : List Byte) : State → State :=
  takeFrame 0x1A#8 tag body (channelFlush tag body)

/-- A CHANNEL_QUERY frame at acceptance. -/
def takeChannelQuery (tag : Byte) (body : List Byte) : State → State :=
  takeFrame 0x1B#8 tag body (channelQuery tag body)

/-- CHANNEL_CONFIG that enables (R46). -/
def execChannelConfigEnable (tag : Byte) (body : List Byte) (s : State) :
    Host.Outcome State Fault Refusal := perform (takeChannelConfigEnable tag body) s

/-- CHANNEL_CONFIG that disables (R47). -/
def execChannelConfigDisable (tag : Byte) (body : List Byte) (s : State) :
    Host.Outcome State Fault Refusal := perform (takeChannelConfigDisable tag body) s

/-- CHANNEL_CREDIT (R51). -/
def execChannelCredit (tag : Byte) (body : List Byte) (s : State) : Host.Outcome State Fault Refusal :=
  perform (takeChannelCredit tag body) s

/-- CHANNEL_FLUSH (R60). -/
def execChannelFlush (tag : Byte) (body : List Byte) (s : State) : Host.Outcome State Fault Refusal :=
  perform (takeChannelFlush tag body) s

/-- CHANNEL_QUERY (R61). -/
def execChannelQuery (tag : Byte) (body : List Byte) (s : State) : Host.Outcome State Fault Refusal :=
  perform (takeChannelQuery tag body) s

/-- HOLD_EXPIRY (R52). -/
def execHoldExpiry (c : ChannelId) (s : State) : Host.Outcome State Fault Refusal :=
  perform (holdExpiry c) s

end Sys2Proof.Machine
end

