-- ==== Sys2Proof/Machine/Directives.lean ====
section
/-! DEFINITION. The directive queue (chapter 6): assignment, attachment, settlement, aborts, and its requests. -/

namespace Sys2Proof.Machine

/-! ### The checks of a roster slot (R66) -/

/-- The entry of the roster slot that a request's byte names, or the status of the refusal (R66). -/
def State.rosterCheck (s : State) (b : Byte) : Except Status (StationId × Station) :=
  match index? 64 b with
  | none => .error .badArg
  | some i =>
    match s.roster[i] with
    | none => .error .notFound
    | some st => if st.state = .removing then .error .wrongState else .ok (i, st)

/-! ### Numbers and ids (R112) -/

/-- The directive id after `id`: 65,535 is followed by 1. -/
def nextDirectiveId (id : Nat) : Nat := if id = 65535 then 1 else id + 1

/-- The directive number after `n`: 63 is followed by 1. -/
def nextDirectiveNumber (n : Nat) : Nat := if n = 63 then 1 else n + 1

/-- The first value from `v` on, stepping by `next`, that is not used; `fuel` is more than the values used. -/
def firstUnused (next : Nat → Nat) (used : List Nat) : Nat → Nat → Nat
  | 0, v => v
  | fuel + 1, v => if used.contains v then firstUnused next used fuel (next v) else v

/-- The entries of the station in slot `i`, oldest first. -/
def DirectiveQueue.ofStation (q : DirectiveQueue) (i : StationId) : List Directive :=
  q.entries.filter fun d => d.slot = i

/-- The id a new entry takes (R112). -/
def DirectiveQueue.newId (q : DirectiveQueue) : Nat :=
  firstUnused nextDirectiveId (q.entries.map Directive.id) (q.entries.length + 1) q.nextId

/-- The directive number a new entry of slot `i` takes, from the station's next directive number (R112). -/
def DirectiveQueue.newNumber (q : DirectiveQueue) (i : StationId) (next : Nat) : Nat :=
  firstUnused nextDirectiveNumber ((q.ofStation i).map Directive.number) ((q.ofStation i).length + 1) next

/-- The entry that holds an id. -/
def DirectiveQueue.find (q : DirectiveQueue) (id : Nat) : Option Directive :=
  q.entries.find? fun d => d.id = id

/-- The entries without those that hold the id. -/
def DirectiveQueue.without (q : DirectiveQueue) (id : Nat) : List Directive :=
  q.entries.filter fun d => d.id ≠ id

/-- The entries with `f` applied to those that hold the id. -/
def DirectiveQueue.modify (q : DirectiveQueue) (id : Nat) (f : Directive → Directive) : List Directive :=
  q.entries.map fun d => if d.id = id then f d else d

/-! ### Attachment (R114) -/

/-- The station's oldest entry is attached to the turn that begins; the answer is its id, or none (R114). -/
def State.attach (s : State) (i : StationId) : Option Nat × State :=
  match s.directives.ofStation i with
  | [] => (none, s)
  | d :: _ =>
    (some d.id, s.setDirectives (s.directives.modify d.id fun d =>
      { d with state := .attached (decide (d.state = .awaiting)) }))

/-! ### Settlement (R115 to R119) -/

/-- An entry completes: it leaves the queue and its DIRECTIVE_DONE is raised (R119). -/
def State.completeDirective (s : State) (d : Directive) (outcome : DirectiveOutcome) (result : Byte)
    (attempts : Nat) : State :=
  (s.setDirectives (s.directives.without d.id)).raise (.directiveDone d.id d.slot outcome result attempts)

/-- A turn ended without an acknowledgement of entry `d` (R116, R117). -/
def State.unacknowledged (s : State) (d : Directive) (mark : Bool) : State :=
  if mark then
    if d.limit ≤ d.attempts + 1 then s.completeDirective d .exhausted 0#8 (d.attempts + 1)
    else s.setDirectives (s.directives.modify d.id fun d =>
      { d with attempts := d.attempts + 1, state := .awaiting })
  else s.setDirectives (s.directives.modify d.id fun d =>
    { d with state := match d.state with
        | .attached true => .awaiting
        | .attached false => .pending
        | other => other })

/-- The settlement of the directive attached to a turn. `ack` is the acknowledgement number and result of a
HIT's REPLY, none for a MISS or an abandonment (R115 to R117, Table 6-2). -/
def State.settle (s : State) (turn : Turn) (ack : Option (Byte × Byte)) : State :=
  match turn.directive.bind s.directives.find with
  | none => s
  | some d =>
    match ack with
    | some (number, result) =>
      if number.toNat = d.number then s.completeDirective d .delivered result d.attempts
      else s.unacknowledged d turn.mark
    | none => s.unacknowledged d turn.mark

/-- A HIT's acknowledgement number is stray: nonzero, and not the number of the attached entry (R118). -/
def State.strayAck (s : State) (turn : Turn) (number : Byte) : Bool :=
  decide (number ≠ 0#8) &&
    match turn.directive.bind s.directives.find with
    | none => true
    | some d => decide (number.toNat ≠ d.number)

/-- A stray acknowledgement is counted on the station (R118). -/
def State.countStray (s : State) (turn : Turn) (number : Byte) : State :=
  if s.strayAck turn number then
    s.countStation turn.slot fun c => { c with strayAcks := bump c.strayAcks 1 }
  else s

/-- Every entry of the station completes ABORTED, oldest first (R123). -/
def State.abortDirectives (s : State) (i : StationId) : State :=
  (s.directives.ofStation i).foldl (fun s d => s.completeDirective d .aborted 0#8 d.attempts) s

/-! ### Requests (R113, R120, R122) -/

/-- DIRECTIVE_SUBMIT's payload check, with the reserved tail and the attempt limit (R113, R168). -/
def submitBodyGood (body : List Byte) : Bool :=
  decide (1 ≤ natAt body 2) && decide (natAt body 2 ≤ 16) && decide (natAt body 1 ≤ 15)
    && (body.drop (3 + natAt body 2)).all fun b => b == 0#8

/-- The entry a DIRECTIVE_SUBMIT makes for slot `i`, whose station's next directive number is `next` (R112, R113). -/
def DirectiveQueue.newEntry (q : DirectiveQueue) (i : StationId) (next : Nat) (body : List Byte) : Directive :=
  { id := q.newId, slot := i, number := q.newNumber i next,
    payload := (body.drop 3).take (natAt body 2),
    limit := if natAt body 1 = 0 then Config.defaultAttemptLimit else natAt body 1,
    attempts := 0, state := .pending }

/-- DIRECTIVE_SUBMIT at its owner: the checks in their order, then the new entry (R113). -/
def directiveSubmit (tag : Byte) (body : List Byte) (s : State) : State :=
  match s.rosterCheck (byteAt body 0) with
  | .error status => s.answer 0x30#8 tag status []
  | .ok (i, st) =>
    if !submitBodyGood body then s.answer 0x30#8 tag .badArg []
    else if Config.maxDirectives ≤ s.directives.entries.length then s.answer 0x30#8 tag .noRoom []
    else if Config.maxStationDirectives ≤ (s.directives.ofStation i).length then
      s.answer 0x30#8 tag .noRoom []
    else
      let d := s.directives.newEntry i st.nextNumber body
      ({ s with directives :=
          { entries := s.directives.entries ++ [d], nextId := nextDirectiveId d.id } }.mapStation i
        fun st => { st with nextNumber := nextDirectiveNumber d.number }).answer
          0x30#8 tag .ok (le16 d.id ++ [byteOf d.number])

/-- DIRECTIVE_CANCEL at its owner (R120). -/
def directiveCancel (tag : Byte) (body : List Byte) (s : State) : State :=
  if u16At body 0 = 0 then s.answer 0x31#8 tag .badArg []
  else match s.directives.find (u16At body 0) with
    | none => s.answer 0x31#8 tag .notFound []
    | some d =>
      match d.state with
      | .attached _ => s.answer 0x31#8 tag .tooLate []
      | .pending =>
        (s.setDirectives (s.directives.without d.id)).answer 0x31#8 tag .ok
          [DirectiveOutcome.cancelled.code, byteOf d.attempts]
      | .awaiting =>
        (s.setDirectives (s.directives.without d.id)).answer 0x31#8 tag .ok
          [DirectiveOutcome.withdrawn.code, byteOf d.attempts]

/-- The place of an entry among its station's entries, 1 for the oldest (R122). -/
def DirectiveQueue.place (q : DirectiveQueue) (d : Directive) : Nat :=
  ((q.ofStation d.slot).findIdx fun e => e.id = d.id) + 1

/-- What DIRECTIVE_QUERY reports of an entry (R122, Table 10-9). -/
def directiveReport (q : DirectiveQueue) (d : Directive) : List Byte :=
  le16 d.id ++ [byteOf d.slot.1, byteOf d.number, byteOf d.limit, byteOf d.attempts, d.state.code,
    d.state.beforeCode, byteOf (q.place d), byteOf d.payload.length] ++ padTo 16 d.payload

/-- DIRECTIVE_QUERY at its owner (R122). -/
def directiveQuery (tag : Byte) (body : List Byte) (s : State) : State :=
  if u16At body 0 = 0 then s.answer 0x32#8 tag .badArg []
  else match s.directives.find (u16At body 0) with
    | none => s.answer 0x32#8 tag .notFound []
    | some d => s.answer 0x32#8 tag .ok (directiveReport s.directives d)

/-! ### The frames of these requests at acceptance -/

/-- A DIRECTIVE_SUBMIT frame at acceptance. -/
def takeDirectiveSubmit (tag : Byte) (body : List Byte) : State → State :=
  takeFrame 0x30#8 tag body (directiveSubmit tag body)

/-- A DIRECTIVE_CANCEL frame at acceptance. -/
def takeDirectiveCancel (tag : Byte) (body : List Byte) : State → State :=
  takeFrame 0x31#8 tag body (directiveCancel tag body)

/-- A DIRECTIVE_QUERY frame at acceptance. -/
def takeDirectiveQuery (tag : Byte) (body : List Byte) : State → State :=
  takeFrame 0x32#8 tag body (directiveQuery tag body)

/-- DIRECTIVE_SUBMIT (R113). -/
def execDirectiveSubmit (tag : Byte) (body : List Byte) (s : State) : Host.Outcome State Fault Refusal :=
  perform (takeDirectiveSubmit tag body) s

/-- DIRECTIVE_CANCEL (R120). -/
def execDirectiveCancel (tag : Byte) (body : List Byte) (s : State) : Host.Outcome State Fault Refusal :=
  perform (takeDirectiveCancel tag body) s

/-- DIRECTIVE_QUERY (R122). -/
def execDirectiveQuery (tag : Byte) (body : List Byte) (s : State) : Host.Outcome State Fault Refusal :=
  perform (takeDirectiveQuery tag body) s

end Sys2Proof.Machine
end

