-- ==== Sys2Proof/Machine/Screening.lean ====
section
/-! DEFINITION. The screening unit (chapter 1): terms, the walk, hit counts, and the requests on the tables. -/

namespace Sys2Proof.Machine

/-! ### Terms (R2 to R6) -/

/-- `a` and `b` hold the same digit wherever the mask holds a one (R2). -/
def maskedEqual (mask a b : Byte) : Bool := (a &&& mask) == (b &&& mask)

/-- The trunk term (R2). -/
def TrunkTerm.holds : TrunkTerm → TrunkId → Bool
  | .either, _ => true
  | .only t, trunk => t == trunk

/-- The window term (R4). -/
def WindowTerm.holds (w : WindowTerm) (payload : List Byte) : Bool :=
  decide (w.offset + w.width ≤ payload.length)
    && (List.range w.width).all fun i =>
      maskedEqual (byteAt w.mask i) (byteAt payload (w.offset + i)) (byteAt w.value i)

/-- The sum term (R5). -/
def SumTerm.holds (t : SumTerm) (payload : List Byte) : Bool :=
  decide (t.offset + t.span ≤ payload.length)
    && (decide ((((payload.drop t.offset).take t.span).map BitVec.toNat).sum % 65536 = t.target) == t.equal)

/-- The bin a key falls into (R6). -/
def binOf (high low : Byte) : Nat := (high.toNat * 31 + low.toNat) % 64

/-- The set term, against the bin sets of its own table (R6). -/
def SetTerm.holds (t : SetTerm) (bins : Vector (BitVec 64) 4) (payload : List Byte) : Bool :=
  decide (t.offset + 2 ≤ payload.length)
    && ((bins[t.bins]).getLsbD (binOf (byteAt payload t.offset) (byteAt payload (t.offset + 1))) == t.member)

/-- An optional term that is absent does not restrict the rule. -/
def absentOr {α : Type} (term : Option α) (holds : α → Bool) : Bool :=
  match term with
  | some t => holds t
  | none => true

/-- Every term the rule carries is true for the record (R2 to R6). -/
def Rule.appliesTo (r : Rule) (bins : Vector (BitVec 64) 4) (x : Record) : Bool :=
  r.trunk.holds x.trunk && maskedEqual r.addrMask x.address r.addrValue
    && decide (r.kindLow.toNat ≤ x.kind.toNat) && decide (x.kind.toNat ≤ r.kindHigh.toNat)
    && decide (r.lenMin ≤ x.payload.length) && decide (x.payload.length ≤ r.lenMax)
    && absentOr r.window (fun w => w.holds x.payload) && absentOr r.sum (fun t => t.holds x.payload)
    && absentOr r.set (fun t => t.holds bins x.payload)

/-! ### The walk (R7 to R12) -/

/-- What a walk gathers: the primary and the tee it named, and the applied list (R9, R10, R15). -/
structure Walk where
  primary : Option ChannelId
  tee     : Option ChannelId
  applied : List RuleId
  deriving DecidableEq, Repr

/-- The rest of a walk over the slots given, with the tee and applied list so far; at the end it takes the
default action (R8 to R11). -/
def RuleTable.walkFrom (t : RuleTable) (x : Record) : List RuleId → Option ChannelId → List RuleId → Walk
  | [], tee, applied =>
    match t.defaultAction with
    | .deliver c => { primary := some c, tee := tee, applied := applied }
    | .discard => { primary := none, tee := tee, applied := applied }
  | i :: is, tee, applied =>
    match t.slots[i] with
    | none => t.walkFrom x is tee applied
    | some r =>
      if r.enabled && r.appliesTo t.bins x then
        match r.action with
        | .deliver c => { primary := some c, tee := tee, applied := applied ++ [i] }
        | .discard => { primary := none, tee := tee, applied := applied ++ [i] }
        | .count => t.walkFrom x is tee (applied ++ [i])
        | .tee c => t.walkFrom x is (tee.or (some c)) (applied ++ [i])
      else t.walkFrom x is tee applied

/-- The walk of a record over a table, slot 0 to slot 47 (R8). -/
def RuleTable.walk (t : RuleTable) (x : Record) : Walk := t.walkFrom x (List.finRange 48) none []

/-- The delivery set of a walk: primary first, then a tee that differs from it (R12). -/
def Walk.deliverySet (w : Walk) : List ChannelId :=
  match w.primary, w.tee with
  | some p, some t => if p = t then [p] else [p, t]
  | some p, none => [p]
  | none, some t => [t]
  | none, none => []

/-! ### Hit counts (R14, R16) -/

/-- Raises the hit count of each slot listed by one, up to 4,294,967,295 (R14). -/
def raiseHits (hits : Vector Nat 48) (applied : List RuleId) : Vector Nat 48 :=
  Vector.ofFn fun i => if i ∈ applied then bump hits[i] 1 else hits[i]

/-- The outcome of a screened record reaches the screening unit: the applied rules count when it is acted upon
and the generation is still the walk's (R16). -/
def ActiveTable.outcome (a : ActiveTable) (actedUpon : Bool) (generation : Nat) (applied : List RuleId) :
    ActiveTable :=
  if actedUpon ∧ a.generation = generation then { a with hits := raiseHits a.hits applied } else a

/-- The outcome taken at the whole part. -/
def State.outcome (s : State) (actedUpon : Bool) (generation : Nat) (applied : List RuleId) : State :=
  { s with active := s.active.outcome actedUpon generation applied }

/-! ### Requests on the tables (R20 to R26) -/

/-- RULE_WRITE at its owner (R20, R168, R169). -/
def ruleWrite (tag : Byte) (body : List Byte) (s : State) : State :=
  match index? 48 (byteAt body 0), decodeRule (body.drop 1) with
  | some i, some r =>
    { s with staging := { s.staging with slots := setAt s.staging.slots i (some r) } }.answer 0x10#8 tag .ok []
  | _, _ => s.answer 0x10#8 tag .badArg []

/-- RULE_ERASE at its owner (R21). -/
def ruleErase (tag : Byte) (body : List Byte) (s : State) : State :=
  match index? 48 (byteAt body 0) with
  | some i =>
    { s with staging := { s.staging with slots := setAt s.staging.slots i none } }.answer 0x11#8 tag .ok
      [flagByte (s.staging.slots[i]).isSome]
  | none => s.answer 0x11#8 tag .badArg []

/-- SET_WRITE at its owner (R22, R169). -/
def setWrite (tag : Byte) (body : List Byte) (s : State) : State :=
  match index? 4 (byteAt body 0) with
  | some i =>
    { s with staging := { s.staging with
        bins := setAt s.staging.bins i (decodeBins (body.drop 1)) } }.answer 0x12#8 tag .ok []
  | none => s.answer 0x12#8 tag .badArg []

/-- DEFAULT_WRITE at its owner (R23). -/
def defaultWrite (tag : Byte) (body : List Byte) (s : State) : State :=
  match DefaultAction.ofCode (byteAt body 0) (byteAt body 1) with
  | some a => { s with staging := { s.staging with defaultAction := a } }.answer 0x13#8 tag .ok []
  | none => s.answer 0x13#8 tag .badArg []

/-- STAGE_LOAD at its owner (R23). -/
def stageLoad (tag : Byte) (s : State) : State :=
  { s with staging := s.active.table }.answer 0x14#8 tag .ok (le16 s.active.generation)

/-- The generation after a commit (R24). -/
def nextGeneration (g : Nat) : Nat := if g = 65535 then 1 else g + 1

/-- The active table after a commit of `t` (R24). -/
def ActiveTable.commit (a : ActiveTable) (t : RuleTable) : ActiveTable :=
  { table := t, generation := nextGeneration a.generation, hits := Vector.replicate 48 0 }

/-- RULE_COMMIT at its owner: a body of two bytes carries the expected generation (R24, R166, R167). -/
def ruleCommit (tag : Byte) (body : List Byte) (s : State) : State :=
  if body.length = 2 ∧ u16At body 0 ≠ s.active.generation then
    s.answer 0x15#8 tag .conflict (le16 s.active.generation)
  else
    { s with active := s.active.commit s.staging }.answer 0x15#8 tag .ok
      (le16 (nextGeneration s.active.generation))

/-- The results common to every RULE_READ reply, bytes 2 to 8 (R26, Table 10-7). -/
def readHead (body : List Byte) (t : RuleTable) (generation : Nat) : List Byte :=
  [byteAt body 0, byteAt body 1, byteAt body 2] ++ t.defaultAction.bytes ++ le16 generation

/-- The results of a RULE_READ of a rule slot, from byte 9 (R169). -/
def readSlot (slot : Option Rule) (hits : Nat) : List Byte :=
  match slot with
  | some r => [1#8] ++ encodeRule r ++ le32 hits
  | none => [0#8] ++ List.replicate 36 0#8 ++ le32 0

/-- The results of a RULE_READ, or none when it is refused (R26). The staging table reports generation 0 and
hit count 0 (Table 10-7). -/
def ruleReadResults (body : List Byte) (s : State) : Option (List Byte) :=
  match (byteAt body 0).toNat, (byteAt body 1).toNat with
  | 0, 0 => (index? 48 (byteAt body 2)).map fun i =>
      readHead body s.active.table s.active.generation ++ readSlot s.active.table.slots[i] s.active.hits[i]
  | 0, 1 => (index? 4 (byteAt body 2)).map fun i =>
      readHead body s.active.table s.active.generation ++ encodeBins s.active.table.bins[i]
  | 1, 0 => (index? 48 (byteAt body 2)).map fun i => readHead body s.staging 0 ++ readSlot s.staging.slots[i] 0
  | 1, 1 => (index? 4 (byteAt body 2)).map fun i => readHead body s.staging 0 ++ encodeBins s.staging.bins[i]
  | _, _ => none

/-- RULE_READ at its owner (R26). -/
def ruleRead (tag : Byte) (body : List Byte) (s : State) : State :=
  match ruleReadResults body s with
  | some results => s.answer 0x16#8 tag .ok results
  | none => s.answer 0x16#8 tag .badArg []

/-! ### The frames of these requests at acceptance -/

/-- A RULE_WRITE frame at acceptance. -/
def takeRuleWrite (tag : Byte) (body : List Byte) : State → State :=
  takeFrame 0x10#8 tag body (ruleWrite tag body)

/-- A RULE_ERASE frame at acceptance. -/
def takeRuleErase (tag : Byte) (body : List Byte) : State → State :=
  takeFrame 0x11#8 tag body (ruleErase tag body)

/-- A SET_WRITE frame at acceptance. -/
def takeSetWrite (tag : Byte) (body : List Byte) : State → State :=
  takeFrame 0x12#8 tag body (setWrite tag body)

/-- A DEFAULT_WRITE frame at acceptance. -/
def takeDefaultWrite (tag : Byte) (body : List Byte) : State → State :=
  takeFrame 0x13#8 tag body (defaultWrite tag body)

/-- A STAGE_LOAD frame at acceptance. -/
def takeStageLoad (tag : Byte) (body : List Byte) : State → State :=
  takeFrame 0x14#8 tag body (stageLoad tag)

/-- A RULE_COMMIT frame at acceptance. -/
def takeRuleCommit (tag : Byte) (body : List Byte) : State → State :=
  takeFrame 0x15#8 tag body (ruleCommit tag body)

/-- A RULE_READ frame at acceptance. -/
def takeRuleRead (tag : Byte) (body : List Byte) : State → State :=
  takeFrame 0x16#8 tag body (ruleRead tag body)

/-- RULE_WRITE (R20). -/
def execRuleWrite (tag : Byte) (body : List Byte) (s : State) : Host.Outcome State Fault Refusal :=
  perform (takeRuleWrite tag body) s

/-- RULE_ERASE (R21). -/
def execRuleErase (tag : Byte) (body : List Byte) (s : State) : Host.Outcome State Fault Refusal :=
  perform (takeRuleErase tag body) s

/-- SET_WRITE (R22). -/
def execSetWrite (tag : Byte) (body : List Byte) (s : State) : Host.Outcome State Fault Refusal :=
  perform (takeSetWrite tag body) s

/-- DEFAULT_WRITE (R23). -/
def execDefaultWrite (tag : Byte) (body : List Byte) (s : State) : Host.Outcome State Fault Refusal :=
  perform (takeDefaultWrite tag body) s

/-- STAGE_LOAD (R23). -/
def execStageLoad (tag : Byte) (body : List Byte) (s : State) : Host.Outcome State Fault Refusal :=
  perform (takeStageLoad tag body) s

/-- RULE_COMMIT (R24). -/
def execRuleCommit (tag : Byte) (body : List Byte) (s : State) : Host.Outcome State Fault Refusal :=
  perform (takeRuleCommit tag body) s

/-- RULE_READ (R26). -/
def execRuleRead (tag : Byte) (body : List Byte) (s : State) : Host.Outcome State Fault Refusal :=
  perform (takeRuleRead tag body) s

end Sys2Proof.Machine
end

