-- ==== Sys2Proof/Machine/Store.lean ====
section
/-! DEFINITION. The record store's admission of one screened record (R34 to R40). -/

namespace Sys2Proof.Machine

/-- How an admission ends (Table 2-1). -/
inductive AdmissionEnd where
  | stored | dropped | deferred
  deriving DecidableEq, Repr

/-- No losses. -/
def Loss.zero : Loss := { disabled := 0, keepOld := 0, keepNew := 0, noSlot := 0 }

/-- An admission under way: the state its steps have made, the channels still in the delivery set, and the
losses counted so far, for each channel of the set in its order (R34). -/
structure Admission where
  state  : State
  kept   : List ChannelId
  losses : List (ChannelId × Loss)
  deriving DecidableEq, Repr

/-- Counts a loss on channel `c`. -/
def countLoss (losses : List (ChannelId × Loss)) (c : ChannelId) (f : Loss → Loss) :
    List (ChannelId × Loss) :=
  losses.map fun p => if p.1 = c then (p.1, f p.2) else p

/-- The start of an admission: DISABLED channels are struck, with a disabled drop each (R35). -/
def State.beginAdmission (s : State) (channels : List ChannelId) : Admission :=
  { state := s
    kept := channels.filter fun c => (s.channels[c]).enabled
    losses := channels.map fun c =>
      (c, if (s.channels[c]).enabled then Loss.zero else { Loss.zero with disabled := 1 }) }

/-- The DEFER test: some channel of the set has policy DEFER, and its queue is full or no slot is obtainable
(R36). -/
def State.deferTest (s : State) (channels : List ChannelId) : Bool :=
  channels.any fun c =>
    decide ((s.channels[c]).config.policy = .defer) && ((s.channels[c]).full || !s.obtainable channels)

/-- The oldest entry of the channel's queue is evicted: its reference ends (R37). -/
def State.evictHead (s : State) (c : ChannelId) : State :=
  match (s.channels[c]).queue with
  | [] => s
  | e :: _ =>
    { s.setChannel c ((s.channels[c]).dropHead) with store := s.store.release e.slot }

/-- An eviction from channel `c`, counted (R37). -/
def Admission.evict (a : Admission) (c : ChannelId) : Admission :=
  { a with state := a.state.evictHead c
           losses := countLoss a.losses c fun l => { l with keepNew := l.keepNew + 1 } }

/-- Full queues, in the order of the set: a full KEEP_OLD channel is struck, a full KEEP_NEW one loses its
oldest entry (R37). -/
def Admission.fullQueues : List ChannelId → Admission → Admission
  | [], a => a
  | c :: cs, a =>
    if (a.state.channels[c]).full then
      match (a.state.channels[c]).config.policy with
      | .keepOld => Admission.fullQueues cs
          { a with kept := a.kept.erase c
                   losses := countLoss a.losses c fun l => { l with keepOld := l.keepOld + 1 } }
      | .keepNew => Admission.fullQueues cs (a.evict c)
      | .defer => Admission.fullQueues cs a
    else Admission.fullQueues cs a

/-- The first channel of the set that can give up an entry: a KEEP_NEW channel with a queue that is not empty
(R38). -/
def Admission.victim (a : Admission) : Option ChannelId :=
  a.kept.find? fun c =>
    decide ((a.state.channels[c]).config.policy = .keepNew) && !(a.state.channels[c]).queue.isEmpty

/-- Evicts one entry at a time until a slot is obtainable or nothing is left to evict (R38); `fuel` bounds the
evictions by the entries there are. -/
def Admission.makeRoom : Nat → Admission → Admission
  | 0, a => a
  | fuel + 1, a =>
    if a.state.obtainable a.kept then a
    else match a.victim with
      | some c => Admission.makeRoom fuel (a.evict c)
      | none => a

/-- The queue entries of the channels still in the set: what `makeRoom` can evict at most. -/
def Admission.entries (a : Admission) : Nat :=
  (a.kept.map fun c => (a.state.channels[c]).queue.length).sum

/-- The entries of the channels of the set name the slot from now on (R39). -/
def State.appendEntries (s : State) (i : SlotId) (channels : List ChannelId) : State :=
  channels.foldl (fun s c => s.setChannel c ((s.channels[c]).append s.timeBase i)) s

/-- The record takes the lowest free slot and is queued (R39). -/
def State.storeRecord (s : State) (r : Record) (i : SlotId) (channels : List ChannelId) : State :=
  { s with store := s.store.occupy i r channels.length }.appendEntries i channels

/-- A no-slot drop on each channel still in the set (R38). -/
def Admission.noSlot (a : Admission) : Admission :=
  { a with losses := a.losses.map fun p =>
      if p.1 ∈ a.kept then (p.1, { p.2 with noSlot := p.2.noSlot + 1 }) else p }

/-- The slot test after the evictions, and its two endings (R38, R39). -/
def Admission.place (a : Admission) (r : Record) : AdmissionEnd × Admission :=
  match (if a.state.obtainable a.kept then a.state.store.lowestFree else none) with
  | some i => (.stored, { a with state := a.state.storeRecord r i a.kept })
  | none => (.dropped, a.noSlot)

/-- A loss that counts something. -/
def Loss.any (l : Loss) : Bool := decide (l ≠ Loss.zero)

/-- The channel's counters after this admission's losses on it (R40). -/
def ChannelCounters.addLoss (c : ChannelCounters) (l : Loss) : ChannelCounters :=
  { c with keepOldDrops := bump c.keepOldDrops l.keepOld, evictions := bump c.evictions l.keepNew,
           noSlotDrops := bump c.noSlotDrops l.noSlot, disabledDrops := bump c.disabledDrops l.disabled }

/-- The counts and the CHANNEL_LOSS notice of one channel (R40). -/
def State.reportLoss (s : State) (p : ChannelId × Loss) : State :=
  if p.2.any then
    (s.setChannel p.1 { s.channels[p.1] with
      counters := (s.channels[p.1]).counters.addLoss p.2 }).raise (.channelLoss p.1 p.2)
  else s

/-- The channels whose queue this admission changed, in the order of the set. -/
def Admission.touched (a : Admission) (stored : Bool) : List ChannelId :=
  a.kept.filter fun c => stored || a.losses.any fun p => decide (p.1 = c) && decide (0 < p.2.keepNew)

/-- The end of an admission that is not deferred: counts and CHANNEL_LOSS notices in the order of the set, then
the evaluations of the channels it touched (R40, R49, R174). -/
def Admission.conclude (a : Admission) (stored : Bool) : State :=
  (a.touched stored).foldl State.evalChannel (a.losses.foldl State.reportLoss a.state)

/-- The admission of record `r` to the delivery set, up to its outcome (R34 to R40). -/
def State.takeAdmission (s : State) (r : Record) (channels : List ChannelId) : AdmissionEnd × State :=
  let start := s.beginAdmission channels
  if start.kept.isEmpty then
    (.dropped, (start.conclude false).countLink fun c => { c with unrouted := bump c.unrouted 1 })
  else if s.deferTest start.kept then (.deferred, s)
  else
    let after := Admission.fullQueues start.kept start
    if after.kept.isEmpty then (.dropped, after.conclude false)
    else
      let roomy := Admission.makeRoom after.entries after
      let (ending, placed) := roomy.place r
      (ending, placed.conclude (decide (ending = .stored)))

end Sys2Proof.Machine
end

