-- ==== Sys2Proof/Machine/Roster.lean ====
section
/-! DEFINITION. The station roster (chapter 4): requests, removals and group moves, the sequence check and the
walk through a REPLY's records. -/

namespace Sys2Proof.Machine

/-! ### Removal and group moves (R86, R87, R89) -/

/-- The entry of slot `i` is freed, its directives aborted and its notices closed to merging (R86, R123, R148). -/
def State.freeStation (s : State) (i : StationId) : State :=
  let aborted := s.abortDirectives i
  (aborted.setNotices (aborted.notices.closeMerging i)).setStation i none

/-- The completion of a removal that waited for a turn: the entry is freed and the deferred reply queued, with
the records discarded (R87). -/
def State.completeRemoval (s : State) (i : StationId) (st : Station) : State :=
  match st.removeTag with
  | some tag => (s.freeStation i).answer 0x26#8 tag .ok [byteOf st.counters.discarded]
  | none => s.freeStation i

/-- A station when its trunk has stopped or faulted: IDLE with miss count 0, unless SUSPENDED (R89). -/
def Station.grounded (st : Station) : Station :=
  if st.state.pollable then { st with state := .idle, missCount := 0 } else st

/-- The move of slot `i` when trunk `t` has stopped or faulted (R89). -/
def State.groundStation (t : TrunkId) (s : State) (i : StationId) : State :=
  match s.roster[i] with
  | some st =>
    if st.trunk = t then
      if st.state = .removing then s.completeRemoval i st else s.setStation i (some st.grounded)
    else s
  | none => s

/-- The stations of trunk `t` move with it when it becomes STOPPED or FAULTED (R89, R96). -/
def State.groundStations (s : State) (t : TrunkId) : State :=
  (List.finRange 64).foldl (State.groundStation t) s

/-- The move of a station when trunk `t` has become RUNNING (R89). -/
def Station.woken (t : TrunkId) (st : Station) : Station :=
  if st.trunk = t ∧ st.state = .idle then { st with state := .probing } else st

/-- The IDLE stations of trunk `t` become PROBING (R89). -/
def State.wakeStations (s : State) (t : TrunkId) : State :=
  { s with roster := s.roster.map fun x => x.map (Station.woken t) }

/-! ### Requests on stations (R66 to R69, R84 to R87) -/

/-- The lowest-numbered free roster slot (R67). -/
def State.lowestFreeStation (s : State) : Option StationId :=
  (List.finRange 64).find? fun i => (s.roster[i]).isNone

/-- An occupied entry has this trunk and address (R67). -/
def State.stationPresent (s : State) (t : TrunkId) (address : Byte) : Bool :=
  s.roster.toList.any fun x =>
    match x with
    | some st => st.trunk == t && st.address == address
    | none => false

/-- A station entry as STATION_ADD fills it (Table 4-1). -/
def Station.fresh (t : TrunkId) (address : Byte) (pollClass : Nat) (running : Bool) (serial : Nat) : Station :=
  { trunk := t, address := address, state := if running then .probing else .idle, pollClass := pollClass,
    missCount := 0, baseline := none, suspendPending := false, nextNumber := 1, lastHit := none,
    counters := .zero, serial := serial, removeTag := none }

/-- Trunk `t` is RUNNING. -/
def State.trunkRunning (s : State) (t : TrunkId) : Bool := decide ((s.trunks[t]).state = .running)

/-- STATION_ADD at its owner (R67). -/
def stationAdd (tag : Byte) (body : List Byte) (s : State) : State :=
  match index? 2 (byteAt body 0) with
  | some t =>
    if natAt body 1 = 0 ∨ 239 < natAt body 1 ∨ 3 < natAt body 2 then s.answer 0x20#8 tag .badArg []
    else if s.stationPresent t (byteAt body 1) then s.answer 0x20#8 tag .conflict []
    else match s.lowestFreeStation with
      | none => s.answer 0x20#8 tag .noRoom []
      | some i =>
        { s.setStation i (some (Station.fresh t (byteAt body 1) (natAt body 2) (s.trunkRunning t)
            s.nextSerial)) with nextSerial := s.nextSerial + 1 }.answer 0x20#8 tag .ok [byteOf i.1]
  | none => s.answer 0x20#8 tag .badArg []

/-- STATION_SET at its owner (R68). -/
def stationSet (tag : Byte) (body : List Byte) (s : State) : State :=
  match s.rosterCheck (byteAt body 0) with
  | .error status => s.answer 0x21#8 tag status []
  | .ok (i, st) =>
    if 3 < natAt body 1 then s.answer 0x21#8 tag .badArg []
    else (s.setStation i (some { st with pollClass := natAt body 1 })).answer 0x21#8 tag .ok []

/-- The flags byte of a STATION_QUERY reply (Table 10-8). -/
def stationFlags (st : Station) (inFlight : Bool) : Byte :=
  byteOf ((if st.baseline.isSome then 1 else 0) + (if st.suspendPending then 2 else 0)
    + (if st.lastHit.isSome then 4 else 0) + (if inFlight then 8 else 0))

/-- What STATION_QUERY reports of an entry (R69, Table 10-8). -/
def stationReport (i : StationId) (st : Station) (inFlight : Bool) : List Byte :=
  [byteOf i.1, byteOf st.trunk.1, st.address, st.state.code, byteOf st.pollClass, byteOf st.missCount,
    stationFlags st inFlight, st.baseline.getD 0#8, byteOf st.nextNumber]
    ++ le32 (st.lastHit.getD 0).toNat

/-- STATION_QUERY at its owner (R69). -/
def stationQuery (tag : Byte) (body : List Byte) (s : State) : State :=
  match s.rosterCheck (byteAt body 0) with
  | .error status => s.answer 0x22#8 tag status []
  | .ok (i, st) => s.answer 0x22#8 tag .ok (stationReport i st (s.turnInFlight i))

/-- The four bytes of one occupied slot in a STATION_LIST reply, nothing for a free one (R69). -/
def State.listEntry (s : State) (i : StationId) : List Byte :=
  match s.roster[i] with
  | some st => [byteOf i.1, byteOf st.trunk.1, st.address, st.state.code]
  | none => []

/-- How many roster slots are occupied. -/
def State.stationCount (s : State) : Nat := (s.roster.toList.filter Option.isSome).length

/-- STATION_LIST at its owner (R69). -/
def stationList (tag : Byte) (s : State) : State :=
  s.answer 0x23#8 tag .ok (byteOf s.stationCount :: (List.finRange 64).flatMap s.listEntry)

/-- STATION_SUSPEND at its owner (R84). -/
def stationSuspend (tag : Byte) (body : List Byte) (s : State) : State :=
  match s.rosterCheck (byteAt body 0) with
  | .error status => s.answer 0x24#8 tag status []
  | .ok (i, st) =>
    (s.setStation i (some (if s.turnInFlight i then { st with suspendPending := true }
      else { st with state := .suspended }))).answer 0x24#8 tag .ok []

/-- STATION_RESUME at its owner (R85). -/
def stationResume (tag : Byte) (body : List Byte) (s : State) : State :=
  match s.rosterCheck (byteAt body 0) with
  | .error status => s.answer 0x25#8 tag status []
  | .ok (i, st) =>
    if st.state = .suspended then
      (s.setStation i (some { st with
        state := if s.trunkRunning st.trunk then .probing else .idle, missCount := 0 })).answer
          0x25#8 tag .ok []
    else s.answer 0x25#8 tag .wrongState []

/-- The records of a REPLY in hand that have no outcome yet. -/
def TurnStage.unwalked : TurnStage → Nat
  | .replied _ todo screened => todo.length + (if screened.isSome then 1 else 0)
  | .polling | .missed => 0

/-- The records without an outcome are gone from the turn (R82, R87). -/
def TurnStage.cut : TurnStage → TurnStage
  | .replied stamp _ _ => .replied stamp [] none
  | .polling => .polling
  | .missed => .missed

/-- The records of slot `i`'s turn on trunk `t` that have no outcome yet are discarded and counted (R87). -/
def State.discardUnwalked (i : StationId) (s : State) (t : TrunkId) : State :=
  match (s.trunks[t]).turn with
  | some turn =>
    if turn.slot = i then
      (s.setTrunk t { s.trunks[t] with turn := some { turn with stage := turn.stage.cut } }).countStation i
        fun c => { c with discarded := bump c.discarded turn.stage.unwalked }
    else s
  | none => s

/-- STATION_REMOVE at its owner: at once, or REMOVING with the reply deferred (R86, R87). -/
def stationRemove (tag : Byte) (body : List Byte) (s : State) : State :=
  match s.rosterCheck (byteAt body 0) with
  | .error status => s.answer 0x26#8 tag status []
  | .ok (i, st) =>
    if s.turnInFlight i then
      (List.finRange 2).foldl (State.discardUnwalked i)
        (s.setStation i (some { st with state := .removing, removeTag := some tag }))
    else (s.freeStation i).answer 0x26#8 tag .ok [0#8]

/-! ### The sequence check and the walk (R79 to R83) -/

/-- What the sequence check finds (R79). -/
inductive SequenceVerdict where
  | duplicate
  | passes (gap : Nat)
  deriving DecidableEq, Repr

/-- The sequence check of a record number against the baseline (R79). -/
def checkSequence (baseline : Option Byte) (seq : Byte) : SequenceVerdict :=
  match baseline with
  | none => .passes 0
  | some b =>
    if seq - b = 0#8 ∨ 128 ≤ (seq - b).toNat then .duplicate else .passes ((seq - b).toNat - 1)

/-- The record as screening and the store see it (R83). -/
def ReplyRecord.toRecord (r : ReplyRecord) (i : StationId) (st : Station) (stamp : Time) : Record :=
  { trunk := st.trunk, address := st.address, station := i, kind := r.kind, seq := r.seq, stamp := stamp,
    payload := r.payload }

/-- A record's outcome is acted upon: the baseline moves, and its gap is counted and reported (R81). -/
def State.acceptRecord (s : State) (i : StationId) (seq : Byte) (gap : Nat) : State :=
  let moved := s.mapStation i fun st =>
    { st with
      baseline := some seq
      counters := { st.counters with accepted := bump st.counters.accepted 1,
                                     gapLost := bump st.counters.gapLost gap } }
  if gap = 0 then moved else moved.raise (.sequence i gap 0)

/-- The turn's stage on trunk `t` is replaced. -/
def State.setStage (s : State) (t : TrunkId) (turn : Turn) (stage : TurnStage) : State :=
  s.setTrunk t { s.trunks[t] with turn := some { turn with stage := stage } }

/-- Screening of a record that passed the check: a walk over the active table, and then either the outcome at
once, for an empty delivery set, or a record that waits for admission (R1, R8, R13, R81). -/
def State.screen (s : State) (t : TrunkId) (turn : Turn) (x : Record) (gap : Nat) (stamp : Time)
    (todo : List ReplyRecord) : State :=
  let walk := s.active.table.walk x
  if walk.deliverySet.isEmpty then
    (((s.setStage t turn (.replied stamp todo none)).countLink fun c =>
      { c with screened := bump c.screened 1, discarded := bump c.discarded 1 }).outcome true
        s.active.generation walk.applied).acceptRecord turn.slot x.seq gap
  else
    (s.setStage t turn (.replied stamp todo (some
      { record := x, gap := gap, channels := walk.deliverySet, applied := walk.applied,
        generation := s.active.generation }))).countLink fun c => { c with screened := bump c.screened 1 }

/-- The next record of the REPLY in hand on trunk `t` is checked (R79, R81). There is none to check before the
REPLY, after its last record, or while a record waits for admission. -/
def sequenceCheck (t : TrunkId) (s : State) : State :=
  match (s.trunks[t]).turn with
  | some turn =>
    match turn.stage, s.roster[turn.slot] with
    | .replied stamp (r :: todo) none, some st =>
      match checkSequence st.baseline r.seq with
      | .duplicate =>
        (s.setStage t turn (.replied stamp todo none)).countStation turn.slot fun c =>
          { c with duplicates := bump c.duplicates 1 }
      | .passes gap => s.screen t turn (r.toRecord turn.slot st stamp) gap stamp todo
    | _, _ => s
  | none => s

/-- The outcome of an admission at the screening unit and at the roster (R16, R81, R82). -/
def State.afterAdmission (s : State) (t : TrunkId) (turn : Turn) (stamp : Time) (todo : List ReplyRecord)
    (x : Screened) (ending : AdmissionEnd) : State :=
  match ending with
  | .deferred =>
    ((s.setStage t turn (.replied stamp [] none)).outcome false x.generation x.applied).countStation turn.slot
      fun c => { c with deferrals := bump c.deferrals 1 }
  | .stored | .dropped =>
    ((s.setStage t turn (.replied stamp todo none)).outcome true x.generation x.applied).acceptRecord
      turn.slot x.record.seq x.gap

/-- The store takes the screened record of trunk `t`'s REPLY, and its outcome is taken (R34, R40, R81, R82). -/
def admissionStep (t : TrunkId) (s : State) : State :=
  match (s.trunks[t]).turn with
  | some turn =>
    match turn.stage with
    | .replied stamp todo (some x) =>
      (s.takeAdmission x.record x.channels).2.afterAdmission t turn stamp todo x
        (s.takeAdmission x.record x.channels).1
    | _ => s
  | none => s

/-! ### The frames of these requests at acceptance, and the meanings -/

/-- A STATION_ADD frame at acceptance. -/
def takeStationAdd (tag : Byte) (body : List Byte) : State → State :=
  takeFrame 0x20#8 tag body (stationAdd tag body)

/-- A STATION_SET frame at acceptance. -/
def takeStationSet (tag : Byte) (body : List Byte) : State → State :=
  takeFrame 0x21#8 tag body (stationSet tag body)

/-- A STATION_QUERY frame at acceptance. -/
def takeStationQuery (tag : Byte) (body : List Byte) : State → State :=
  takeFrame 0x22#8 tag body (stationQuery tag body)

/-- A STATION_LIST frame at acceptance. -/
def takeStationList (tag : Byte) (body : List Byte) : State → State :=
  takeFrame 0x23#8 tag body (stationList tag)

/-- A STATION_SUSPEND frame at acceptance. -/
def takeStationSuspend (tag : Byte) (body : List Byte) : State → State :=
  takeFrame 0x24#8 tag body (stationSuspend tag body)

/-- A STATION_RESUME frame at acceptance. -/
def takeStationResume (tag : Byte) (body : List Byte) : State → State :=
  takeFrame 0x25#8 tag body (stationResume tag body)

/-- A STATION_REMOVE frame at acceptance. -/
def takeStationRemove (tag : Byte) (body : List Byte) : State → State :=
  takeFrame 0x26#8 tag body (stationRemove tag body)

/-- STATION_ADD (R67). -/
def execStationAdd (tag : Byte) (body : List Byte) (s : State) : Host.Outcome State Fault Refusal :=
  perform (takeStationAdd tag body) s

/-- STATION_SET (R68). -/
def execStationSet (tag : Byte) (body : List Byte) (s : State) : Host.Outcome State Fault Refusal :=
  perform (takeStationSet tag body) s

/-- STATION_QUERY (R69). -/
def execStationQuery (tag : Byte) (body : List Byte) (s : State) : Host.Outcome State Fault Refusal :=
  perform (takeStationQuery tag body) s

/-- STATION_LIST (R69). -/
def execStationList (tag : Byte) (body : List Byte) (s : State) : Host.Outcome State Fault Refusal :=
  perform (takeStationList tag body) s

/-- STATION_SUSPEND (R84). -/
def execStationSuspend (tag : Byte) (body : List Byte) (s : State) : Host.Outcome State Fault Refusal :=
  perform (takeStationSuspend tag body) s

/-- STATION_RESUME (R85). -/
def execStationResume (tag : Byte) (body : List Byte) (s : State) : Host.Outcome State Fault Refusal :=
  perform (takeStationResume tag body) s

/-- STATION_REMOVE (R86, R87). -/
def execStationRemove (tag : Byte) (body : List Byte) (s : State) : Host.Outcome State Fault Refusal :=
  perform (takeStationRemove tag body) s

/-- SEQUENCE_CHECK (R79). -/
def execSequenceCheck (t : TrunkId) (s : State) : Host.Outcome State Fault Refusal :=
  perform (sequenceCheck t) s

/-- ADMISSION (R34). -/
def execAdmission (t : TrunkId) (s : State) : Host.Outcome State Fault Refusal :=
  perform (admissionStep t) s

end Sys2Proof.Machine
end

