-- ==== Sys2Proof/Machine/Trunks.lean ====
section
/-! DEFINITION. The trunk line controllers (chapter 5) with the rounds and turn closes of chapter 4: requests,
starting and stopping, rounds, the poll turn and its line events. -/

namespace Sys2Proof.Machine

/-! ### Rounds (R70, R73, R74) -/

/-- The due list of trunk `t` in round `r`: ascending slots, each with its occupancy (R70). -/
def State.dueList (s : State) (t : TrunkId) (r : Nat) : List Place :=
  (List.finRange 64).filterMap fun i =>
    match s.roster[i] with
    | some st => if st.trunk = t ∧ st.dueIn i.1 r then some { slot := i, serial := st.serial } else none
    | none => none

/-- A round starts on trunk `t` (R70). -/
def State.startRound (s : State) (t : TrunkId) : State :=
  let x := s.trunks[t]
  s.setTrunk t { x with
    roundStart := s.timeBase
    round := some { places := s.dueList t x.roundCounter, turned := false }
    nextRound := none
    counters := { x.counters with rounds := bump x.counters.rounds 1 } }

/-- How long a round lasts at least, in microseconds (R73). -/
def Trunk.roundWait (x : Trunk) (turned : Bool) : Nat :=
  if turned then x.config.period * 1000 else max (x.config.period * 1000) Config.emptyRound

/-- A round ends on trunk `t`: the counter rises, and the next start is set, at once when its time has passed
(R73, R164). -/
def State.endRound (s : State) (t : TrunkId) (turned : Bool) : State :=
  let x := s.trunks[t]
  s.setTrunk t { x with
    roundCounter := (x.roundCounter + 1) % 65536
    round := none
    nextRound := some (if x.roundWait turned ≤ elapsed x.roundStart s.timeBase then s.timeBase
      else later x.roundStart (x.roundWait turned)) }

/-- The round of trunk `t` ends when none of its places is left (R73). -/
def State.endRoundIfDone (s : State) (t : TrunkId) : State :=
  match (s.trunks[t]).round with
  | some r => if r.places.isEmpty then s.endRound t r.turned else s
  | none => s

/-- The pacing time of the next round has come (R70, R73); there is none while a round is in progress or the
trunk is not RUNNING. -/
def roundStart (t : TrunkId) (s : State) : State :=
  match (s.trunks[t]).state, (s.trunks[t]).round, (s.trunks[t]).nextRound with
  | .running, none, some due => (s.advanceTo due).startRound t
  | _, _, _ => s

/-! ### Stops and faults (R95 to R98) -/

/-- The trunk with its sequencer at rest and its round dropped (R96, R97). -/
def Trunk.quiet (x : Trunk) : Trunk :=
  { x with phase := .idle, turn := none, round := none, nextRound := none, de := false, txMark := true }

/-- The deferred TRUNK_STOP reply, if one is waiting, with the state the stop came to (R96, R97). -/
def State.answerStop (s : State) (tag : Option Byte) (state : TrunkState) : State :=
  match tag with
  | some tag => s.answer 0x2A#8 tag .ok [state.code]
  | none => s

/-- A trunk in STOPPING completes its stop (R96). -/
def State.completeStop (s : State) (t : TrunkId) : State :=
  let x := s.trunks[t]
  (((s.setTrunk t { x.quiet with state := .stopped, stopTag := none }).groundStations t).answerStop x.stopTag
    .stopped).raise (.trunkState t .stopping .stopped .request)

/-- The station's side of an abandoned turn (R78): a removal completes, a pending suspension takes effect. -/
def State.abandonStation (s : State) (turn : Turn) : State :=
  match s.roster[turn.slot] with
  | some st =>
    if st.state = .removing then s.completeRemoval turn.slot st
    else if st.suspendPending then
      (s.setStation turn.slot (some { st with state := .suspended, suspendPending := false })).raise
        (.stationState turn.slot st.trunk st.address turn.startState .suspended 1)
    else s
  | none => s

/-- The turn in flight is abandoned: its directive is settled by the mark, then the station (R78, R97, R117). -/
def State.abandonTurn (s : State) (turn : Option Turn) : State :=
  match turn with
  | some turn => (s.settle turn none).abandonStation turn
  | none => s

/-- A FAULTED trunk becomes STOPPED by a request or by a close; the fault cause is kept (R95, R110). -/
def State.stopFaulted (s : State) (t : TrunkId) : State :=
  (s.setTrunk t { s.trunks[t] with state := .stopped }).raise (.trunkState t .faulted .stopped .request)

/-- The stop step of a close is under way, and makes a trunk that faults STOPPED (R110). -/
def State.closeStopping (s : State) : Bool :=
  match s.link.session with
  | .closing .stopping _ => true
  | _ => false

/-- Trunk `t` becomes FAULTED with cause ECHO (R97). -/
def State.faultTrunk (s : State) (t : TrunkId) : State :=
  let x := s.trunks[t]
  let faulted := ((((s.abandonTurn x.turn).setTrunk t { x.quiet with
      state := .faulted, cause := .echo, stopTag := none }).groundStations t).raise
    (.trunkState t x.state .faulted .echo)).answerStop x.stopTag .faulted
  if s.closeStopping then faulted.stopFaulted t else faulted

/-! ### The poll turn (R100 to R107) -/

/-- The phase of trunk `t` is replaced. -/
def State.setPhase (s : State) (t : TrunkId) (phase : Phase) : State :=
  s.setTrunk t { s.trunks[t] with phase := phase }

/-- SETTLING begins: the settle gap of 3 byte times is armed (R107). -/
def State.beginSettling (s : State) (t : TrunkId) : State :=
  s.setPhase t (.settling (later s.timeBase (byteTimes (s.trunks[t]).config.rate 3)))

/-- The POLL of an attempt, built from the state as it stands (R72, R101). -/
def State.pollOf (s : State) (turn : Turn) (st : Station) : List Byte :=
  pollBytes st.address st.baseline (turn.directive.bind s.directives.find)

/-- An attempt begins: DE goes high and the POLL's first byte goes out (R101). -/
def State.beginPoll (s : State) (t : TrunkId) (turn : Turn) : State :=
  match s.roster[turn.slot] with
  | some st =>
    s.setTrunk t { s.trunks[t] with
      phase := .sending (s.pollOf turn st) s.timeBase 0, de := true, txMark := false }
  | none => s

/-- A turn begins for the station in slot `i` (R72, R100, R114). -/
def State.beginTurn (s : State) (t : TrunkId) (i : StationId) (st : Station) (places : List Place) : State :=
  let attached := s.attach i
  let turn : Turn := { slot := i, attempt := 1, directive := attached.1, mark := false,
                       startState := st.state, stage := .polling }
  (attached.2.setTrunk t { attached.2.trunks[t] with
    turn := some turn, round := some { places := places, turned := true } }).beginPoll t turn

/-- A place is skipped (R71). -/
def State.skipPlace (s : State) (t : TrunkId) (r : Round) (places : List Place) : State :=
  (s.setTrunk t { s.trunks[t] with round := some { r with places := places } }).endRoundIfDone t

/-- The trunk takes its round's next place: it begins the station's turn or skips the place, and the round ends
when no place is left (R71, R73, R100). -/
def turnBegin (t : TrunkId) (s : State) : State :=
  match (s.trunks[t]).state, (s.trunks[t]).phase, (s.trunks[t]).turn, (s.trunks[t]).round with
  | .running, .idle, none, some r =>
    match r.places with
    | [] => s.endRound t r.turned
    | p :: places =>
      match s.roster[p.slot] with
      | some st =>
        if st.serial = p.serial ∧ st.state.pollable then s.beginTurn t p.slot st places
        else s.skipPlace t r places
      | none => s.skipPlace t r places
  | _, _, _, _ => s

/-- When the echo of byte `k` of a POLL, counted from 1, is due at the latest: one byte time after the byte's stop
bit has been sent (R102, log entry 9). -/
def echoDue (rate : Fin 8) (k : Nat) (start : Time) : Time := later start (sentTime rate k + byteTimes rate 1)

/-- An echo fault: the POLL is cut off, and the same attempt follows after the settle gap, or the trunk faults
(R102). -/
def State.echoFault (s : State) (t : TrunkId) : State :=
  let x := s.trunks[t]
  let cut := s.setTrunk t { x with
    de := false, txMark := true, echoRun := x.echoRun + 1
    counters := { x.counters with echoFaults := bump x.counters.echoFaults 1 } }
  if Config.maxEchoRun ≤ x.echoRun + 1 then cut.faultTrunk t else cut.beginSettling t

/-- The POLL is sent cleanly: the reply window opens (R101, R103). -/
def State.pollSent (s : State) (t : TrunkId) (turn : Turn) : State :=
  let x := s.trunks[t]
  s.setTrunk t { x with
    de := false, txMark := true, echoRun := 0
    turn := some { turn with mark := turn.mark || turn.directive.isSome }
    phase := .waiting (later s.timeBase x.config.timeout)
    counters := { x.counters with pollsSent := bump x.counters.pollsSent 1 } }

/-- A character taken while SENDING, no later than the echo it stands for is due: good when it comes once the byte's
stop bit has been sent, equals the byte and has no framing error (R102). -/
def echoTaken (t : TrunkId) (value : Byte) (framingError : Bool) (s : State) : State :=
  let x := s.trunks[t]
  match x.phase, x.turn with
  | .sending poll start echoed, some turn =>
    if poll.length ≤ echoed ∨ elapsed start s.timeBase < sentTime x.config.rate (echoed + 1) ∨ framingError
        ∨ byteAt poll echoed ≠ value then
      s.echoFault t
    else if echoed + 1 = poll.length then s.pollSent t turn
    else s.setPhase t (.sending poll start (echoed + 1))
  | _, _ => s

/-- The byte time after a POLL byte's stop bit has passed with no echo (R102). -/
def echoDeadline (t : TrunkId) (s : State) : State :=
  let x := s.trunks[t]
  match x.phase with
  | .sending _ start echoed =>
    (s.advanceTo (echoDue x.config.rate (echoed + 1) start)).echoFault t
  | _ => s

/-- The first character of a REPLY starts, no later than the reply timeout: the timeout is dropped (R103). -/
def replyStarted (t : TrunkId) (s : State) : State :=
  match (s.trunks[t]).phase with
  | .waiting _ => s.setPhase t (.receiving [] none)
  | _ => s

/-- A turn ends as a MISS (R75, R106). -/
def State.endAsMiss (s : State) (t : TrunkId) (turn : Turn) : State :=
  ((s.setStage t turn .missed).countStation turn.slot fun c =>
    { c with turns := bump c.turns 1, misses := bump c.misses 1 }).settle turn none

/-- An attempt fails: a retry is due after the settle gap, or the turn ends as a MISS (R106). -/
def State.failAttempt (s : State) (t : TrunkId) (turn : Turn) : State :=
  let x := s.trunks[t]
  if turn.attempt < 1 + x.config.retries then
    (s.setTrunk t { x with turn := some { turn with attempt := turn.attempt + 1 } }).beginSettling t
  else (s.beginSettling t).endAsMiss t turn

/-- The reply timeout expires (R103). -/
def replyTimeout (t : TrunkId) (s : State) : State :=
  match (s.trunks[t]).phase, (s.trunks[t]).turn with
  | .waiting due, some turn =>
    ((s.advanceTo due).countTrunk t fun c => { c with timeouts := bump c.timeouts 1 }).failAttempt t turn
  | _, _ => s

/-- A broken reply (R104). -/
def State.breakReply (s : State) (t : TrunkId) (turn : Turn) : State :=
  (s.countTrunk t fun c => { c with broken := bump c.broken 1 }).failAttempt t turn

/-- The gap expiry falls due (R104). -/
def gapExpiry (t : TrunkId) (s : State) : State :=
  match (s.trunks[t]).phase, (s.trunks[t]).turn with
  | .receiving _ (some due), some turn => (s.advanceTo due).breakReply t turn
  | _, _ => s

/-- The restart flag of a REPLY (R80). -/
def State.restartStation (s : State) (i : StationId) : State :=
  (s.mapStation i fun st =>
    { st with baseline := none, counters := { st.counters with restarts := bump st.counters.restarts 1 } }).raise
      (.sequence i 0 1)

/-- The records of a HIT are set out to be walked; those of a REMOVING station are discarded and counted
instead (R75, R87). -/
def State.layOut (s : State) (t : TrunkId) (turn : Turn) (records : List ReplyRecord) : State :=
  match s.roster[turn.slot] with
  | some st =>
    if st.state = .removing then
      (s.setStage t turn (.replied s.timeBase [] none)).countStation turn.slot fun c =>
        { c with discarded := bump c.discarded records.length }
    else s.setStage t turn (.replied s.timeBase records none)
  | none => s.setStage t turn (.replied s.timeBase [] none)

/-- The roster's counts and the last hit time of a HIT (R75). -/
def State.countHit (s : State) (i : StationId) : State :=
  s.mapStation i fun st =>
    { st with lastHit := some s.timeBase
              counters := { st.counters with turns := bump st.counters.turns 1,
                                             hits := bump st.counters.hits 1 } }

/-- A turn ends as a HIT: counts, the acknowledgement, the restart flag, then the records (R75, R105). -/
def State.endAsHit (s : State) (t : TrunkId) (turn : Turn) (frame : ReplyFrame) : State :=
  let counted := ((s.countTrunk t fun c => { c with goodReplies := bump c.goodReplies 1 }).beginSettling t).countHit
    turn.slot
  let settled := (counted.countStray turn frame.ack).settle turn (some (frame.ack, frame.result))
  (if frame.restart then settled.restartStation turn.slot else settled).layOut t turn frame.records

/-- The address a REPLY to this turn must carry (R105). -/
def State.polledAddress (s : State) (turn : Turn) : Byte :=
  match s.roster[turn.slot] with
  | some st => st.address
  | none => 0#8

/-- A complete REPLY is judged (R105). -/
def State.completeReply (s : State) (t : TrunkId) (turn : Turn) (chars : List Byte) : State :=
  match judgeReply (s.polledAddress turn) chars with
  | .crcFailure =>
    (s.countTrunk t fun c => { c with crcFailures := bump c.crcFailures 1 }).failAttempt t turn
  | .misaddressed =>
    (s.countTrunk t fun c => { c with misaddressed := bump c.misaddressed 1 }).failAttempt t turn
  | .broken => s.breakReply t turn
  | .valid frame => s.endAsHit t turn frame

/-- A character that breaks the reply at once: a framing error, a wrong lead byte, or a body length above 240
(R104, R173). -/
def breaksReply (chars : List Byte) (value : Byte) (framingError : Bool) : Bool :=
  framingError || (chars.isEmpty && decide (value ≠ Config.replyLead))
    || (decide (chars.length = 2) && decide (240 < value.toNat))

/-- A character taken while RECEIVING that started no later than the gap expiry (R104). -/
def replyTaken (t : TrunkId) (value : Byte) (framingError : Bool) (s : State) : State :=
  match (s.trunks[t]).phase, (s.trunks[t]).turn with
  | .receiving chars _, some turn =>
    if breaksReply chars value framingError then s.breakReply t turn
    else if replyComplete (chars ++ [value]) then s.completeReply t turn (chars ++ [value])
    else s.setPhase t (.receiving (chars ++ [value])
      (some (later s.timeBase (byteTimes (s.trunks[t]).config.rate 2))))
  | _, _ => s

/-- The idle run after a character taken at `now`: it counts from the last rise of RXD, the character's or a later one
that LINE_LOW has told of. A framing error leaves RXD low, and there is no run until it rises (R94, log entry 18). -/
def StartWatch.afterCharacter (w : StartWatch) (rate : Fin 8) (value : Byte) (framingError : Bool) (now : Time) :
    StartWatch :=
  { w with idleFrom :=
      if framingError then w.idleFrom.filter fun f => passed now f
      else match w.idleFrom with
        | some f => some (if passed (lastRise rate value now) f then f else lastRise rate value now)
        | none => some (lastRise rate value now) }

/-- A stray byte: counted and discarded; while STARTING it also ends the idle run (R94, R108). -/
def strayTaken (t : TrunkId) (value : Byte) (framingError : Bool) (s : State) : State :=
  let x := s.trunks[t]
  if x.hearsStray then
    s.setTrunk t { x with
      counters := { x.counters with strayBytes := bump x.counters.strayBytes 1 }
      watch := x.watch.map fun w => w.afterCharacter x.config.rate value framingError s.timeBase }
  else s

/-- The settle gap ends: the attempt due begins, or the sequencer rests (R107). -/
def settleEnd (t : TrunkId) (s : State) : State :=
  match (s.trunks[t]).phase with
  | .settling due =>
    match (s.trunks[t]).turn with
    | some turn =>
      if turn.stage = .polling then (s.advanceTo due).beginPoll t turn
      else (s.advanceTo due).setPhase t .idle
    | none => (s.advanceTo due).setPhase t .idle
  | _ => s

/-! ### The close of a turn (R75, R76, R84, R87) -/

/-- The turn has ended and its records have their outcomes (R75). -/
def TurnStage.closable : TurnStage → Bool
  | .missed => true
  | .replied _ [] none => true
  | _ => false

/-- State and miss count after a HIT or a MISS, from the state at the turn's start (Table 4-3). -/
def turnOutcome (startState : StationState) (missCount limit : Nat) (hit : Bool) : StationState × Nat :=
  if hit then (.active, 0)
  else match startState with
    | .active => (if limit ≤ 1 then .lost else .lagging, 1)
    | .lost => (.lost, missCount)
    | other => (if limit ≤ missCount + 1 then .lost else other, missCount + 1)

/-- The turn ended as a HIT. -/
def TurnStage.isHit : TurnStage → Bool
  | .replied _ _ _ => true
  | _ => false

/-- The close of a turn at the station's entry (R76, R84, R87). -/
def State.closeStation (s : State) (turn : Turn) (limit : Nat) : State :=
  match s.roster[turn.slot] with
  | some st =>
    if st.state = .removing then s.completeRemoval turn.slot st
    else
      let outcome := turnOutcome turn.startState st.missCount limit turn.stage.isHit
      let now := if st.suspendPending then .suspended else outcome.1
      let closed := s.setStation turn.slot (some
        { st with state := now, missCount := outcome.2, suspendPending := false })
      if now = turn.startState then closed
      else closed.raise (.stationState turn.slot st.trunk st.address turn.startState now 1)
  | none => s

/-- The trunk learns that its turn is closed: a STOPPING trunk completes its stop, a RUNNING one ends its round
when no place is left (R73, R75, R96). -/
def State.turnClosed (s : State) (t : TrunkId) : State :=
  let closed := s.setTrunk t { s.trunks[t] with turn := none }
  match (s.trunks[t]).state with
  | .stopping => closed.completeStop t
  | .running => closed.endRoundIfDone t
  | _ => closed

/-- The turn in flight on trunk `t` is closed, once it has ended and its records have been walked (R75). -/
def turnClose (t : TrunkId) (s : State) : State :=
  match (s.trunks[t]).turn with
  | some turn =>
    if turn.stage.closable then (s.closeStation turn (s.trunks[t]).config.missLimit).turnClosed t else s
  | none => s

/-! ### Starting (R93, R94) -/

/-- When the idle run of a watch reaches 32 byte times, if it is running (R94). -/
def StartWatch.idleDue (w : StartWatch) (rate : Fin 8) : Option Time :=
  w.idleFrom.map fun f => later f (byteTimes rate 32)

/-- The idle watch of trunk `t` ends with the idle run complete at `due`: the trunk becomes RUNNING (R74, R94). -/
def State.runTrunk (s : State) (t : TrunkId) (w : StartWatch) (due : Time) : State :=
  let there := s.advanceTo due
  let running := there.setTrunk t
    { there.trunks[t] with state := .running, watch := none, roundCounter := 0 }
  (((running.wakeStations t).startRound t).answer 0x29#8 w.tag .ok []).raise
    (.trunkState t .starting .running .request)

/-- The idle watch of trunk `t` ends with the start limit: the trunk becomes FAULTED (R94). -/
def State.failStart (s : State) (t : TrunkId) (w : StartWatch) : State :=
  let there := s.advanceTo w.limit
  ((there.setTrunk t { there.trunks[t] with state := .faulted, cause := .lineBusy, watch := none }).answer
    0x29#8 w.tag .lineBusy []).raise (.trunkState t .starting .faulted .lineBusy)

/-- The idle run of a STARTING trunk is complete. It cannot be when the start limit falls before (R94). -/
def idleComplete (t : TrunkId) (s : State) : State :=
  match (s.trunks[t]).state, (s.trunks[t]).watch with
  | .starting, some w =>
    match w.idleDue (s.trunks[t]).config.rate with
    | some due => if passed w.limit due then s else s.runTrunk t w due
    | none => s
  | _, _ => s

/-- The start limit of a STARTING trunk expires. It cannot when the idle run is complete before (R94). -/
def startLimitExpiry (t : TrunkId) (s : State) : State :=
  match (s.trunks[t]).state, (s.trunks[t]).watch with
  | .starting, some w =>
    match w.idleDue (s.trunks[t]).config.rate with
    | some due => if passed due w.limit then s else s.failStart t w
    | none => s.failStart t w
  | _, _ => s

/-! ### Events on the line (R94, R102 to R104, R108) -/

/-- The idle watch of trunk `t` when RXD goes low at `low` and time has come to `now`: an end of the watch that falls
before is taken first (R94). -/
def State.watchTo (s : State) (t : TrunkId) (w : StartWatch) (low now : Time) : State :=
  match w.idleDue (s.trunks[t]).config.rate with
  | some due =>
    if passed due low && !passed w.limit due then s.runTrunk t w due
    else if passed w.limit now then s.failStart t w else s
  | none => if passed w.limit now then s.failStart t w else s

/-- The expiry of trunk `t` that falls before a character which starts at `low` and is taken at `now` is taken first,
at its own time: the end of the idle watch, the echo deadline, the reply timeout or the gap expiry (R94, R102 to
R104). -/
def State.expireBefore (s : State) (t : TrunkId) (low now : Time) : State :=
  let x := s.trunks[t]
  match x.phase with
  | .sending _ start echoed =>
    if passed (echoDue x.config.rate (echoed + 1) start) now then echoDeadline t s else s
  | .waiting due => if passed due low then replyTimeout t s else s
  | .receiving _ (some due) => if passed due low then gapExpiry t s else s
  | .receiving _ none => s
  | .settling _ => s
  | .idle =>
    match x.state, x.watch with
    | .starting, some w => s.watchTo t w low now
    | _, _ => s

/-- Time comes to `now` on trunk `t`, where RXD has gone low at `low` (log entry 24). -/
def State.lineTo (s : State) (t : TrunkId) (low now : Time) : State := (s.expireBefore t low now).comeTo now

/-- When the character that is taken at `now` on trunk `t` has started: one byte time before (R90). -/
def State.charStart (s : State) (t : TrunkId) (now : Time) : Time :=
  earlier now (byteTimes (s.trunks[t]).config.rate 1)

/-- A character is taken on trunk `t`: an echo while SENDING, a character of the REPLY while RECEIVING, and otherwise
a stray byte (R102, R104, R108). -/
def characterTaken (t : TrunkId) (value : Byte) (framingError : Bool) (s : State) : State :=
  match (s.trunks[t]).phase with
  | .sending _ _ _ => echoTaken t value framingError s
  | .receiving _ _ => replyTaken t value framingError s
  | .idle | .waiting _ | .settling _ => strayTaken t value framingError s

/-- A character comes on trunk `t`, `dt` from now (R90). -/
def State.character (s : State) (t : TrunkId) (dt : Nat) (value : Byte) (framingError : Bool) : State :=
  characterTaken t value framingError
    (s.lineTo t (s.charStart t (later s.timeBase dt)) (later s.timeBase dt))

/-- A character comes while SENDING: an echo, or a stray byte after the echo's deadline (R102). -/
def echoCharacter (t : TrunkId) (dt : Nat) (value : Byte) (framingError : Bool) (s : State) : State :=
  match (s.trunks[t]).phase with
  | .sending _ _ _ => s.character t dt value framingError
  | _ => s.elapse dt

/-- The first character of a REPLY starts while WAITING; after the reply timeout it starts a stray byte (R103). -/
def replyStart (t : TrunkId) (dt : Nat) (s : State) : State :=
  match (s.trunks[t]).phase with
  | .waiting _ => replyStarted t (s.lineTo t (later s.timeBase dt) (later s.timeBase dt))
  | _ => s.elapse dt

/-- A character comes while RECEIVING: one of the REPLY, or a stray byte after the gap expiry (R104). -/
def replyCharacter (t : TrunkId) (dt : Nat) (value : Byte) (framingError : Bool) (s : State) : State :=
  match (s.trunks[t]).phase with
  | .receiving _ _ => s.character t dt value framingError
  | _ => s.elapse dt

/-- A character comes while the trunk listens outside SENDING, WAITING and RECEIVING (R108). -/
def strayByte (t : TrunkId) (dt : Nat) (value : Byte) (framingError : Bool) (s : State) : State :=
  if (s.trunks[t]).hearsStray then s.character t dt value framingError else s.elapse dt

/-- RXD goes low on a STARTING trunk: the idle run begins again when it returns high, `lowFor` later (R94). -/
def lineWentLow (t : TrunkId) (lowFor : Nat) (s : State) : State :=
  match (s.trunks[t]).state with
  | .starting =>
    s.setTrunk t { s.trunks[t] with
      watch := (s.trunks[t]).watch.map fun w => { w with idleFrom := some (later s.timeBase lowFor) } }
  | _ => s

/-- RXD goes low, `dt` from now, on a trunk that is STARTING unless its idle watch ends before (R94). -/
def lineLow (t : TrunkId) (dt lowFor : Nat) (s : State) : State :=
  match (s.trunks[t]).state with
  | .starting => lineWentLow t lowFor (s.lineTo t (later s.timeBase dt) (later s.timeBase dt))
  | _ => s.elapse dt

/-! ### Requests on trunks (R92, R93, R95, R99) -/

/-- TRUNK_CONFIG at its owner (R92). -/
def trunkConfig (tag : Byte) (body : List Byte) (s : State) : State :=
  match index? 2 (byteAt body 0), decodeTrunkConfig body with
  | some t, some config =>
    match (s.trunks[t]).state with
    | .stopped | .faulted => (s.setTrunk t { s.trunks[t] with config := config }).answer 0x28#8 tag .ok []
    | .starting | .running | .stopping => s.answer 0x28#8 tag .wrongState []
  | _, _ => s.answer 0x28#8 tag .badArg []

/-- TRUNK_START at its owner: the round counter returns to 0 (R74, R158), and the reply is deferred to the end of the
idle watch (R93). -/
def trunkStart (tag : Byte) (body : List Byte) (s : State) : State :=
  match index? 2 (byteAt body 0) with
  | some t =>
    match (s.trunks[t]).state with
    | .stopped | .faulted =>
      s.setTrunk t { s.trunks[t] with
        state := .starting, cause := .none, echoRun := 0, roundCounter := 0
        watch := some { idleFrom := some s.timeBase, limit := later s.timeBase Config.startLimit, tag := tag } }
    | .starting | .running | .stopping => s.answer 0x29#8 tag .wrongState []
  | none => s.answer 0x29#8 tag .badArg []

/-- A RUNNING trunk becomes STOPPING: no further round starts and no further turn begins; with no turn in
flight the stop completes at once (R74, R95). -/
def State.beginStop (s : State) (t : TrunkId) (tag : Option Byte) : State :=
  let stopping := s.setTrunk t { s.trunks[t] with
    state := .stopping, round := none, nextRound := none, stopTag := tag }
  if (s.trunks[t]).turn.isNone then stopping.completeStop t else stopping

/-- A STARTING trunk becomes STOPPED: its TRUNK_START is answered ABORTED (R95). -/
def State.abortStart (s : State) (t : TrunkId) : State :=
  let stopped := s.setTrunk t { s.trunks[t] with state := .stopped, watch := none }
  match (s.trunks[t]).watch with
  | some w => stopped.answer 0x29#8 w.tag .aborted []
  | none => stopped

/-- TRUNK_STOP at its owner (R95). -/
def trunkStop (tag : Byte) (body : List Byte) (s : State) : State :=
  match index? 2 (byteAt body 0) with
  | some t =>
    match (s.trunks[t]).state with
    | .stopped => s.answer 0x2A#8 tag .ok [TrunkState.stopped.code]
    | .starting =>
      ((s.abortStart t).answer 0x2A#8 tag .ok [TrunkState.stopped.code]).raise
        (.trunkState t .starting .stopped .request)
    | .running => s.beginStop t (some tag)
    | .stopping => s.answer 0x2A#8 tag .wrongState []
    | .faulted => (s.stopFaulted t).answer 0x2A#8 tag .ok [TrunkState.stopped.code]
  | none => s.answer 0x2A#8 tag .badArg []

/-- What TRUNK_QUERY reports (R99, Table 10-9). -/
def trunkReport (t : TrunkId) (x : Trunk) : List Byte :=
  [byteOf t.1, x.state.code, x.cause.code, byteOf x.config.rate.1] ++ le16 x.config.timeout
    ++ [byteOf x.config.retries, byteOf x.config.missLimit] ++ le16 x.config.period ++ le16 x.roundCounter
    ++ [x.phase.code, match x.turn with
        | some turn => byteOf turn.slot.1
        | none => 0xFF#8,
      match x.turn with
        | some turn => byteOf turn.attempt
        | none => 0#8,
      byteOf x.echoRun]

/-- TRUNK_QUERY at its owner (R99). -/
def trunkQuery (tag : Byte) (body : List Byte) (s : State) : State :=
  match index? 2 (byteAt body 0) with
  | some t => s.answer 0x2B#8 tag .ok (trunkReport t s.trunks[t])
  | none => s.answer 0x2B#8 tag .badArg []

/-- The stop step of a close at one trunk (R110). -/
def State.closeStopTrunk (s : State) (t : TrunkId) : State :=
  match (s.trunks[t]).state with
  | .faulted => s.stopFaulted t
  | .running => s.beginStop t none
  | .stopped | .starting | .stopping => s

/-! ### The frames of these requests at acceptance, and the meanings -/

/-- A TRUNK_CONFIG frame at acceptance. -/
def takeTrunkConfig (tag : Byte) (body : List Byte) : State → State :=
  takeFrame 0x28#8 tag body (trunkConfig tag body)

/-- A TRUNK_START frame at acceptance. -/
def takeTrunkStart (tag : Byte) (body : List Byte) : State → State :=
  takeFrame 0x29#8 tag body (trunkStart tag body)

/-- A TRUNK_STOP frame at acceptance. -/
def takeTrunkStop (tag : Byte) (body : List Byte) : State → State :=
  takeFrame 0x2A#8 tag body (trunkStop tag body)

/-- A TRUNK_QUERY frame at acceptance. -/
def takeTrunkQuery (tag : Byte) (body : List Byte) : State → State :=
  takeFrame 0x2B#8 tag body (trunkQuery tag body)

/-- TRUNK_CONFIG (R92). -/
def execTrunkConfig (tag : Byte) (body : List Byte) (s : State) : Host.Outcome State Fault Refusal :=
  perform (takeTrunkConfig tag body) s

/-- TRUNK_START (R93). -/
def execTrunkStart (tag : Byte) (body : List Byte) (s : State) : Host.Outcome State Fault Refusal :=
  perform (takeTrunkStart tag body) s

/-- TRUNK_STOP (R95). -/
def execTrunkStop (tag : Byte) (body : List Byte) (s : State) : Host.Outcome State Fault Refusal :=
  perform (takeTrunkStop tag body) s

/-- TRUNK_QUERY (R99). -/
def execTrunkQuery (tag : Byte) (body : List Byte) (s : State) : Host.Outcome State Fault Refusal :=
  perform (takeTrunkQuery tag body) s

/-- IDLE_COMPLETE (R94). -/
def execIdleComplete (t : TrunkId) (s : State) : Host.Outcome State Fault Refusal := perform (idleComplete t) s

/-- START_LIMIT_EXPIRY (R94). -/
def execStartLimitExpiry (t : TrunkId) (s : State) : Host.Outcome State Fault Refusal :=
  perform (startLimitExpiry t) s

/-- LINE_LOW (R94). -/
def execLineLow (t : TrunkId) (dt lowFor : Nat) (s : State) : Host.Outcome State Fault Refusal :=
  perform (lineLow t dt lowFor) s

/-- ROUND_START (R70). -/
def execRoundStart (t : TrunkId) (s : State) : Host.Outcome State Fault Refusal := perform (roundStart t) s

/-- TURN_BEGIN (R71, R100). -/
def execTurnBegin (t : TrunkId) (s : State) : Host.Outcome State Fault Refusal := perform (turnBegin t) s

/-- ECHO_CHARACTER (R102). -/
def execEchoCharacter (t : TrunkId) (dt : Nat) (value : Byte) (framingError : Bool) (s : State) :
    Host.Outcome State Fault Refusal := perform (echoCharacter t dt value framingError) s

/-- ECHO_DEADLINE_EXPIRY (R102). -/
def execEchoDeadlineExpiry (t : TrunkId) (s : State) : Host.Outcome State Fault Refusal :=
  perform (echoDeadline t) s

/-- REPLY_START (R103). -/
def execReplyStart (t : TrunkId) (dt : Nat) (s : State) : Host.Outcome State Fault Refusal :=
  perform (replyStart t dt) s

/-- REPLY_TIMEOUT (R103). -/
def execReplyTimeout (t : TrunkId) (s : State) : Host.Outcome State Fault Refusal := perform (replyTimeout t) s

/-- REPLY_CHARACTER (R104, R105). -/
def execReplyCharacter (t : TrunkId) (dt : Nat) (value : Byte) (framingError : Bool) (s : State) :
    Host.Outcome State Fault Refusal := perform (replyCharacter t dt value framingError) s

/-- GAP_EXPIRY (R104). -/
def execGapExpiry (t : TrunkId) (s : State) : Host.Outcome State Fault Refusal := perform (gapExpiry t) s

/-- STRAY_BYTE (R108). -/
def execStrayByte (t : TrunkId) (dt : Nat) (value : Byte) (framingError : Bool) (s : State) :
    Host.Outcome State Fault Refusal := perform (strayByte t dt value framingError) s

/-- SETTLE_END (R107). -/
def execSettleEnd (t : TrunkId) (s : State) : Host.Outcome State Fault Refusal := perform (settleEnd t) s

/-- TURN_CLOSE (R75). -/
def execTurnClose (t : TrunkId) (s : State) : Host.Outcome State Fault Refusal := perform (turnClose t) s

end Sys2Proof.Machine
end

