-- ==== Sys2Proof/Machine/Link.lean ====
section
/-! DEFINITION. The host link controller (chapter 7) with the notice mask and the counter bank's read: its
requests, frames of no request kind, message completion, the close, resets and the pin levels from outside. -/

namespace Sys2Proof.Machine

/-! ### Sessions (R140, R141, R143) -/

/-- What the LINK_OPEN reply reports: revision, mode, capacities, time base (R140, Table 10-6). -/
def openReport (mode : LinkMode) (now : Time) : List Byte :=
  [1#8, mode.code, byteOf 64, byteOf 48, byteOf 4] ++ le16 256
    ++ [byteOf 8, byteOf Config.maxDirectives, byteOf Config.maxStationDirectives,
      byteOf Config.maxOutstanding, byteOf Config.maxReplies, byteOf Config.maxNotices] ++ le32 now.toNat

/-- LINK_OPEN at its owner (R140). A revision other than 1 in an OPEN session is answered BAD_ARG: R140 gives both
refusals and no order of the two checks, and the model tests the revision first (DESIGN CHOICE, log entry 25). -/
def linkOpen (tag : Byte) (body : List Byte) (s : State) : State :=
  if natAt body 0 ≠ 1 then s.answer 0x01#8 tag .badArg []
  else if s.link.session = .closed then
    ((s.setLink { s.link with session := .opened }).setNotices
      { s.notices with mask := 0x3F#8, lost := 0 }).answer 0x01#8 tag .ok (openReport s.mode s.timeBase)
  else s.answer 0x01#8 tag .wrongState []

/-- LINK_CLOSE at its owner: the session becomes CLOSING, and the reply is deferred (R141). -/
def linkClose (tag : Byte) (s : State) : State :=
  s.setLink { s.link with session := .closing .answers tag }

/-- PART_RESET at its owner: the reply is queued and a reset is pending (R143). -/
def partReset (tag : Byte) (s : State) : State :=
  let answered := s.answer 0x03#8 tag .ok []
  answered.setLink { answered.link with resetPending := true }

/-- The stop step of a close (R110, R141 steps 1 and 2): it begins when every earlier request is answered. -/
def closeStopStep (s : State) : State :=
  match s.link.session with
  | .closing .answers tag =>
    if s.earlierAnswered tag then
      (List.finRange 2).foldl State.closeStopTrunk
        (s.setLink { s.link with session := .closing .stopping tag })
    else s
  | _ => s

/-- The directive, flush and notice steps of a close, once both trunks are STOPPED (R62, R124, R141 steps 3 to
5, R155). -/
def closeDirectiveStep (s : State) : State :=
  match s.link.session with
  | .closing .stopping tag =>
    if s.trunksStopped then
      let flushed := (s.setDirectives []).flushStep
      (flushed.setNotices { flushed.notices with entries := [] }).setLink
        { flushed.link with session := .closing .batches tag }
    else s
  | _ => s

/-- The end of a close, once no channel has an in-flight batch (R141 steps 6 and 7). -/
def closeEnd (s : State) : State :=
  match s.link.session with
  | .closing .batches tag =>
    if s.noBatchInFlight then (s.setLink { s.link with session := .closed }).answer 0x02#8 tag .ok [] else s
  | _ => s

/-! ### The notice mask (R154) -/

/-- NOTICE_MASK at its owner (R154, R168). -/
def noticeMask (tag : Byte) (body : List Byte) (s : State) : State :=
  if 64 ≤ natAt body 0 then s.answer 0x04#8 tag .badArg []
  else
    (s.setNotices { s.notices with mask := byteAt body 0 }).answer 0x04#8 tag .ok
      (byteAt body 0 :: le16 s.notices.lost)

/-! ### COUNTERS_READ (R159) -/

/-- One member of a counter group (R158). -/
inductive CounterMember where
  | trunk (trunk : TrunkId)
  | station (slot : StationId) (entry : Station)
  | channel (channel : ChannelId)
  | link
  deriving DecidableEq, Repr

/-- The member a COUNTERS_READ names, or the status of its refusal (R159). -/
def State.counterMember (s : State) (body : List Byte) : Except Status CounterMember :=
  match CounterGroup.ofCode (byteAt body 0), index? 2 (byteAt body 2) with
  | some .trunk, some _ =>
    match index? 2 (byteAt body 1) with
    | some t => .ok (.trunk t)
    | none => .error .badArg
  | some .station, some _ =>
    match s.rosterCheck (byteAt body 1) with
    | .ok (i, st) => .ok (.station i st)
    | .error status => .error status
  | some .channel, some _ =>
    match index? 8 (byteAt body 1) with
    | some c => .ok (.channel c)
    | none => .error .badArg
  | some .link, some _ => if byteAt body 1 = 0#8 then .ok .link else .error .badArg
  | _, _ => .error .badArg

/-- The member's counters in the order of Table 9-1. -/
def State.counterValues (s : State) : CounterMember → List Nat
  | .trunk t => (s.trunks[t]).counters.list
  | .station _ st => st.counters.list
  | .channel c => (s.channels[c]).counters.list
  | .link => s.link.counters.list

/-- The member's counters become 0 (R159). -/
def State.clearCounters (s : State) : CounterMember → State
  | .trunk t => s.countTrunk t fun _ => .zero
  | .station i _ => s.countStation i fun _ => .zero
  | .channel c => s.setChannel c { s.channels[c] with counters := .zero }
  | .link => s.countLink fun _ => .zero

/-- What the COUNTERS_READ reply reports (R159, Table 10-6). -/
def countersReport (body : List Byte) (values : List Nat) (now : Time) : List Byte :=
  [byteAt body 0, byteAt body 1, byteAt body 2, byteOf values.length] ++ values.flatMap le32
    ++ le32 now.toNat

/-- COUNTERS_READ at its owner (R159). -/
def countersRead (tag : Byte) (body : List Byte) (s : State) : State :=
  match s.counterMember body with
  | .error status => s.answer 0x05#8 tag status []
  | .ok member =>
    (if byteAt body 2 = 1#8 then s.clearCounters member else s).answer 0x05#8 tag .ok
      (countersReport body (s.counterValues member) s.timeBase)

/-! ### Message completion (R139, R143) -/

/-- The reply's last byte has been sent: it leaves the reply queue, and the request it answered leaves the
table (R134, R135, R139). -/
def State.replySent (s : State) (r : Reply) : State :=
  s.setLink { s.link with
    replies := s.link.replies.erase r
    requests := if r.refusal then s.link.requests
      else s.link.requests.filter fun q => decide (q.tag ≠ r.tag) }

/-- The completion of a message at its owner (R57, R139); that of the PART_RESET reply resets the part
(R143). -/
def State.completed (s : State) (what : Outgoing) : State :=
  match what with
  | .reply r => if r.kind = 0x03#8 ∧ r.refusal = false then (s.replySent r).cleared else s.replySent r
  | .notice _ => s
  | .batch c => s.completeBatch c

/-- In the SPI mode a completion comes at the eighth clock of the closing delimiter, so HCS# is low and MISO
carries the delimiter (R129, R139). -/
def State.clockedOut (s : State) : State :=
  if s.mode.isUart then s else { s with hcsIsHigh := false, hostOut := .driving Config.delimiter }

/-- Message `m` has been sent: the transmitter is free, and the completion is reported (R138, R139). -/
def State.messageSent (s : State) (m : Transmission) : State :=
  (s.setLink { s.link with tx := none }).completed m.what

/-- The message cannot complete now: HOLD# pauses it (R128, log entry 5), or in the SPI mode the host has not clocked
out all of it but the closing delimiter (R129). -/
def State.unfinished (s : State) (m : Transmission) : Bool :=
  (s.held && decide (m.sent < m.wire.length)) || (!s.mode.isUart && decide (m.sent + 1 < m.wire.length))

/-- The last byte of the message in transmission has been sent (R139). -/
def messageCompletion (s : State) : State :=
  match s.link.tx with
  | none => s
  | some m => if s.unfinished m then s else s.clockedOut.messageSent m

/-! ### Resets and pin levels from outside (R127 to R129, R144) -/

/-- RESET# goes low (R144). -/
def resetAssert (s : State) : State := { s.cleared with inReset := true }

/-- RESET# is released: the straps are sampled, and the part holds its reset state (R127, R144). -/
def resetRelease (mode1 mode0 : Bool) (s : State) : State :=
  if s.inReset then { s.cleared with inReset := false, mode := LinkMode.ofStraps mode1 mode0 } else s

/-- HOLD# goes low; in a UART mode the bytes already begun are finished (R128, log entry 5). -/
def holdAssert (begun : Nat) (s : State) : State :=
  if s.mode.isUart ∧ s.holdLow = false then
    { s with
      holdLow := true
      link := { s.link with tx := s.link.tx.map fun m => { m with sent := max m.sent (min begun m.wire.length) } } }
  else { s with holdLow := true }

/-- HOLD# goes high (R128). -/
def holdRelease (s : State) : State := { s with holdLow := false }

/-- HCS# goes high: MISO becomes high-impedance in the SPI mode (R129). -/
def hcsHigh (s : State) : State := { s with hcsIsHigh := true }

/-- The outcome of a change of a pin level: it is taken while RESET# is low as well. -/
def performPin (effect : State → State) (s : State) : Host.Outcome State Fault Refusal :=
  .next (if (effect s).inReset then (effect s).drivePins else (effect s).finish false)

/-! ### The frames of these requests at acceptance, and the meanings -/

/-- A LINK_OPEN frame at acceptance. -/
def takeLinkOpen (tag : Byte) (body : List Byte) : State → State :=
  takeFrame 0x01#8 tag body (linkOpen tag body)

/-- A LINK_CLOSE frame at acceptance. -/
def takeLinkClose (tag : Byte) (body : List Byte) : State → State :=
  takeFrame 0x02#8 tag body (linkClose tag)

/-- A PART_RESET frame at acceptance. -/
def takePartReset (tag : Byte) (body : List Byte) : State → State :=
  takeFrame 0x03#8 tag body (partReset tag)

/-- A NOTICE_MASK frame at acceptance. -/
def takeNoticeMask (tag : Byte) (body : List Byte) : State → State :=
  takeFrame 0x04#8 tag body (noticeMask tag body)

/-- A COUNTERS_READ frame at acceptance. -/
def takeCountersRead (tag : Byte) (body : List Byte) : State → State :=
  takeFrame 0x05#8 tag body (countersRead tag body)

/-- A good frame whose kind is not a request kind at acceptance (R136). A request kind spells no such frame
(log entry 21). -/
def takeUnknownKind (kind tag : Byte) (body : List Byte) (s : State) : State :=
  if (Config.bodyLengths kind).isNone then takeFrame kind tag body id s else s

/-- UNKNOWN_KIND_FRAME (R136). -/
def execUnknownKindFrame (kind tag : Byte) (body : List Byte) (s : State) : Host.Outcome State Fault Refusal :=
  perform (takeUnknownKind kind tag body) s

/-- LINK_OPEN (R140). -/
def execLinkOpen (tag : Byte) (body : List Byte) (s : State) : Host.Outcome State Fault Refusal :=
  perform (takeLinkOpen tag body) s

/-- LINK_CLOSE (R141). -/
def execLinkClose (tag : Byte) (body : List Byte) (s : State) : Host.Outcome State Fault Refusal :=
  perform (takeLinkClose tag body) s

/-- PART_RESET (R143). -/
def execPartReset (tag : Byte) (body : List Byte) (s : State) : Host.Outcome State Fault Refusal :=
  perform (takePartReset tag body) s

/-- NOTICE_MASK (R154). -/
def execNoticeMask (tag : Byte) (body : List Byte) (s : State) : Host.Outcome State Fault Refusal :=
  perform (takeNoticeMask tag body) s

/-- COUNTERS_READ (R159). -/
def execCountersRead (tag : Byte) (body : List Byte) (s : State) : Host.Outcome State Fault Refusal :=
  perform (takeCountersRead tag body) s

/-- MESSAGE_COMPLETION (R139): the next message picked follows the closing delimiter directly (R132). -/
def execMessageCompletion (dt : Nat) (s : State) : Host.Outcome State Fault Refusal :=
  .next (if s.inReset then s else (messageCompletion (s.elapse dt)).finish s.link.tx.isSome)

/-- CLOSE_STOP_STEP (R110, R141). -/
def execCloseStopStep (s : State) : Host.Outcome State Fault Refusal := perform closeStopStep s

/-- CLOSE_DIRECTIVE_STEP (R124, R141). -/
def execCloseDirectiveStep (s : State) : Host.Outcome State Fault Refusal := perform closeDirectiveStep s

/-- CLOSE_END (R141). -/
def execCloseEnd (s : State) : Host.Outcome State Fault Refusal := perform closeEnd s

/-- RESET_ASSERT (R144). -/
def execResetAssert (s : State) : Host.Outcome State Fault Refusal := performPin resetAssert s

/-- RESET_RELEASE (R127, R144). -/
def execResetRelease (mode1 mode0 : Bool) (s : State) : Host.Outcome State Fault Refusal :=
  performPin (resetRelease mode1 mode0) s

/-- HOLD_ASSERT (R128). -/
def execHoldAssert (begun : Nat) (s : State) : Host.Outcome State Fault Refusal :=
  performPin (holdAssert begun) s

/-- HOLD_RELEASE (R128). -/
def execHoldRelease (s : State) : Host.Outcome State Fault Refusal := performPin holdRelease s

/-- HCS_HIGH (R129). -/
def execHcsHigh (s : State) : Host.Outcome State Fault Refusal := performPin hcsHigh s

end Sys2Proof.Machine
end

