-- ==== Sys2Proof/WellFormed.lean ====
section
/-! DEFINITION. Which commands can come about at all: the bounds their operands keep. The machine is total
and answers an ill-formed command too; statements that need the bounds name `WellFormed`. -/

namespace Sys2Proof

/-- A frame's body is at most 528 bytes (R131). -/
def wfBody (body : List Byte) : Bool := decide (body.length ≤ Config.maxBody)

/-- An event comes at most half a cycle of the time base after the one before it: longer idling is a run of
ticks (log entries 2 and 3). -/
def wfDelay (dt : Nat) : Bool := decide (dt < 2147483648)

/-- The enabled flag of a CHANNEL_CONFIG body is 0: the request is the disabling one (R47, Table 10-8). -/
def isDisabling (body : List Byte) : Bool := body.getD 1 1#8 == 0#8

/-- The operands keep the bounds the spec gives them. -/
def WellFormed : Instr → Bool
  | .unknownKindFrame kind _ body => (Config.bodyLengths kind).isNone && wfBody body
  | .channelConfigEnable _ body => !isDisabling body && wfBody body
  | .channelConfigDisable _ body => isDisabling body && wfBody body
  | .inboundByte dt _ _ | .messageCompletion dt | .echoCharacter _ dt _ _ | .replyStart _ dt
  | .replyCharacter _ dt _ _ | .strayByte _ dt _ _ => wfDelay dt
  | .lineLow _ dt lowFor => wfDelay dt && decide (lowFor ≤ Config.startLimit)
  | .holdAssert begun => decide (begun ≤ 2 * Config.maxContent + 2)
  | .linkOpen _ body | .linkClose _ body | .partReset _ body | .noticeMask _ body | .countersRead _ body
  | .ruleWrite _ body | .ruleErase _ body | .setWrite _ body | .defaultWrite _ body | .stageLoad _ body
  | .ruleCommit _ body | .ruleRead _ body | .channelCredit _ body | .channelFlush _ body
  | .channelQuery _ body | .stationAdd _ body | .stationSet _ body | .stationQuery _ body
  | .stationList _ body | .stationSuspend _ body | .stationResume _ body | .stationRemove _ body
  | .trunkConfig _ body | .trunkStart _ body | .trunkStop _ body | .trunkQuery _ body
  | .directiveSubmit _ body | .directiveCancel _ body | .directiveQuery _ body => wfBody body
  | .resetAssert | .resetRelease _ _ | .holdRelease | .closeEnd | .closeStopStep | .closeDirectiveStep
  | .idleComplete _ | .startLimitExpiry _ | .roundStart _ | .turnBegin _ | .echoDeadlineExpiry _
  | .replyTimeout _ | .gapExpiry _ | .settleEnd _ | .sequenceCheck _ | .admission _ | .turnClose _
  | .holdExpiry _ | .hcsHigh => true

end Sys2Proof
end

