-- ==== Sys2Proof/Machine/Inbound.lean ====
section
/-! DEFINITION. The frame receiver (R133), and the way of a good frame to acceptance and dispatch (R136). -/

namespace Sys2Proof.Machine

/-! ### The receiver's table (R133) -/

/-- What an inbound byte brings about besides the receiver's own move. -/
inductive ReceiverEvent where
  | nothing
  | badFrame
  | tooLong
  | frameEnd (content : List Byte)
  deriving DecidableEq, Repr

/-- A byte is appended to the content, unless the content would become too long (R133). -/
def appendContent (content : List Byte) (b : Byte) : Receiver × ReceiverEvent :=
  if content.length < Config.maxContent then (.collecting (content ++ [b]), .nothing)
  else (.discarding, .tooLong)

/-- The frame receiver takes one byte (R133). -/
def Receiver.take (r : Receiver) (b : Byte) (framingError : Bool) : Receiver × ReceiverEvent :=
  match r with
  | .hunting => if framingError = false ∧ b = Config.delimiter then (.collecting [], .nothing) else (.hunting, .nothing)
  | .discarding =>
    if framingError = false ∧ b = Config.delimiter then (.collecting [], .nothing) else (.discarding, .nothing)
  | .collecting content =>
    if framingError then (.discarding, .badFrame)
    else if b = Config.delimiter then (.collecting [], .frameEnd content)
    else if b = Config.escape then (.escaped content, .nothing)
    else appendContent content b
  | .escaped content =>
    if framingError then (.discarding, .badFrame)
    else if b = Config.delimiter then (.collecting [], .badFrame)
    else if b = 0x85#8 then appendContent content Config.delimiter
    else if b = 0x86#8 then appendContent content Config.escape
    else (.discarding, .badFrame)

/-! ### Dispatch of a good frame (R134, R136) -/

/-- A good frame reaches acceptance as the request its kind names, or as a frame of no request kind. -/
def deliver (kind tag : Byte) (body : List Byte) : State → State :=
  match kind.toNat with
  | 0x01 => takeLinkOpen tag body
  | 0x02 => takeLinkClose tag body
  | 0x03 => takePartReset tag body
  | 0x04 => takeNoticeMask tag body
  | 0x05 => takeCountersRead tag body
  | 0x10 => takeRuleWrite tag body
  | 0x11 => takeRuleErase tag body
  | 0x12 => takeSetWrite tag body
  | 0x13 => takeDefaultWrite tag body
  | 0x14 => takeStageLoad tag body
  | 0x15 => takeRuleCommit tag body
  | 0x16 => takeRuleRead tag body
  | 0x18 =>
    if isDisabling body then takeChannelConfigDisable tag body else takeChannelConfigEnable tag body
  | 0x19 => takeChannelCredit tag body
  | 0x1A => takeChannelFlush tag body
  | 0x1B => takeChannelQuery tag body
  | 0x20 => takeStationAdd tag body
  | 0x21 => takeStationSet tag body
  | 0x22 => takeStationQuery tag body
  | 0x23 => takeStationList tag body
  | 0x24 => takeStationSuspend tag body
  | 0x25 => takeStationResume tag body
  | 0x26 => takeStationRemove tag body
  | 0x28 => takeTrunkConfig tag body
  | 0x29 => takeTrunkStart tag body
  | 0x2A => takeTrunkStop tag body
  | 0x2B => takeTrunkQuery tag body
  | 0x30 => takeDirectiveSubmit tag body
  | 0x31 => takeDirectiveCancel tag body
  | 0x32 => takeDirectiveQuery tag body
  | _ => takeUnknownKind kind tag body

/-- A discarded frame is counted once (R133). -/
def LinkCounters.badFrames (c : LinkCounters) : LinkCounters := { c with badFrame := bump c.badFrame 1 }

/-- The frame that a delimiter ended is judged, and a good one goes to acceptance (R133). -/
def State.frameEnded (s : State) (content : List Byte) : State :=
  match judgeContent content with
  | .ignored => s
  | .badFrame => s.countLink LinkCounters.badFrames
  | .badCrc => s.countLink fun c => { c with badCrc := bump c.badCrc 1 }
  | .good kind tag body => deliver kind tag body s

/-- What the receiver's event brings about (R133). -/
def State.receiverEvent (s : State) : ReceiverEvent → State
  | .nothing => s
  | .badFrame => s.countLink LinkCounters.badFrames
  | .tooLong => s.countLink fun c => { c with tooLong := bump c.tooLong 1 }
  | .frameEnd content => s.frameEnded content

/-- The message whose next byte an SPI exchange sends: the one in transmission, unless the exchange's first clock came
before it was picked, when the fill byte was supplied (R129, log entry 23). -/
def State.clocked (s : State) (mark : Bool) : Option Transmission :=
  if s.mode.isUart then none else s.link.tx.filter fun m => !(mark && decide (m.sent = 0))

/-- In the SPI mode an inbound byte comes with an outbound one: the next byte of the message in transmission, which
then is sent, or the fill byte (R129). -/
def State.exchange (s : State) (mark : Bool) : State :=
  if s.mode.isUart then s
  else match s.clocked mark with
    | some m => { s with
        hcsIsHigh := false
        hostOut := .driving (m.wire.getD m.sent Config.delimiter)
        link := { s.link with tx := some { m with sent := m.sent + 1 } } }
    | none => { s with hcsIsHigh := false, hostOut := .driving Config.delimiter }

/-- The exchange clocks out the closing delimiter of the message in transmission (R129, R139). -/
def State.closesMessage (s : State) (mark : Bool) : Bool :=
  match s.clocked mark with
  | some m => decide (m.wire.length ≤ m.sent + 1)
  | none => false

/-- The message in transmission has been sent (R139). -/
def State.txSent (s : State) : State :=
  match s.link.tx with
  | some m => s.messageSent m
  | none => s

/-- One inbound host byte (R133); an SPI byte carries no framing error, and the exchange that clocks out a closing
delimiter completes its message once the byte has been taken (R129, R139; log entry 23). -/
def inboundByte (value : Byte) (mark : Bool) (s : State) : State :=
  let exchanged := s.exchange mark
  let moved := s.link.receiver.take value (mark && s.mode.isUart)
  let received := (exchanged.setLink { exchanged.link with receiver := moved.1 }).receiverEvent moved.2
  if s.closesMessage mark then received.txSent else received

/-- INBOUND_BYTE (R133). The message picked after a completion follows the closing delimiter directly (R132). -/
def execInboundByte (dt : Nat) (value : Byte) (mark : Bool) (s : State) :
    Host.Outcome State Fault Refusal :=
  .next (if s.inReset then s
    else (inboundByte value mark (s.elapse dt)).finish (s.closesMessage mark))

end Sys2Proof.Machine
end

