-- ==== Sys2Proof/Machine/Dispatch.lean ====
section
/-! DEFINITION. One arm for each command: a direct call of its meaning. -/

namespace Sys2Proof.Machine

/-- The effect of a command on everything but the queue of waiting commands. -/
def exec (i : Instr) (s : State) : Host.Outcome State Fault Refusal :=
  match i with
  | .resetAssert => Sys2Proof.Machine.execResetAssert s
  | .resetRelease mode1 mode0 => Sys2Proof.Machine.execResetRelease mode1 mode0 s
  | .holdRelease => Sys2Proof.Machine.execHoldRelease s
  | .inboundByte dt value mark => Sys2Proof.Machine.execInboundByte dt value mark s
  | .unknownKindFrame kind tag body => Sys2Proof.Machine.execUnknownKindFrame kind tag body s
  | .linkOpen tag body => Sys2Proof.Machine.execLinkOpen tag body s
  | .linkClose tag body => Sys2Proof.Machine.execLinkClose tag body s
  | .partReset tag body => Sys2Proof.Machine.execPartReset tag body s
  | .noticeMask tag body => Sys2Proof.Machine.execNoticeMask tag body s
  | .countersRead tag body => Sys2Proof.Machine.execCountersRead tag body s
  | .ruleWrite tag body => Sys2Proof.Machine.execRuleWrite tag body s
  | .ruleErase tag body => Sys2Proof.Machine.execRuleErase tag body s
  | .setWrite tag body => Sys2Proof.Machine.execSetWrite tag body s
  | .defaultWrite tag body => Sys2Proof.Machine.execDefaultWrite tag body s
  | .stageLoad tag body => Sys2Proof.Machine.execStageLoad tag body s
  | .ruleCommit tag body => Sys2Proof.Machine.execRuleCommit tag body s
  | .ruleRead tag body => Sys2Proof.Machine.execRuleRead tag body s
  | .channelConfigEnable tag body => Sys2Proof.Machine.execChannelConfigEnable tag body s
  | .channelConfigDisable tag body => Sys2Proof.Machine.execChannelConfigDisable tag body s
  | .channelCredit tag body => Sys2Proof.Machine.execChannelCredit tag body s
  | .channelFlush tag body => Sys2Proof.Machine.execChannelFlush tag body s
  | .channelQuery tag body => Sys2Proof.Machine.execChannelQuery tag body s
  | .stationAdd tag body => Sys2Proof.Machine.execStationAdd tag body s
  | .stationSet tag body => Sys2Proof.Machine.execStationSet tag body s
  | .stationQuery tag body => Sys2Proof.Machine.execStationQuery tag body s
  | .stationList tag body => Sys2Proof.Machine.execStationList tag body s
  | .stationSuspend tag body => Sys2Proof.Machine.execStationSuspend tag body s
  | .stationResume tag body => Sys2Proof.Machine.execStationResume tag body s
  | .stationRemove tag body => Sys2Proof.Machine.execStationRemove tag body s
  | .trunkConfig tag body => Sys2Proof.Machine.execTrunkConfig tag body s
  | .trunkStart tag body => Sys2Proof.Machine.execTrunkStart tag body s
  | .trunkStop tag body => Sys2Proof.Machine.execTrunkStop tag body s
  | .trunkQuery tag body => Sys2Proof.Machine.execTrunkQuery tag body s
  | .directiveSubmit tag body => Sys2Proof.Machine.execDirectiveSubmit tag body s
  | .directiveCancel tag body => Sys2Proof.Machine.execDirectiveCancel tag body s
  | .directiveQuery tag body => Sys2Proof.Machine.execDirectiveQuery tag body s
  | .messageCompletion dt => Sys2Proof.Machine.execMessageCompletion dt s
  | .closeEnd => Sys2Proof.Machine.execCloseEnd s
  | .closeStopStep => Sys2Proof.Machine.execCloseStopStep s
  | .closeDirectiveStep => Sys2Proof.Machine.execCloseDirectiveStep s
  | .idleComplete trunk => Sys2Proof.Machine.execIdleComplete trunk s
  | .startLimitExpiry trunk => Sys2Proof.Machine.execStartLimitExpiry trunk s
  | .lineLow trunk dt lowFor => Sys2Proof.Machine.execLineLow trunk dt lowFor s
  | .roundStart trunk => Sys2Proof.Machine.execRoundStart trunk s
  | .turnBegin trunk => Sys2Proof.Machine.execTurnBegin trunk s
  | .echoCharacter trunk dt value framingError => Sys2Proof.Machine.execEchoCharacter trunk dt value framingError s
  | .echoDeadlineExpiry trunk => Sys2Proof.Machine.execEchoDeadlineExpiry trunk s
  | .replyStart trunk dt => Sys2Proof.Machine.execReplyStart trunk dt s
  | .replyTimeout trunk => Sys2Proof.Machine.execReplyTimeout trunk s
  | .replyCharacter trunk dt value framingError => Sys2Proof.Machine.execReplyCharacter trunk dt value framingError s
  | .gapExpiry trunk => Sys2Proof.Machine.execGapExpiry trunk s
  | .strayByte trunk dt value framingError => Sys2Proof.Machine.execStrayByte trunk dt value framingError s
  | .settleEnd trunk => Sys2Proof.Machine.execSettleEnd trunk s
  | .sequenceCheck trunk => Sys2Proof.Machine.execSequenceCheck trunk s
  | .admission trunk => Sys2Proof.Machine.execAdmission trunk s
  | .turnClose trunk => Sys2Proof.Machine.execTurnClose trunk s
  | .holdExpiry channel => Sys2Proof.Machine.execHoldExpiry channel s
  | .holdAssert begun => Sys2Proof.Machine.execHoldAssert begun s
  | .hcsHigh => Sys2Proof.Machine.execHcsHigh s

end Sys2Proof.Machine
end

