-- ==== Sys2Proof/Safety.lean ====
section
/-! DEFINITION. The terms in which the claims are made: when a request is taken, what a reply adds, the frame a
request row stands for, and the invariants of the part. -/

namespace Sys2Proof.Machine

/-! ### Requests and replies -/

/-- Out of reset, with no PART_RESET pending, in an OPEN session, a free tag and a free slot of the request
table: a frame with this tag passes every check of R136 but those on its kind and body length. -/
def TakesRequest (s : State) (tag : Byte) : Prop :=
  s.inReset = false ∧ s.link.resetPending = false ∧ s.link.session = .opened ∧ tag ≠ 0#8
    ∧ (∀ r ∈ s.link.requests, r.tag ≠ tag) ∧ s.link.requests.length < 8

/-- A reply to an accepted request. -/
def acceptedReply (kind tag : Byte) (status : Status) (results : List Byte) : Reply :=
  { tag := tag, kind := kind, status := status, results := results, refusal := false }

/-- The request has taken a slot of the table and its reply, queued at once, stands at the tail of the reply
queue (R134, R135). -/
def State.replied (s : State) (kind tag : Byte) (status : Status) (results : List Byte) : State :=
  { s with link := { s.link with
      requests := s.link.requests ++ [{ tag := tag, kind := kind, answered := true }]
      replies := s.link.replies ++ [acceptedReply kind tag status results] } }

/-- The request has taken a slot of the table, and its reply is owed (R134). -/
def State.owing (s : State) (kind tag : Byte) : State :=
  { s with link := { s.link with
      requests := s.link.requests ++ [{ tag := tag, kind := kind, answered := false }] } }

/-- The reply owed to an earlier request is queued (R134). -/
def State.repliedLate (s : State) (kind tag : Byte) (status : Status) (results : List Byte) : State :=
  { s with link := { s.link with
      requests := s.link.requests.map fun r => if r.tag = tag then { r with answered := true } else r
      replies := s.link.replies ++ [acceptedReply kind tag status results] } }

/-- The host frame a command stands for, as kind, tag and body, when it is a good frame at acceptance. -/
def frameOf : Instr → Option (Byte × Byte × List Byte)
  | .unknownKindFrame kind tag body => some (kind, tag, body)
  | .linkOpen tag body => some (0x01#8, tag, body)
  | .linkClose tag body => some (0x02#8, tag, body)
  | .partReset tag body => some (0x03#8, tag, body)
  | .noticeMask tag body => some (0x04#8, tag, body)
  | .countersRead tag body => some (0x05#8, tag, body)
  | .ruleWrite tag body => some (0x10#8, tag, body)
  | .ruleErase tag body => some (0x11#8, tag, body)
  | .setWrite tag body => some (0x12#8, tag, body)
  | .defaultWrite tag body => some (0x13#8, tag, body)
  | .stageLoad tag body => some (0x14#8, tag, body)
  | .ruleCommit tag body => some (0x15#8, tag, body)
  | .ruleRead tag body => some (0x16#8, tag, body)
  | .channelConfigEnable tag body => some (0x18#8, tag, body)
  | .channelConfigDisable tag body => some (0x18#8, tag, body)
  | .channelCredit tag body => some (0x19#8, tag, body)
  | .channelFlush tag body => some (0x1A#8, tag, body)
  | .channelQuery tag body => some (0x1B#8, tag, body)
  | .stationAdd tag body => some (0x20#8, tag, body)
  | .stationSet tag body => some (0x21#8, tag, body)
  | .stationQuery tag body => some (0x22#8, tag, body)
  | .stationList tag body => some (0x23#8, tag, body)
  | .stationSuspend tag body => some (0x24#8, tag, body)
  | .stationResume tag body => some (0x25#8, tag, body)
  | .stationRemove tag body => some (0x26#8, tag, body)
  | .trunkConfig tag body => some (0x28#8, tag, body)
  | .trunkStart tag body => some (0x29#8, tag, body)
  | .trunkStop tag body => some (0x2A#8, tag, body)
  | .trunkQuery tag body => some (0x2B#8, tag, body)
  | .directiveSubmit tag body => some (0x30#8, tag, body)
  | .directiveCancel tag body => some (0x31#8, tag, body)
  | .directiveQuery tag body => some (0x32#8, tag, body)
  | .resetAssert | .resetRelease _ _ | .holdRelease | .inboundByte _ _ _ | .messageCompletion _ | .closeEnd
  | .closeStopStep | .closeDirectiveStep | .idleComplete _ | .startLimitExpiry _ | .lineLow _ _ _
  | .roundStart _ | .turnBegin _ | .echoCharacter _ _ _ _ | .echoDeadlineExpiry _ | .replyStart _ _
  | .replyTimeout _ | .replyCharacter _ _ _ _ | .gapExpiry _ | .strayByte _ _ _ _ | .settleEnd _
  | .sequenceCheck _ | .admission _ | .turnClose _ | .holdExpiry _ | .holdAssert _ | .hcsHigh => none

/-! ### Times -/

/-- Time `a` lies before time `b`, in the half cycle of the time base behind it (R164). -/
abbrev Before (a b : Time) : Prop := a ≠ b ∧ (b - a).toNat < 2147483648

/-- When an expiry armed for `due` is taken: at `due`, or at once when that has passed (log entry 2). -/
abbrev State.expiryAt (s : State) (due : Time) : Time := if (s.timeBase - due).toNat < 2147483648 then s.timeBase else due

/-! ### Messages as the claims name them -/

/-- The closing delimiter of the message `what` has been sent and its owner learns it: a reply frees its entry and, if
it answered a request, the table slot; a notice nothing; a batch its slots and usage, with its counts. `ends` holds of
the state this leaves. The completion of a PART_RESET reply is not among these (R57, R134, R135, R139). -/
def State.SentReport (s : State) (what : Outgoing) (ends : State → Prop) : Prop :=
  let free : State := { s with link := { s.link with tx := none } }
  (∀ r rest, what = .reply r → s.link.replies = r :: rest → (r.kind ≠ 0x03#8 ∨ r.refusal = true) →
    ends { free with link := { free.link with
      replies := rest
      requests := if r.refusal then s.link.requests else s.link.requests.filter fun q => decide (q.tag ≠ r.tag) } })
  ∧ (∀ e, what = .notice e → ends free)
  ∧ ∀ c, what = .batch c →
    let x := s.channels[c]
    let y : Channel := { x with
      inflight := [], usage := x.usage - x.inflight.length
      counters := { x.counters with
        sent := min (x.counters.sent + x.inflight.length) 4294967295
        batches := min (x.counters.batches + 1) 4294967295 } }
    ends { free with
      store := s.store.releaseAll x.inflight
      channels := setAt s.channels c { y with offered := y.ready } }

/-- What an SPI exchange does on its way out: HCS# is low, MISO carries the next byte of the message in transmission,
which then is sent, or the fill byte 0xA5: when there is no message, and when none of it is sent and `mark` says that the
byte's first clock came before it was picked (R129). -/
def State.spiOut (s : State) (mark : Bool) : State :=
  match s.link.tx with
  | none => { s with hcsIsHigh := false, hostOut := .driving 0xA5#8 }
  | some m =>
    if mark = true ∧ m.sent = 0 then { s with hcsIsHigh := false, hostOut := .driving 0xA5#8 }
    else { s with
      hcsIsHigh := false, hostOut := .driving (m.wire.getD m.sent 0xA5#8)
      link := { s.link with tx := some { m with sent := m.sent + 1 } } }

/-- The SPI exchange clocks out the last byte of message `m`, its closing delimiter (R129, R139). -/
abbrev State.ClocksOut (s : State) (mark : Bool) (m : Transmission) : Prop :=
  s.link.tx = some m ∧ ¬ (mark = true ∧ m.sent = 0) ∧ m.wire.length ≤ m.sent + 1

/-! ### Channels as the claims name them -/

/-- The hold flag and the armed hold expiry of channel `x` when they have been evaluated at `now`: for its head, whose
flag had run out before if `ranOut` says so (R49, R52). -/
def Channel.HoldEvaluated (x : Channel) (ranOut : Bool) (now : Time) : Prop :=
  (x.queue = [] → x.holdRunOut = false ∧ x.holdDue = none)
  ∧ ∀ e rest, x.queue = e :: rest →
    let wait := x.config.hold * 1000
    ((ranOut = true ∨ wait ≤ (now - e.time).toNat) → x.holdRunOut = true ∧ x.holdDue = none)
    ∧ (ranOut = false → (now - e.time).toNat < wait →
      x.holdRunOut = false ∧ x.holdDue = some (e.time + BitVec.ofNat 32 wait))

/-- The level after the marks have been evaluated on `length`, from level `was` (R58). -/
def ChannelConfig.levelAt (x : ChannelConfig) (was : Level) (length : Nat) : Level :=
  match was with
  | .normal => if x.high ≤ length then .filling else .normal
  | .filling => if length ≤ x.low then .normal else .filling

/-! ### Trunks as the claims name them -/

/-- A trunk that has counted a stray byte (R108). -/
def Trunk.strayCounted (x : Trunk) : Trunk :=
  { x with counters := { x.counters with strayBytes := min (x.counters.strayBytes + 1) 4294967295 } }

/-- Time has come to `now`, and trunk `k` has counted a stray byte there. -/
def State.strayAt (s : State) (k : TrunkId) (now : Time) : State :=
  { s with timeBase := now, trunks := setAt s.trunks k (s.trunks[k]).strayCounted }

/-- A trunk whose round has ended at `now`: the counter rises, and the next round is armed for the round's start
plus the minimum period (1 ms at least when no turn was taken), or for now when that has passed (R73). -/
def Trunk.roundEnded (x : Trunk) (now : Time) (turned : Bool) : Trunk :=
  let wait := if turned then x.config.period * 1000 else max (x.config.period * 1000) 1000
  { x with
    roundCounter := (x.roundCounter + 1) % 65536, round := none
    nextRound := some (if wait ≤ (now - x.roundStart).toNat then now
      else x.roundStart + BitVec.ofNat 32 wait) }

/-- A trunk whose sequencer rests and whose round is dropped, in state `state` (R96, R97). -/
def Trunk.atRest (x : Trunk) (state : TrunkState) : Trunk :=
  { x with state := state, phase := .idle, turn := none, round := none, nextRound := none
           de := false, txMark := true, stopTag := none }

/-- Trunk `k`, whose TRUNK_START has this tag, becomes RUNNING at `now`: its IDLE stations are PROBING, round 0 has
started, TRUNK_START is answered OK and TRUNK_STATE raised (R70, R89, R94, R98). -/
def State.startedAt (s : State) (k : TrunkId) (tag : Byte) (now : Time) : State :=
  let x := s.trunks[k]
  let woken := s.roster.map fun e => e.map fun st =>
    if st.trunk = k ∧ st.state = .idle then { st with state := .probing } else st
  (({ s with
    timeBase := now, roster := woken
    trunks := setAt s.trunks k { x with
      state := .running, watch := none, roundCounter := 0, roundStart := now, nextRound := none
      round := some { places := ({ s with roster := woken } : State).dueList k 0, turned := false }
      counters := { x.counters with rounds := min (x.counters.rounds + 1) 4294967295 } } } : State).repliedLate
    0x29#8 tag .ok []).raise (.trunkState k .starting .running .request)

/-- Trunk `k`, whose TRUNK_START has this tag, becomes FAULTED at `now` with cause LINE_BUSY (R94, R98). -/
def State.startFailedAt (s : State) (k : TrunkId) (tag : Byte) (now : Time) : State :=
  (({ s with
    timeBase := now
    trunks := setAt s.trunks k { s.trunks[k] with state := .faulted, cause := .lineBusy, watch := none } } :
      State).repliedLate 0x29#8 tag .lineBusy []).raise (.trunkState k .starting .faulted .lineBusy)

/-- The entry of slot `i` is freed: its directives are ABORTED, oldest first, and its notices take no more merges
(R86, R123, R148). -/
def State.stationFreed (s : State) (i : StationId) : State :=
  let reported := (s.directives.entries.filter fun d => decide (d.slot = i)).foldl
    (fun u d => u.raise (.directiveDone d.id i .aborted 0#8 d.attempts)) s
  { s with
    roster := setAt s.roster i none
    directives := { s.directives with entries := s.directives.entries.filter fun d => decide (d.slot ≠ i) }
    notices := reported.notices.closeMerging i }

/-- The removal of the entry `st` of slot `i` completes: the entry is freed, and a deferred STATION_REMOVE is answered
with the records discarded (R87). -/
def State.removalDone (s : State) (i : StationId) (st : Station) : State :=
  match st.removeTag with
  | some tag => (s.stationFreed i).repliedLate 0x26#8 tag .ok [byteOf st.counters.discarded]
  | none => s.stationFreed i

/-- The move of slot `i` when trunk `t` has stopped or faulted: a polled station is IDLE with miss count 0, the removal of
a REMOVING one completes, and a SUSPENDED one stays, as does the other trunk's (R87, R89). -/
def State.groundedAt (t : TrunkId) (u : State) (i : StationId) : State :=
  match u.roster[i] with
  | some st =>
    if st.trunk ≠ t then u
    else if st.state = .removing then u.removalDone i st
    else if st.state = .probing ∨ st.state = .active ∨ st.state = .lagging ∨ st.state = .lost then
      { u with roster := setAt u.roster i (some { st with state := .idle, missCount := 0 }) }
    else u
  | none => u

/-- The stations of trunk `t` move with it, slot by slot, when it has stopped or faulted (R87, R89). -/
def State.grounded (s : State) (t : TrunkId) : State := (List.finRange 64).foldl (State.groundedAt t) s

/-! ### Invariants of the host link -/

/-- At most 8 requests are outstanding, under distinct tags, and at most 4 refusals are queued (R134, R135). -/
def LinkSound (s : State) : Prop :=
  s.link.requests.length ≤ 8 ∧ (s.link.requests.map Request.tag).Nodup
    ∧ (s.link.replies.filter fun r => r.refusal).length ≤ 4

/-- ATTN# is low exactly while something is queued, offered or in transmission, and no message waits beside a
free transmitter (R130, R138). -/
def ArbiterSound (s : State) : Prop :=
  let waits : Prop := s.link.replies ≠ [] ∨ s.notices.entries ≠ [] ∨ ∃ c : ChannelId, (s.channels[c]).offered = true
  (s.attnLow = true ↔ s.inReset = false ∧ (waits ∨ s.link.tx ≠ none))
    ∧ (s.inReset = false → s.link.tx = none → ¬ waits)

/-- At most 31 ordinary notices and one NOTICE_LOST are queued (R151, R152). -/
def NoticesSound (s : State) : Prop :=
  let isLost (e : NoticeEntry) : Bool := match e.notice with
    | .noticeLost _ => true
    | _ => false
  (s.notices.entries.filter fun e => !isLost e).length ≤ 31 ∧ (s.notices.entries.filter isLost).length ≤ 1

/-! ### Invariants of the channels and the store -/

/-- The configured reserves sum to at most 256, and no credit is above 255 (R32, R50). -/
def CreditSound (s : State) : Prop :=
  (s.channels.toList.map fun x => x.config.reserve).sum ≤ 256 ∧ ∀ c : ChannelId, (s.channels[c]).credit ≤ 255

/-- The record waiting for admission on some trunk names no channel twice (R12). -/
def DeliverySound (s : State) : Prop :=
  ∀ (t : TrunkId) (turn : Turn) (stamp : Time) (todo : List ReplyRecord) (x : Screened),
    (s.trunks[t]).turn = some turn → turn.stage = .replied stamp todo (some x) → x.channels.Nodup

/-- Depth and high mark are at least 1, every queue is within its depth, usage is queue length plus in-flight size,
a DISABLED queue is empty, and the arbiter holds exactly the offers of the channels that meet the five conditions of
readiness (R45, R48, R53, R54). -/
def ChannelsSound (s : State) : Prop :=
  ∀ c : ChannelId, (s.channels[c]).queue.length ≤ (s.channels[c]).config.depth
    ∧ 1 ≤ (s.channels[c]).config.depth ∧ 1 ≤ (s.channels[c]).config.high
    ∧ (s.channels[c]).usage = (s.channels[c]).queue.length + (s.channels[c]).inflight.length
    ∧ ((s.channels[c]).enabled = false → (s.channels[c]).queue = [])
    ∧ ((s.channels[c]).offered = true ↔
      (s.channels[c]).enabled = true ∧ 1 ≤ (s.channels[c]).credit ∧ (s.channels[c]).queue ≠ []
        ∧ (s.channels[c]).inflight = []
        ∧ ((s.channels[c]).config.trigger ≤ (s.channels[c]).queue.length ∨ (s.channels[c]).holdRunOut = true))

/-- How many entries of the channel's queue and in-flight batch name the slot. -/
def Channel.names (x : Channel) (i : SlotId) : Nat :=
  (x.queue.map QueueEntry.slot).count i + x.inflight.count i

/-- The reference count of a slot, 0 when it is free (R28). -/
def Store.refCount (st : Store) (i : SlotId) : Nat :=
  match st.slots[i] with
  | some x => x.refs
  | none => 0

/-- Each slot's reference count is the number of entries that name it, an occupied slot has at least one, and F
counts the free slots (R28). -/
def StoreSound (s : State) : Prop :=
  (∀ i : SlotId, s.store.refCount i = (s.channels.toList.map fun x => x.names i).sum)
    ∧ (∀ i : SlotId, (s.store.slots[i]).isSome → 1 ≤ s.store.refCount i)
    ∧ s.store.free = s.store.slots.toList.countP Option.isNone

/-! ### Invariants of the roster, the directives and the trunks -/

/-- No two entries share trunk and address, and each entry's fields are in range (R67, Table 4-1). -/
def RosterSound (s : State) : Prop :=
  (∀ (i j : StationId) (a b : Station), s.roster[i] = some a → s.roster[j] = some b →
      a.trunk = b.trunk → a.address = b.address → i = j)
    ∧ ∀ (i : StationId) (a : Station), s.roster[i] = some a →
      1 ≤ a.address.toNat ∧ a.address.toNat ≤ 239 ∧ a.pollClass ≤ 3

/-- At most 32 directives and 4 of one station, no id twice, no number twice at one station (R111, R112). -/
def DirectivesSound (s : State) : Prop :=
  s.directives.entries.length ≤ 32 ∧ (s.directives.entries.map Directive.id).Nodup
    ∧ ∀ i : StationId, (s.directives.entries.filter fun d => decide (d.slot = i)).length ≤ 4
      ∧ ((s.directives.entries.filter fun d => decide (d.slot = i)).map Directive.number).Nodup

/-- The directive ids run from 1 to 65,535 and the directive numbers from 1 to 63, those assigned and those to be
assigned next (R111, R112, Tables 4-1 and 6-1). -/
def NumberingSound (s : State) : Prop :=
  (1 ≤ s.directives.nextId ∧ s.directives.nextId ≤ 65535)
    ∧ (∀ d ∈ s.directives.entries, 1 ≤ d.id ∧ d.id ≤ 65535 ∧ 1 ≤ d.number ∧ d.number ≤ 63)
    ∧ ∀ (i : StationId) (a : Station), s.roster[i] = some a → 1 ≤ a.nextNumber ∧ a.nextNumber ≤ 63

/-- The phase is SENDING. -/
def Phase.isSending : Phase → Bool
  | .sending _ _ _ => true
  | _ => false

/-- DE is high and TXD off mark exactly while SENDING; a trunk that is not RUNNING or STOPPING rests, with no
turn and no round; a STOPPING one has no round; and the idle watch runs exactly while STARTING (R74, R90, R93,
Table 5-5). -/
def Trunk.Sound (x : Trunk) : Prop :=
  x.de = x.phase.isSending ∧ x.txMark = !x.phase.isSending
    ∧ (x.state ≠ .running → x.state ≠ .stopping → x.phase = .idle ∧ x.turn = none)
    ∧ (x.state ≠ .running → x.round = none ∧ x.nextRound = none)
    ∧ (x.watch.isSome ↔ x.state = .starting)

/-- Both trunks are sound. -/
def TrunksSound (s : State) : Prop := ∀ t : TrunkId, (s.trunks[t]).Sound

/-- In a CLOSED session, and in the batch wait of a close, both trunks are STOPPED, nothing is queued for the
host but replies, and no credit is left; in a CLOSED session no batch is in flight either (R30, R140, R141). -/
def ClosedSound (s : State) : Prop :=
  (s.link.session = .closed ∨ ∃ tag, s.link.session = .closing .batches tag) →
    (∀ t : TrunkId, (s.trunks[t]).state = .stopped) ∧ s.notices.entries = [] ∧ s.directives.entries = []
      ∧ (∀ c : ChannelId, (s.channels[c]).queue = [] ∧ (s.channels[c]).credit = 0)
      ∧ (s.link.session = .closed → ∀ c : ChannelId, (s.channels[c]).inflight = [])

end Sys2Proof.Machine
end

