-- ==== Sys2Proof/Certificates/Slice0/Obligations.lean ====
section
/-! DEFINITION. The statements for the provers. An equation that ends in `.finish false` gives the whole state the
command leaves before the arbiter's pick and the pins that follow it: every field it does not name is as it was. -/

open Sys2Proof Sys2Proof.Machine

/-! ### Steps, idling, the queue -/

/-- A step takes the command in front of the queue and runs it with the rest of the queue; with no command waiting
the time base counts one microsecond, and holds while RESET# is low (R163; that a step on an empty queue is one
microsecond is the model's choice, log entry 2). -/
def Obligations.StepRunsFrontCommand : Prop :=
  (∀ (c : Instr) (s : State) (rest : List Instr),
    step { s with pending := c :: rest } = exec c { s with pending := rest })
  ∧ ∀ s : State, s.pending = [] →
    (s.inReset = true → step s = .next s)
    ∧ (s.inReset = false → step s = .next { s with timeBase := s.timeBase + 1#32 })

/-- No command stops the part, and none touches the queue of waiting commands. That an event whose conditions do not
hold changes nothing, rather than being no event at all, is the model's choice (log entry 13). -/
def Obligations.EveryCommandCompletesAndKeepsQueue : Prop :=
  ∀ (i : Instr) (s : State), ∃ t, exec i s = .next t ∧ t.pending = s.pending

/-- Only the end of a RULE_COMMIT frame, the completion of a PART_RESET reply and RESET# change the active table or its
generation: no other command does, no other inbound byte, in the SPI mode either, and no other completion (R18, R24,
R143). -/
def Obligations.OnlyCommitChangesActiveTable : Prop :=
  ∀ (i : Instr) (s t : State), exec i s = .next t →
    (∀ tag body, i ≠ .ruleCommit tag body) → i ≠ .resetAssert → (∀ a b, i ≠ .resetRelease a b) →
    (∀ dt mark, i = .inboundByte dt 0xA5#8 mark → (mark = false ∨ s.mode = .spi) →
      ∀ tag body, s.link.receiver ≠ .collecting (frameContent 0x15#8 tag body)) →
    (∀ m r, m.what = .reply r → r.kind = 0x03#8 → r.refusal = false →
      (∀ dt value mark, i = .inboundByte dt value mark → s.mode = .spi → ¬ s.ClocksOut mark m)
      ∧ ∀ dt, i = .messageCompletion dt → s.link.tx = some m →
        if s.mode = .spi then m.sent + 1 < m.wire.length else s.holdLow = true ∧ m.sent < m.wire.length) →
    t.active.table = s.active.table ∧ t.active.generation = s.active.generation

/-- No request row moves the time base (R163). -/
def Obligations.RequestsLeaveTimeBase : Prop :=
  ∀ (i : Instr) (s t : State), (frameOf i).isSome → exec i s = .next t → t.timeBase = s.timeBase

/-! ### Acceptance and the frame receiver -/

/-- Acceptance makes its checks in the order of R136, with the request kinds and body lengths of Table 10-5; a refusal is
queued while fewer than four are, and is dropped and counted otherwise (R135, R167). -/
def Obligations.AcceptanceRefusesInOrder : Prop :=
  ∀ (i : Instr) (s : State) (kind tag : Byte) (body : List Byte), WellFormed i = true →
    frameOf i = some (kind, tag, body) → s.inReset = false → s.link.resetPending = false →
    let kinds : List (Byte × List Nat) :=
      [(0x01#8, [1]), (0x02#8, [0]), (0x03#8, [0]), (0x04#8, [1]), (0x05#8, [3]), (0x10#8, [37]), (0x11#8, [1]),
        (0x12#8, [9]), (0x13#8, [2]), (0x14#8, [0]), (0x15#8, [0, 2]), (0x16#8, [3]), (0x18#8, [10]), (0x19#8, [2]),
        (0x1A#8, [1]), (0x1B#8, [1]), (0x20#8, [3]), (0x21#8, [2]), (0x22#8, [1]), (0x23#8, [0]), (0x24#8, [1]),
        (0x25#8, [1]), (0x26#8, [1]), (0x28#8, [8]), (0x29#8, [1]), (0x2A#8, [1]), (0x2B#8, [1]), (0x30#8, [19]),
        (0x31#8, [2]), (0x32#8, [2])]
    let refused (status : Status) : State :=
      if (s.link.replies.filter fun r => r.refusal).length < 4 then
        { s with link := { s.link with
            replies := s.link.replies ++
              [{ tag := tag, kind := kind, status := status, results := [], refusal := true }]
            counters := { s.link.counters with refusals := min (s.link.counters.refusals + 1) 4294967295 } } }
      else
        { s with link := { s.link with
            counters := { s.link.counters with dropped := min (s.link.counters.dropped + 1) 4294967295 } } }
    let answers (status : Status) : Prop := exec i s = .next ((refused status).finish false)
    (tag = 0#8 → answers .badArg)
    ∧ (tag ≠ 0#8 →
      ((∀ e ∈ kinds, e.1 ≠ kind) → answers .unknownKind)
      ∧ ∀ lengths, (kind, lengths) ∈ kinds →
        (body.length ∉ lengths → answers .badLength)
        ∧ (body.length ∈ lengths →
          (s.link.session = .closed → kind ≠ 0x01#8 → kind ≠ 0x03#8 → answers .notOpen)
          ∧ (∀ stage closeTag, s.link.session = .closing stage closeTag → kind ≠ 0x03#8 → answers .wrongState)
          ∧ ((s.link.session = .opened ∨ kind = 0x03#8 ∨ (s.link.session = .closed ∧ kind = 0x01#8)) →
            ((∃ r ∈ s.link.requests, r.tag = tag) → answers .tagInUse)
            ∧ ((∀ r ∈ s.link.requests, r.tag ≠ tag) → 8 ≤ s.link.requests.length → answers .busy))))

/-- The table of R133 for one inbound byte, but for the delimiter that ends a good frame. In the SPI mode a byte has no
framing error and comes with an exchange of R129: a byte of the message in transmission goes out and is counted as sent,
and the closing delimiter completes the message for its owner after the byte is taken. That the byte carries the time
before it, `dt`, is the model's choice (log entry 3); so is what `mark` says in the SPI mode, and that the byte is taken
before the completion (log entry 23). That HCS# is low after an exchange and that MISO keeps its byte is an inference (log
entry 20). -/
def Obligations.ReceiverFollowsItsTable : Prop :=
  ∀ (s : State) (dt : Nat) (b : Byte) (mark : Bool), s.inReset = false →
    let fe : Bool := mark && decide (s.mode ≠ .spi)
    let ends (chained : Bool) (u : State) : Prop := exec (.inboundByte dt b mark) s = .next (u.finish chained)
    let goes (r : Receiver) (f : LinkCounters → LinkCounters) : Prop :=
      let taken (u : State) : State := { u with
        timeBase := s.timeBase + BitVec.ofNat 32 dt
        link := { u.link with receiver := r, counters := f s.link.counters } }
      (s.mode ≠ .spi → ends false (taken s))
      ∧ (s.mode = .spi →
        ((∀ m, ¬ s.ClocksOut mark m) → ends false (taken (s.spiOut mark)))
        ∧ ∀ m, s.ClocksOut mark m → (taken (s.spiOut mark)).SentReport m.what (ends true))
    let bad (c : LinkCounters) : LinkCounters := { c with badFrame := min (c.badFrame + 1) 4294967295 }
    let long (c : LinkCounters) : LinkCounters := { c with tooLong := min (c.tooLong + 1) 4294967295 }
    let crc (c : LinkCounters) : LinkCounters := { c with badCrc := min (c.badCrc + 1) 4294967295 }
    (s.link.receiver = .hunting →
      goes (if fe = false ∧ b = 0xA5#8 then .collecting [] else .hunting) id)
    ∧ (s.link.receiver = .discarding →
      goes (if fe = false ∧ b = 0xA5#8 then .collecting [] else .discarding) id)
    ∧ ∀ content : List Byte,
      (s.link.receiver = .collecting content →
        (fe = true → goes .discarding bad)
        ∧ (fe = false → b = 0xA5#8 → content = [] → goes (.collecting []) id)
        ∧ (fe = false → b = 0xA5#8 → content.length = 1 → goes (.collecting []) bad)
        ∧ (fe = false → b = 0xA5#8 → 2 ≤ content.length →
            crcBytes (crc16 (content.take (content.length - 2))) ≠ content.drop (content.length - 2) →
            goes (.collecting []) crc)
        ∧ (fe = false → b = 0xA5#8 → 2 ≤ content.length →
            crcBytes (crc16 (content.take (content.length - 2))) = content.drop (content.length - 2) →
            (content.length < 6 ∨ (content.getD 2 0#8).toNat + 256 * (content.getD 3 0#8).toNat ≠ content.length - 6) →
            goes (.collecting []) bad)
        ∧ (fe = false → b = 0xA6#8 → goes (.escaped content) id)
        ∧ (fe = false → b ≠ 0xA5#8 → b ≠ 0xA6#8 → content.length < 534 → goes (.collecting (content ++ [b])) id)
        ∧ (fe = false → b ≠ 0xA5#8 → b ≠ 0xA6#8 → 534 ≤ content.length → goes .discarding long))
      ∧ (s.link.receiver = .escaped content →
        (fe = true → goes .discarding bad)
        ∧ (fe = false → b = 0xA5#8 → goes (.collecting []) bad)
        ∧ (fe = false → b = 0x85#8 → content.length < 534 → goes (.collecting (content ++ [0xA5#8])) id)
        ∧ (fe = false → b = 0x86#8 → content.length < 534 → goes (.collecting (content ++ [0xA6#8])) id)
        ∧ (fe = false → (b = 0x85#8 ∨ b = 0x86#8) → 534 ≤ content.length → goes .discarding long)
        ∧ (fe = false → b ≠ 0xA5#8 → b ≠ 0x85#8 → b ≠ 0x86#8 → goes .discarding bad))

/-- The delimiter that ends a good frame runs the request of that frame, exactly as the request's own row does
once the receiver has moved on, and in the SPI mode once the exchange has gone out; an exchange that clocks out a closing
delimiter then completes that message (R129, R133, R134, R136; log entries 1, 3 and 23, and for the pins of
the exchange 20). -/
def Obligations.GoodFrameRunsItsRequest : Prop :=
  ∀ (i : Instr) (s : State) (dt : Nat) (mark : Bool) (kind tag : Byte) (body : List Byte), WellFormed i = true →
    frameOf i = some (kind, tag, body) → s.inReset = false → (mark = false ∨ s.mode = .spi) →
    s.link.receiver = .collecting (frameContent kind tag body) →
    let out : State := if s.mode = .spi then s.spiOut mark else s
    let moved : State := { out with
      timeBase := s.timeBase + BitVec.ofNat 32 dt, link := { out.link with receiver := .collecting [] } }
    ((s.mode = .spi → ∀ m, ¬ s.ClocksOut mark m) → exec (.inboundByte dt 0xA5#8 mark) s = exec i moved)
    ∧ ∀ m t, s.mode = .spi → s.ClocksOut mark m → exec i moved = .next t →
      t.SentReport m.what fun u => exec (.inboundByte dt 0xA5#8 mark) s = .next (u.finish true)

/-- The bytes that R132 sends for a frame: its content with the CRC of R131, stuffed, the closing delimiter, and an
opening one unless the delimiter before serves as it. R133 receives them as that frame: fed to a HUNTING receiver, or the
chained form to one that is COLLECTING with empty content, they end with that content, judged good with the same kind, tag
and body. Numbers go low byte first, the CRC high byte first. -/
def Obligations.SentFramesAreReceivedGood : Prop :=
  (crc16 [] = 0xFFFF#16)
  ∧ (∀ (bytes : List Byte) (b : Byte), crc16 (bytes ++ [b]) =
      (fun c : Crc => if c.msb then (c <<< 1) ^^^ 0x1021#16 else c <<< 1)^[8] (crc16 bytes ^^^ (b.setWidth 16 <<< 8)))
  ∧ (crc16 [0x31#8, 0x32#8, 0x33#8, 0x34#8, 0x35#8, 0x36#8, 0x37#8, 0x38#8, 0x39#8] = 0x29B1#16)
  ∧ (∀ c : Crc, crcBytes c = [BitVec.ofNat 8 (c.toNat / 256), BitVec.ofNat 8 c.toNat])
  ∧ (∀ n : Nat, byteOf n = BitVec.ofNat 8 n ∧ le16 n = [BitVec.ofNat 8 n, BitVec.ofNat 8 (n / 256)]
    ∧ le32 n = [BitVec.ofNat 8 n, BitVec.ofNat 8 (n / 256), BitVec.ofNat 8 (n / 65536), BitVec.ofNat 8 (n / 16777216)])
  ∧ ∀ (kind tag : Byte) (body : List Byte), body.length ≤ 528 →
    let head : List Byte := [kind, tag] ++ le16 body.length ++ body
    let content : List Byte := head ++ crcBytes (crc16 head)
    let stuffed : List Byte := content.flatMap fun b =>
      if b = 0xA5#8 then [0xA6#8, 0x85#8] else if b = 0xA6#8 then [0xA6#8, 0x86#8] else [b]
    let received (bytes : List Byte) (r : Receiver) : Receiver := bytes.foldl (fun r b => (Receiver.take r b false).1) r
    frameContent kind tag body = content
      ∧ frameWire false kind tag body = [0xA5#8] ++ stuffed ++ [0xA5#8]
      ∧ frameWire true kind tag body = stuffed ++ [0xA5#8]
      ∧ received ([0xA5#8] ++ stuffed) .hunting = .collecting content
      ∧ received stuffed (.collecting []) = .collecting content
      ∧ (Receiver.take (.collecting content) 0xA5#8 false) = (.collecting [], .frameEnd content)
      ∧ judgeContent content = .good kind tag body

/-! ### Sessions, resets and pins -/

/-- LINK_OPEN in a CLOSED or OPEN session (R140, Table 10-6). That a revision other than 1 in an OPEN session is answered
BAD_ARG, not WRONG_STATE, is the model's choice (log entry 25). -/
def Obligations.LinkOpenOpensAClosedSession : Prop :=
  ∀ (s : State) (tag rev : Byte), s.inReset = false → s.link.resetPending = false → tag ≠ 0#8 →
    (∀ r ∈ s.link.requests, r.tag ≠ tag) → s.link.requests.length < 8 →
    (s.link.session = .closed ∨ s.link.session = .opened) →
    exec (.linkOpen tag [rev]) s = .next (State.finish (
      if rev ≠ 1#8 then s.replied 0x01#8 tag .badArg []
      else if s.link.session = .opened then s.replied 0x01#8 tag .wrongState []
      else ({ s with link := { s.link with session := .opened },
                     notices := { s.notices with mask := 0x3F#8, lost := 0 } } : State).replied 0x01#8 tag .ok
        ([1#8, s.mode.code, 64#8, 48#8, 4#8, 0#8, 1#8, 8#8, 32#8, 4#8, 8#8, 12#8, 32#8]
          ++ le32 s.timeBase.toNat)) false)

/-- LINK_CLOSE begins a close with its reply owed; the close ends, answering it, once no channel has a batch in
flight, and waits until then (R141; that an end that comes too early does nothing is log entry 13). -/
def Obligations.CloseBeginsAndEnds : Prop :=
  (∀ (s : State) (tag : Byte), TakesRequest s tag →
    exec (.linkClose tag []) s = .next (State.finish
      ((({ s with link := { s.link with session := .closing .answers tag } } : State)).owing 0x02#8 tag) false))
  ∧ ∀ (s : State) (tag : Byte), s.inReset = false → s.link.session = .closing .batches tag →
    ((∀ c : ChannelId, (s.channels[c]).inflight = []) →
      exec .closeEnd s = .next (State.finish
        ((({ s with link := { s.link with session := .closed } } : State)).repliedLate 0x02#8 tag .ok []) false))
    ∧ ((∃ c : ChannelId, (s.channels[c]).inflight ≠ []) → exec .closeEnd s = .next (s.finish false))

/-- The stop step of a close waits for the earlier answers; then, on each trunk in turn, a STOPPED trunk stays, a FAULTED
one becomes STOPPED with its cause kept, and a RUNNING one goes STOPPING with its turn, or with no turn in flight stops
at once, its polled stations IDLE. A trunk that is STARTING or STOPPING, which R110 rules out here, stays as it is, and the
notices of these changes are not kept (R89, R95, R96, R98, R110, R141; that the step does nothing before the answers is
log entry 13). -/
def Obligations.CloseStopStepStopsTrunks : Prop :=
  ∀ (s : State) (tag : Byte), s.inReset = false → s.link.session = .closing .answers tag →
    ((∃ r ∈ s.link.requests, r.answered = false ∧ r.tag ≠ tag) → exec .closeStopStep s = .next (s.finish false))
    ∧ ((∀ r ∈ s.link.requests, r.answered = true ∨ r.tag = tag) → DirectivesSound s →
      let stop (u : State) (k : TrunkId) : State :=
        let x := u.trunks[k]
        let put (y : Trunk) : State := { u with trunks := setAt u.trunks k y }
        match x.state with
        | .stopped | .starting | .stopping => u
        | .faulted => put { x with state := .stopped }
        | .running =>
          if x.turn = none then (put (x.atRest .stopped)).grounded k
          else put { x with state := .stopping, round := none, nextRound := none, stopTag := none }
      let closing : State := { s with link := { s.link with session := .closing .stopping tag } }
      exec .closeStopStep s = .next ((stop (stop closing 0) 1).finish false))

/-- The directive, flush and notice steps of a close: directives, queues, credit and notices are gone; in-flight
batches, settings, counters, the next id and everything else stay (R62, R124, R141, R155). -/
def Obligations.CloseDirectiveStepEmptiesQueues : Prop :=
  ∀ (s : State) (tag : Byte), s.inReset = false → s.link.session = .closing .stopping tag →
    (∀ k : TrunkId, (s.trunks[k]).state = .stopped) → (∀ c : ChannelId, 1 ≤ (s.channels[c]).config.high) →
    exec .closeDirectiveStep s = .next (State.finish { s with
      link := { s.link with session := .closing .batches tag }
      directives := { s.directives with entries := [] }
      notices := { s.notices with entries := [] }
      store := s.store.releaseAll ((List.finRange 8).flatMap fun c => (s.channels[c]).queue.map QueueEntry.slot)
      channels := Vector.ofFn fun c : ChannelId => { s.channels[c] with
        queue := [], usage := (s.channels[c]).usage - (s.channels[c]).queue.length, credit := 0
        level := .normal, holdRunOut := false, holdDue := none, offered := false } } false)

/-- PART_RESET is answered and leaves a reset pending; acceptance then drops every frame, and the completion of
the reply, in the SPI mode the exchange of its closing delimiter, resets the part but for its link mode (R129, R136,
R143; that the levels of HOLD# and, in the UART modes, HCS# are kept is log entry 7; the SPI pin levels are log entry 20,
the order at that exchange is log entry 23). In the UART modes a reply that is not paused completes whatever number of its bytes is counted as sent, and that count tells a paused one: log entry 5; `dt`
is log entry 3. -/
def Obligations.PartResetTakesEffectAtItsReply : Prop :=
  (∀ (s : State) (tag : Byte), s.inReset = false → s.link.resetPending = false → tag ≠ 0#8 →
    (∀ r ∈ s.link.requests, r.tag ≠ tag) → s.link.requests.length < 8 →
    exec (.partReset tag []) s = .next (State.finish
      ((({ s with link := { s.link with resetPending := true } } : State)).replied 0x03#8 tag .ok []) false))
  ∧ (∀ (i : Instr) (s : State), (frameOf i).isSome → s.inReset = false → s.link.resetPending = true →
    exec i s = .next (s.finish false))
  ∧ ∀ (s : State) (dt : Nat) (m : Transmission) (tag : Byte), s.inReset = false → s.link.tx = some m →
    m.what = .reply (acceptedReply 0x03#8 tag .ok []) →
    let reset : State := { State.reset with
      pending := s.pending, holdLow := s.holdLow, mode := s.mode
      hcsIsHigh := if s.mode = .spi then false else s.hcsIsHigh
      hostOut := if s.mode = .spi then .driving 0xA5#8 else .mark }
    ((if s.mode = .spi then m.wire.length ≤ m.sent + 1 else s.holdLow = false ∨ m.wire.length ≤ m.sent) →
      exec (.messageCompletion dt) s = .next reset)
    ∧ ∀ value mark, s.mode = .spi → s.ClocksOut mark m → exec (.inboundByte dt value mark) s = .next reset

/-- RESET# low resets the part at once and holds it; at its release the straps are sampled and every block holds
the reset state of R144's table, with the defaults of Tables 3-1 and 5-3 (rate code 4 is 115,200 bit/s) and every
counter of the four kinds of group 0 (R45, R91, R158). That only the release and pin levels are taken meanwhile is log
entry 14, that the output pin stays in the old mode's form while RESET# is low is log entry 20, and that the levels of
HOLD# and HCS# are kept is log entry 7; the serial number that starts again is the model's own (log entry 8). -/
def Obligations.ResetReleaseLeavesResetState : Prop :=
  (ChannelCounters.zero = { enqueued := 0, sent := 0, batches := 0, keepOldDrops := 0, evictions := 0
                            noSlotDrops := 0, disabledDrops := 0 })
  ∧ (TrunkCounters.zero = { pollsSent := 0, goodReplies := 0, crcFailures := 0, broken := 0, misaddressed := 0
                            timeouts := 0, echoFaults := 0, strayBytes := 0, rounds := 0 })
  ∧ (LinkCounters.zero = { screened := 0, discarded := 0, unrouted := 0, badCrc := 0, tooLong := 0, badFrame := 0
                           dropped := 0, refusals := 0 })
  ∧ (StationCounters.zero = { turns := 0, hits := 0, misses := 0, accepted := 0, duplicates := 0, gapLost := 0
                              deferrals := 0, discarded := 0, restarts := 0, strayAcks := 0 })
  ∧ ∀ s : State, ∃ t, exec .resetAssert s = .next t ∧ t.inReset = true ∧ t.attnLow = false ∧ t.timeBase = 0#32
    ∧ t.hostOut = (if s.mode = .spi then .highZ else .mark)
    ∧ (∀ i : Instr, i ≠ .resetAssert → (∀ a b, i ≠ .resetRelease a b) → (∀ n, i ≠ .holdAssert n) →
        i ≠ .holdRelease → i ≠ .hcsHigh → exec i t = .next t)
    ∧ ∀ mode1 mode0 : Bool, ∃ u, exec (.resetRelease mode1 mode0) t = .next u ∧ u.inReset = false
      ∧ u.mode = (if mode1 then (if mode0 then .uart1000000 else .spi)
                  else if mode0 then .uart460800 else .uart115200)
      ∧ u.link.session = .closed ∧ u.link.requests = [] ∧ u.link.replies = [] ∧ u.link.receiver = .hunting
      ∧ u.link.tx = none ∧ u.link.lastServed = 7 ∧ u.link.nonBatchRun = 0 ∧ u.attnLow = false
      ∧ u.link.resetPending = false ∧ (∀ i : StationId, u.roster[i] = none)
      ∧ (∀ i : RuleId, u.active.table.slots[i] = none ∧ u.staging.slots[i] = none ∧ u.active.hits[i] = 0)
      ∧ u.active.table.defaultAction = .discard ∧ u.staging.defaultAction = .discard
      ∧ (∀ i : Fin 4, u.active.table.bins[i] = 0#64 ∧ u.staging.bins[i] = 0#64) ∧ u.active.generation = 0
      ∧ (∀ i : SlotId, u.store.slots[i] = none) ∧ u.store.free = 256
      ∧ (∀ c : ChannelId, u.channels[c] = {
          config := { depth := 16, reserve := 0, policy := .keepOld, trigger := 1, hold := 0, high := 12, low := 4 }
          enabled := false, credit := 0, queue := [], usage := 0, level := .normal, inflight := []
          holdRunOut := false, holdDue := none, offered := false, counters := .zero })
      ∧ (∀ k : TrunkId, u.trunks[k] = {
          state := .stopped, cause := .none, phase := .idle, turn := none, echoRun := 0, roundCounter := 0
          config := { rate := 4, timeout := 2000, retries := 1, missLimit := 3, period := 100 }
          roundStart := 0, round := none, nextRound := none, watch := none, stopTag := none
          de := false, txMark := true, counters := .zero })
      ∧ u.directives.entries = [] ∧ u.directives.nextId = 1
      ∧ u.notices.entries = [] ∧ u.notices.lost = 0 ∧ u.notices.mask = 0x3F#8
      ∧ u.link.counters = LinkCounters.zero ∧ u.timeBase = 0#32
      ∧ u.pending = s.pending ∧ u.holdLow = s.holdLow ∧ u.hcsIsHigh = s.hcsIsHigh ∧ u.nextSerial = 0
      ∧ (u.mode ≠ .spi → u.hostOut = .mark) ∧ (u.mode = .spi → s.hcsIsHigh = true → u.hostOut = .highZ)

/-- HOLD# pauses and resumes the message in transmission in the UART modes, a paused message does not complete, HCS#
high releases MISO in the SPI mode, whether or not a message is in transmission, and either level is kept whatever the
mode (R128, R129). How the bytes begun are counted is the model's choice (log entry 5), and so is `dt` (3). -/
def Obligations.HoldAndSelectPins : Prop :=
  (∀ (s : State) (begun : Nat) (m : Transmission), s.inReset = false → s.mode ≠ .spi → s.holdLow = false →
    s.link.tx = some m →
    exec (.holdAssert begun) s = .next { s with
      holdLow := true, attnLow := true
      hostOut := if max m.sent (min begun m.wire.length) < m.wire.length then .mark else .sending
      link := { s.link with tx := some { m with sent := max m.sent (min begun m.wire.length) } } })
  ∧ (∀ (s : State) (m : Transmission), s.inReset = false → s.mode ≠ .spi → s.link.tx = some m →
    exec .holdRelease s = .next { s with holdLow := false, attnLow := true, hostOut := .sending })
  ∧ (∀ (s : State) (m : Transmission), s.inReset = false → s.mode = .spi → s.link.tx = some m →
    exec .hcsHigh s = .next { s with hcsIsHigh := true, attnLow := true, hostOut := .highZ })
  ∧ (∀ s : State, s.inReset = false → s.mode = .spi → s.link.tx = none →
    (s.link.replies = [] → s.notices.entries = [] → (∀ c : ChannelId, (s.channels[c]).offered = false) →
      exec .hcsHigh s = .next { s with hcsIsHigh := true, attnLow := false, hostOut := .highZ })
    ∧ exec .hcsHigh s = .next (State.finish { s with hcsIsHigh := true } false)
    ∧ (State.finish { s with hcsIsHigh := true } false).hcsIsHigh = true
    ∧ (State.finish { s with hcsIsHigh := true } false).hostOut = .highZ)
  ∧ (∀ (s : State) (dt : Nat) (m : Transmission), s.inReset = false → s.mode ≠ .spi → s.holdLow = true →
    s.link.tx = some m → m.sent < m.wire.length →
    exec (.messageCompletion dt) s = .next { s with
      timeBase := s.timeBase + BitVec.ofNat 32 dt, attnLow := true, hostOut := .mark })
  ∧ ∀ (s : State) (begun : Nat), ∃ t u v, exec (.holdAssert begun) s = .next t ∧ t.holdLow = true
      ∧ exec .holdRelease s = .next u ∧ u.holdLow = false ∧ exec .hcsHigh s = .next v ∧ v.hcsIsHigh = true

/-! ### The arbiter and the end of a message -/

/-- While a message is in transmission nothing is picked, and the end of a step moves the output pins only: ATTN#, and
HTXD or MISO. HTXD is at mark with no message and while one is paused with bytes left; MISO is high-impedance with HCS#
high and keeps its byte while HCS# is low (R127 to R130; that it keeps it is log entry 20). A free
transmitter picks by R138: the non-batch turn, then the oldest reply, then the offered notice (the oldest URGENT one,
else the oldest), then a batch of the first offered channel counting upward from the one after the last served. The
notice's departure hands a lost-notice count on to the queued NOTICE_LOST, or to a new one. A channel that meets the five
conditions of readiness forms its batch of the n oldest entries, n the least of queue length, credit and 8; the hold flag
and the armed expiry are then those of the new head, the level is the mark evaluation's, with CHANNEL_LEVEL for a change,
and the offer is withdrawn; no other channel and nothing else but the link is touched. The bodies are laid out as Tables
10-12 and 10-13 give (R49, R52 to R56, R58, R132, R152, R153, R170, R171). That the pick is made once, at the end of a
step, is log entry 10; the level of MISO with HCS# low before any clock is log entry 27. -/
def Obligations.ArbiterPicksInOrder : Prop :=
  let pin (u : State) : HostOut :=
    if u.mode = .spi then
      if u.hcsIsHigh then .highZ
      else match u.hostOut with
        | .driving b => .driving b
        | .mark | .sending | .highZ => .driving (match u.link.tx with
          | some m => m.wire.getD m.sent 0xA5#8
          | none => 0xA5#8)
    else match u.link.tx with
      | some m => if u.holdLow = true ∧ m.sent < m.wire.length then .mark else .sending
      | none => .mark
  (∀ (s : State) (chained : Bool) (m : Transmission), s.inReset = false → s.link.tx = some m →
    s.finish chained = { s with attnLow := true, hostOut := pin s })
  ∧ ∀ (s : State) (chained : Bool),
    let ready (x : Channel) : Prop := x.enabled = true ∧ 1 ≤ x.credit ∧ x.queue ≠ [] ∧ x.inflight = []
      ∧ (x.config.trigger ≤ x.queue.length ∨ x.holdRunOut = true)
    let size (x : Channel) : Nat := min x.queue.length (min x.credit 8)
    (∀ c : ChannelId, ready s.channels[c] →
      let x := s.channels[c]
      let t := s.sendBatch chained c
      let y := t.channels[c]
      y.inflight = (x.queue.take (size x)).map QueueEntry.slot ∧ y.queue = x.queue.drop (size x)
        ∧ y.credit = x.credit - size x ∧ y.usage = x.usage ∧ y.config = x.config ∧ y.enabled = x.enabled
        ∧ y.counters = x.counters ∧ y.offered = false ∧ y.HoldEvaluated false s.timeBase
        ∧ y.level = x.config.levelAt x.level y.queue.length
        ∧ t.notices = (if y.level = x.level then s else s.raise (.channelLevel c y.level 1)).notices
        ∧ (∀ d : ChannelId, d ≠ c → t.channels[d] = s.channels[d])
        ∧ t = { s with channels := t.channels, notices := t.notices, link := t.link })
    ∧ (s.inReset = false → s.link.tx = none →
    (∀ c : ChannelId, (s.channels[c]).offered = true ↔ ready s.channels[c]) →
    let pins (t : State) : State := { t with attnLow := true, hostOut := pin t }
    let offers : Prop := ∃ c : ChannelId, (s.channels[c]).offered = true
    let sends (q : NoticeQueue) (run : Nat) (what : Outgoing) (kind tag : Byte) (body : List Byte) : State :=
      { s with notices := q
               link := { s.link with
                 tx := some { what := what, wire := frameWire chained kind tag body, sent := 0 }
                 nonBatchRun := run } }
    let runs (f : Nat → Prop) : Prop := (offers → f (s.link.nonBatchRun + 1)) ∧ (¬ offers → f 0)
    let distance (c : ChannelId) : Nat := (c.1 + 7 - s.link.lastServed.1) % 8
    let batchBytes (c : ChannelId) : List Byte :=
      let records := ((s.channels[c]).queue.take (size s.channels[c])).filterMap fun e =>
        (s.store.slots[e.slot]).map Stored.record
      [byteOf c.1, byteOf records.length] ++ records.flatMap fun r =>
        [byteOf (128 * r.trunk.1 + r.station.1), r.address, r.kind, r.seq] ++ le32 r.stamp.toNat
          ++ [byteOf r.payload.length] ++ r.payload
    let noticeBytes (e : NoticeEntry) : List Byte := match e.notice with
      | .stationState slot trunk address was now changes =>
        [1#8] ++ le32 e.time.toNat ++ [byteOf slot.1, byteOf trunk.1, address, was.code, now.code] ++ le16 changes
      | .sequence slot gaps restarts => [2#8] ++ le32 e.time.toNat ++ [byteOf slot.1] ++ le16 gaps ++ le16 restarts
      | .directiveDone id slot outcome result attempts =>
        [3#8] ++ le32 e.time.toNat ++ le16 id ++ [byteOf slot.1, outcome.code, result, byteOf attempts]
      | .channelLevel c level flips => [4#8] ++ le32 e.time.toNat ++ [byteOf c.1, level.code] ++ le16 flips
      | .channelLoss c l => [5#8] ++ le32 e.time.toNat ++ [byteOf c.1]
        ++ le16 l.disabled ++ le16 l.keepOld ++ le16 l.keepNew ++ le16 l.noSlot
      | .trunkState k was now cause => [6#8] ++ le32 e.time.toNat ++ [byteOf k.1, was.code, now.code, cause.code]
      | .noticeLost count => [7#8] ++ le32 e.time.toNat ++ le16 count
    let batch : Prop := ∀ c : ChannelId, (s.channels[c]).offered = true →
      (∀ d : ChannelId, (s.channels[d]).offered = true → distance c ≤ distance d) →
      s.finish chained = pins (s.sendBatch chained c)
        ∧ (s.sendBatch chained c).link = { s.link with
            tx := some { what := .batch c, sent := 0, wire := frameWire chained 0x81#8 0#8 (batchBytes c) }
            nonBatchRun := 0, lastServed := c }
    let lostEntry (e : NoticeEntry) : Prop := ∃ n, e.notice = .noticeLost n
    let urgent (e : NoticeEntry) : Prop := (∃ k was now cause, e.notice = .trunkState k was now cause) ∨ lostEntry e
    let leaves (rest : List NoticeEntry) (q : NoticeQueue) : Prop :=
      (s.notices.lost = 0 ∧ q = { s.notices with entries := rest })
      ∨ (s.notices.lost ≠ 0 ∧ (∀ x ∈ rest, ¬ lostEntry x) ∧ q = { s.notices with
          lost := 0
          entries := rest ++ [{ time := s.timeBase, mergeOpen := false, notice := .noticeLost s.notices.lost }] })
      ∨ (s.notices.lost ≠ 0 ∧ ∃ front x n back, rest = front ++ x :: back ∧ (∀ y ∈ front, ¬ lostEntry y)
          ∧ x.notice = .noticeLost n ∧ q = { s.notices with
            lost := 0
            entries := front ++ { x with notice := .noticeLost (min (n + s.notices.lost) 65535) } :: back })
    (s.link.nonBatchRun = 4 → offers → batch)
    ∧ ((s.link.nonBatchRun ≠ 4 ∨ ¬ offers) →
      (∀ r rest, s.link.replies = r :: rest → runs fun run =>
        s.finish chained = pins (sends s.notices run (.reply r) 0x80#8 r.tag ([r.kind, r.status.code] ++ r.results)))
      ∧ (s.link.replies = [] →
        (∀ before e after q, s.notices.entries = before ++ e :: after →
          ((urgent e ∧ ∀ x ∈ before, ¬ urgent x) ∨ (before = [] ∧ ∀ x ∈ e :: after, ¬ urgent x)) →
          leaves (before ++ after) q → runs fun run =>
          s.finish chained = pins (sends q run (.notice e) 0x82#8 0#8 (noticeBytes e)))
        ∧ (s.notices.entries = [] → batch
          ∧ (¬ offers → s.finish chained = { s with attnLow := false, hostOut := pin s })))))

/-- The completion of a message at its owner: a reply frees its entry and, if it answered a request, the table
slot; a notice nothing; a batch its slots and usage, with its counts (R57, R134, R135, R139). In the SPI mode the
closing delimiter is being clocked (R129; that HCS# is then low is an inference, log entry 20), and a message of which
the host has more than that to clock out stays in transmission (R129; log entry 23). In the UART modes a message that
is not paused completes whatever number of its bytes is counted as sent, and that count tells a paused one: log entry 5;
`dt` is log entry 3. -/
def Obligations.MessageCompletionReportsToOwner : Prop :=
  ∀ (s : State) (dt : Nat) (m : Transmission), s.inReset = false → s.link.tx = some m →
    let elapsed : State := { s with timeBase := s.timeBase + BitVec.ofNat 32 dt }
    (s.mode ≠ .spi → (s.holdLow = false ∨ m.wire.length ≤ m.sent) →
      elapsed.SentReport m.what fun u => exec (.messageCompletion dt) s = .next (u.finish true))
    ∧ (s.mode = .spi → m.wire.length ≤ m.sent + 1 →
      ({ elapsed with hcsIsHigh := false, hostOut := .driving 0xA5#8 } : State).SentReport m.what fun u =>
        exec (.messageCompletion dt) s = .next (u.finish true))
    ∧ (s.mode = .spi → m.sent + 1 < m.wire.length → exec (.messageCompletion dt) s = .next (elapsed.finish true))

/-! ### Notices -/

/-- A raised notice of an ordinary kind: dropped unless the session is OPEN and its kind enabled, else merged
into its partner in place, else appended below 31 ordinary entries, else lost and counted (R146, R147, R151). What a
merge makes of the partner is spelled out for each kind that merges, and the entries of a removed station take no more
merges (R148 to R150). -/
def Obligations.RaisedNoticeFate : Prop :=
  (∀ (s : State) (n : Notice), (∀ count, n ≠ .noticeLost count) →
    let opens : Bool := decide (s.link.session = .opened) && s.notices.mask.getLsbD (n.code - 1)
    let makes (e : NoticeEntry) (m : Notice) : Prop :=
      match n with
      | .stationState slot k address _ now changes => e.mergeOpen = true ∧ ∃ was was' count,
          e.notice = .stationState slot k address was was' count
            ∧ m = .stationState slot k address was now (min (count + changes) 65535)
      | .sequence slot gaps restarts => e.mergeOpen = true ∧ ∃ g r,
          e.notice = .sequence slot g r ∧ m = .sequence slot (min (g + gaps) 65535) (min (r + restarts) 65535)
      | .channelLevel c level _ => ∃ old flips,
          e.notice = .channelLevel c old flips ∧ m = .channelLevel c level (min (flips + 1) 65535)
      | .channelLoss c l => ∃ o : Loss, e.notice = .channelLoss c o ∧ m = .channelLoss c
          { disabled := min (o.disabled + l.disabled) 65535, keepOld := min (o.keepOld + l.keepOld) 65535
            keepNew := min (o.keepNew + l.keepNew) 65535, noSlot := min (o.noSlot + l.noSlot) 65535 }
      | .trunkState k _ now cause => ∃ was now' cause',
          e.notice = .trunkState k was now' cause' ∧ m = .trunkState k was now cause
      | .directiveDone .. => False
      | .noticeLost _ => False
    (opens = false → s.raise n = s)
    ∧ (opens = true →
      (∀ before e after merged, s.notices.entries = before ++ e :: after →
        (∀ b ∈ before, ∀ m, ¬ makes b m) → makes e merged →
        s.raise n = { s with notices := { s.notices with
          entries := before ++ { e with notice := merged } :: after } })
      ∧ ((∀ e ∈ s.notices.entries, ∀ m, ¬ makes e m) →
        let ordinary := s.notices.entries.filter fun e => match e.notice with
          | .noticeLost _ => false
          | _ => true
        (ordinary.length < 31 →
          s.raise n = { s with notices := { s.notices with
            entries := s.notices.entries ++ [{ time := s.timeBase, mergeOpen := true, notice := n }] } })
        ∧ (31 ≤ ordinary.length →
          s.raise n = { s with notices := { s.notices with lost := min (s.notices.lost + 1) 65535 } }))))
  ∧ ∀ (q : NoticeQueue) (i : StationId),
    let ofStation (e : NoticeEntry) : Prop :=
      (∃ k address was now changes, e.notice = .stationState i k address was now changes)
      ∨ ∃ gaps restarts, e.notice = .sequence i gaps restarts
    (q.closeMerging i).lost = q.lost ∧ (q.closeMerging i).mask = q.mask
      ∧ (q.closeMerging i).entries.length = q.entries.length
      ∧ ∀ (j : Nat) (e : NoticeEntry), q.entries[j]? = some e →
        (ofStation e → (q.closeMerging i).entries[j]? = some { e with mergeOpen := false })
        ∧ (¬ ofStation e → (q.closeMerging i).entries[j]? = some e)

/-- NOTICE_MASK (R154). -/
def Obligations.NoticeMaskReplacesMask : Prop :=
  ∀ (s : State) (tag mask : Byte), TakesRequest s tag →
    exec (.noticeMask tag [mask]) s = .next (State.finish (
      if 64 ≤ mask.toNat then s.replied 0x04#8 tag .badArg []
      else ({ s with notices := { s.notices with mask := mask } } : State).replied 0x04#8 tag .ok
        (mask :: le16 s.notices.lost)) false)

/-! ### Counters -/

/-- COUNTERS_READ: the checks of R159 in their order; else the group's counters as they stand with the time base,
and with the clear flag every counter of that group, and no other, becomes 0. -/
def Obligations.CountersReadReportsAndClears : Prop :=
  ∀ (s : State) (tag group index clear : Byte), TakesRequest s tag →
    let answers (u : State) (status : Status) (results : List Byte) : Prop :=
      exec (.countersRead tag [group, index, clear]) s =
        .next ((u.replied 0x05#8 tag status results).finish false)
    let report (values : List Nat) : List Byte :=
      [group, index, clear, byteOf values.length] ++ values.flatMap le32 ++ le32 s.timeBase.toNat
    ((3 < group.toNat ∨ 1 < clear.toNat) → answers s .badArg [])
    ∧ (clear.toNat ≤ 1 →
      (group = 0#8 → 1 < index.toNat → answers s .badArg [])
      ∧ (∀ k : TrunkId, group = 0#8 → index.toNat = k.1 →
        let x := s.trunks[k]
        answers (if clear = 1#8 then { s with trunks := setAt s.trunks k { x with counters := .zero } } else s) .ok
          (report [x.counters.pollsSent, x.counters.goodReplies, x.counters.crcFailures, x.counters.broken,
            x.counters.misaddressed, x.counters.timeouts, x.counters.echoFaults, x.counters.strayBytes,
            x.counters.rounds]))
      ∧ (group = 1#8 → 63 < index.toNat → answers s .badArg [])
      ∧ (∀ i : StationId, group = 1#8 → index.toNat = i.1 →
        (s.roster[i] = none → answers s .notFound [])
        ∧ ∀ st, s.roster[i] = some st →
          (st.state = .removing → answers s .wrongState [])
          ∧ (st.state ≠ .removing →
            answers (if clear = 1#8 then
                { s with roster := setAt s.roster i (some { st with counters := .zero }) } else s) .ok
              (report [st.counters.turns, st.counters.hits, st.counters.misses, st.counters.accepted,
                st.counters.duplicates, st.counters.gapLost, st.counters.deferrals, st.counters.discarded,
                st.counters.restarts, st.counters.strayAcks])))
      ∧ (group = 2#8 → 7 < index.toNat → answers s .badArg [])
      ∧ (∀ c : ChannelId, group = 2#8 → index.toNat = c.1 →
        let x := s.channels[c]
        answers (if clear = 1#8 then { s with channels := setAt s.channels c { x with counters := .zero } } else s)
          .ok (report [x.counters.enqueued, x.counters.sent, x.counters.batches, x.counters.keepOldDrops,
            x.counters.evictions, x.counters.noSlotDrops, x.counters.disabledDrops]))
      ∧ (group = 3#8 → index ≠ 0#8 → answers s .badArg [])
      ∧ (group = 3#8 → index = 0#8 →
        let c := s.link.counters
        answers (if clear = 1#8 then { s with link := { s.link with counters := .zero } } else s) .ok
          (report [c.screened, c.discarded, c.unrouted, c.badCrc, c.tooLong, c.badFrame, c.dropped, c.refusals])))

/-! ### The screening tables -/

/-- The four editing requests write the named part of the staging table only, or answer BAD_ARG and change nothing
(R20 to R23, R168, Table 10-11). For a rule, which of its 36 bytes are refused is spelled out, and what the rule stored
holds (R20, R169, Table 10-10). -/
def Obligations.StagingEdits : Prop :=
  ∀ (s : State) (tag slot : Byte), TakesRequest s tag →
    let bad (kind : Byte) : State := (s.replied kind tag .badArg []).finish false
    let edited (u : RuleTable) (kind : Byte) (results : List Byte) : State :=
      ((({ s with staging := u } : State)).replied kind tag .ok results).finish false
    (∀ e : List Byte, e.length = 36 →
      let b (n : Nat) : Byte := e.getD n 0#8
      let v (n : Nat) : Nat := (b n).toNat
      let hasWindow : Prop := (b 0).getLsbD 1 = true
      let hasSum : Prop := (b 0).getLsbD 2 = true
      let hasSet : Prop := (b 0).getLsbD 3 = true
      let refused : Prop := 16 ≤ v 0 ∨ 2 < v 1 ∨ v 5 < v 4 ∨ 56 < v 6 ∨ 56 < v 7 ∨ v 7 < v 6
        ∨ (hasWindow ∧ (55 < v 8 ∨ v 9 = 0 ∨ 8 < v 9))
        ∨ (hasSum ∧ (55 < v 26 ∨ v 27 = 0 ∨ 56 < v 27 ∨ 1 < v 30))
        ∨ (hasSet ∧ (3 < v 31 ∨ 55 < v 32 ∨ 1 < v 33))
        ∨ 3 < v 34 ∨ (v 34 ≤ 1 ∧ 7 < v 35)
      ((48 ≤ slot.toNat ∨ refused) → exec (.ruleWrite tag (slot :: e)) s = .next (bad 0x10#8))
      ∧ ∀ i : RuleId, slot.toNat = i.1 → ¬ refused → ∃ r : Rule,
        exec (.ruleWrite tag (slot :: e)) s =
          .next (edited { s.staging with slots := setAt s.staging.slots i (some r) } 0x10#8 [])
        ∧ r.enabled = (b 0).getLsbD 0
        ∧ (∀ k : TrunkId, v 1 = k.1 → r.trunk = .only k) ∧ (v 1 = 2 → r.trunk = .either)
        ∧ r.addrValue = b 2 ∧ r.addrMask = b 3 ∧ r.kindLow = b 4 ∧ r.kindHigh = b 5
        ∧ r.lenMin = v 6 ∧ r.lenMax = v 7
        ∧ (¬ hasWindow → r.window = none) ∧ (hasWindow → r.window = some
            { offset := v 8, width := v 9, value := (e.drop 10).take (v 9), mask := (e.drop 18).take (v 9) })
        ∧ (¬ hasSum → r.sum = none) ∧ (hasSum → r.sum = some
            { offset := v 26, span := v 27, target := v 28 + 256 * v 29, equal := decide (v 30 = 0) })
        ∧ (¬ hasSet → r.set = none) ∧ (∀ n : Fin 4, hasSet → v 31 = n.1 → r.set = some
            { bins := n, offset := v 32, member := decide (v 33 = 0) })
        ∧ (∀ c : ChannelId, v 35 = c.1 → (v 34 = 0 → r.action = .deliver c) ∧ (v 34 = 1 → r.action = .tee c))
        ∧ (v 34 = 2 → r.action = .count) ∧ (v 34 = 3 → r.action = .discard))
    ∧ (48 ≤ slot.toNat → exec (.ruleErase tag [slot]) s = .next (bad 0x11#8))
    ∧ (∀ i : RuleId, slot.toNat = i.1 → exec (.ruleErase tag [slot]) s =
        .next (edited { s.staging with slots := setAt s.staging.slots i none } 0x11#8
          [if s.staging.slots[i] = none then 0#8 else 1#8]))
    ∧ (∀ e : List Byte, e.length = 8 →
      (4 ≤ slot.toNat → exec (.setWrite tag (slot :: e)) s = .next (bad 0x12#8))
      ∧ ∀ (i : Fin 4) (bins : BitVec 64), slot.toNat = i.1 →
        (∀ n, n < 64 → bins.getLsbD n = (e.getD (n / 8) 0#8).getLsbD (n % 8)) →
        exec (.setWrite tag (slot :: e)) s =
          .next (edited { s.staging with bins := setAt s.staging.bins i bins } 0x12#8 []))
    ∧ ∀ channel : Byte,
      (∀ c : ChannelId, slot = 0#8 → channel.toNat = c.1 → exec (.defaultWrite tag [slot, channel]) s =
        .next (edited { s.staging with defaultAction := .deliver c } 0x13#8 []))
      ∧ (slot = 3#8 → channel = 0#8 → exec (.defaultWrite tag [slot, channel]) s =
        .next (edited { s.staging with defaultAction := .discard } 0x13#8 []))
      ∧ ((slot ≠ 0#8 ∧ slot ≠ 3#8) ∨ (slot = 0#8 ∧ 8 ≤ channel.toNat) ∨ (slot = 3#8 ∧ channel ≠ 0#8) →
        exec (.defaultWrite tag [slot, channel]) s = .next (bad 0x13#8))

/-- STAGE_LOAD copies the active table to the staging table; RULE_COMMIT copies it back, clears the hit counts and
advances the generation, unless an expected generation differs from the active one (R23, R24, R166). -/
def Obligations.StageLoadAndCommit : Prop :=
  ∀ (s : State) (tag : Byte), TakesRequest s tag →
    let next := if s.active.generation = 65535 then 1 else s.active.generation + 1
    let committed : State := (({ s with active :=
      { table := s.staging, generation := next, hits := Vector.replicate 48 0 } } : State)).replied 0x15#8 tag .ok
        (le16 next)
    exec (.stageLoad tag []) s = .next (State.finish
      ((({ s with staging := s.active.table } : State)).replied 0x14#8 tag .ok (le16 s.active.generation)) false)
    ∧ exec (.ruleCommit tag []) s = .next (committed.finish false)
    ∧ ∀ low high : Byte,
      (low.toNat + 256 * high.toNat = s.active.generation →
        exec (.ruleCommit tag [low, high]) s = .next (committed.finish false))
      ∧ (low.toNat + 256 * high.toNat ≠ s.active.generation →
        exec (.ruleCommit tag [low, high]) s = .next
          ((s.replied 0x15#8 tag .conflict (le16 s.active.generation)).finish false))

/-- RULE_READ reports a slot or a bin set of either table and changes nothing (R26, R169, Table 10-7). -/
def Obligations.RuleReadReports : Prop :=
  ∀ (s : State) (tag item index : Byte), TakesRequest s tag →
    let action : DefaultAction → List Byte
      | .deliver c => [0#8, byteOf c.1]
      | .discard => [3#8, 0#8]
    let answers (table : Byte) (status : Status) (results : List Byte) : Prop :=
      exec (.ruleRead tag [table, item, index]) s = .next ((s.replied 0x16#8 tag status results).finish false)
    let report (table : Byte) (t : RuleTable) (generation : Nat) (rest : List Byte) : Prop :=
      answers table .ok ([table, item, index] ++ action t.defaultAction ++ le16 generation ++ rest)
    (∀ table : Byte, (1 < table.toNat ∨ 1 < item.toNat ∨ (item = 0#8 ∧ 48 ≤ index.toNat)
        ∨ (item = 1#8 ∧ 4 ≤ index.toNat)) → answers table .badArg [])
    ∧ (∀ i : RuleId, item = 0#8 → index.toNat = i.1 →
      (s.active.table.slots[i] = none →
        report 0#8 s.active.table s.active.generation (List.replicate 41 0#8))
      ∧ (∀ r, s.active.table.slots[i] = some r →
        report 0#8 s.active.table s.active.generation (1#8 :: (encodeRule r ++ le32 s.active.hits[i])))
      ∧ (s.staging.slots[i] = none → report 1#8 s.staging 0 (List.replicate 41 0#8))
      ∧ ∀ r, s.staging.slots[i] = some r → report 1#8 s.staging 0 (1#8 :: (encodeRule r ++ le32 0)))
    ∧ ∀ i : Fin 4, item = 1#8 → index.toNat = i.1 →
      report 0#8 s.active.table s.active.generation (encodeBins s.active.table.bins[i])
      ∧ report 1#8 s.staging 0 (encodeBins s.staging.bins[i])

/-- A rule whose fields are in range, with exactly `width` value and mask bytes in a window term, is encoded byte by
byte as Table 10-10 gives, with 0 for an absent term, for window bytes past the width and for the channel of COUNT and
DISCARD, and is read back from its 36 bytes; 64 bins are laid out in 8 bytes and read back from them (R20, R169, Tables
10-4, 10-10 and 10-11). -/
def Obligations.EncodedRulesAndBinsReadBack : Prop :=
  (∀ r : Rule, r.kindLow.toNat ≤ r.kindHigh.toNat → r.lenMin ≤ r.lenMax → r.lenMax ≤ 56 →
    (∀ w, r.window = some w → w.offset ≤ 55 ∧ 1 ≤ w.width ∧ w.width ≤ 8 ∧ w.value.length = w.width
      ∧ w.mask.length = w.width) →
    (∀ t, r.sum = some t → t.offset ≤ 55 ∧ 1 ≤ t.span ∧ t.span ≤ 56 ∧ t.target ≤ 65535) →
    (∀ t, r.set = some t → t.offset ≤ 55) →
    let bit (present : Bool) (value : Nat) : Nat := if present then value else 0
    let zeros (n : Nat) : List Byte := List.replicate n 0#8
    let trunk : Byte := match r.trunk with
      | .only t => byteOf t.1
      | .either => 2#8
    let window : List Byte := match r.window with
      | some w => [byteOf w.offset, byteOf w.width] ++ w.value ++ zeros (8 - w.width) ++ w.mask ++ zeros (8 - w.width)
      | none => zeros 18
    let sum : List Byte := match r.sum with
      | some t => [byteOf t.offset, byteOf t.span] ++ le16 t.target ++ [if t.equal then 0#8 else 1#8]
      | none => zeros 5
    let set : List Byte := match r.set with
      | some t => [byteOf t.bins.1, byteOf t.offset, if t.member then 0#8 else 1#8]
      | none => zeros 3
    let action : List Byte := match r.action with
      | .deliver c => [0#8, byteOf c.1]
      | .tee c => [1#8, byteOf c.1]
      | .count => [2#8, 0#8]
      | .discard => [3#8, 0#8]
    encodeRule r =
        [byteOf (bit r.enabled 1 + bit r.window.isSome 2 + bit r.sum.isSome 4 + bit r.set.isSome 8), trunk,
          r.addrValue, r.addrMask, r.kindLow, r.kindHigh, byteOf r.lenMin, byteOf r.lenMax]
        ++ window ++ sum ++ set ++ action
      ∧ (encodeRule r).length = 36 ∧ decodeRule (encodeRule r) = some r)
  ∧ ∀ bins : BitVec 64, (encodeBins bins).length = 8 ∧ decodeBins (encodeBins bins) = bins
    ∧ ∀ b j : Nat, b < 8 → j < 8 → ((encodeBins bins).getD b 0#8).getLsbD j = bins.getLsbD (8 * b + j)

/-- The walk: slots before `i` that stop nothing only add to the applied list, a TEE names the tee once, the first
DELIVER or DISCARD applied ends it, and a walk past slot 47 takes the default action (R7 to R11). The delivery set is the
primary and then the tee, one channel when they coincide (R12). A rule applies when it is enabled and each of its terms,
spelled out here, is true (R2 to R6). -/
def Obligations.WalkOfTheActiveTable : Prop :=
  ∀ (t : RuleTable) (x : Record),
    let b (n : Nat) : Byte := x.payload.getD n 0#8
    let matched (r : Rule) : Prop := (r.trunk = .either ∨ r.trunk = .only x.trunk)
      ∧ x.address &&& r.addrMask = r.addrValue &&& r.addrMask
      ∧ r.kindLow.toNat ≤ x.kind.toNat ∧ x.kind.toNat ≤ r.kindHigh.toNat
      ∧ r.lenMin ≤ x.payload.length ∧ x.payload.length ≤ r.lenMax
      ∧ (∀ w, r.window = some w → w.offset + w.width ≤ x.payload.length
        ∧ ∀ n, n < w.width → b (w.offset + n) &&& w.mask.getD n 0#8 = w.value.getD n 0#8 &&& w.mask.getD n 0#8)
      ∧ (∀ u, r.sum = some u → u.offset + u.span ≤ x.payload.length
        ∧ ((((List.range u.span).map fun n => (b (u.offset + n)).toNat).sum % 65536 = u.target) ↔ u.equal = true))
      ∧ (∀ u, r.set = some u → u.offset + 2 ≤ x.payload.length
        ∧ (t.bins[u.bins]).getLsbD (((b u.offset).toNat * 31 + (b (u.offset + 1)).toNat) % 64) = u.member)
    let applies (j : RuleId) : Option Action :=
      match t.slots[j] with
      | some r => if r.enabled && r.appliesTo t.bins x then some r.action else none
      | none => none
    let ends (j : RuleId) : Bool :=
      match applies j with
      | some (.deliver _) => true
      | some .discard => true
      | _ => false
    let tees (js : List RuleId) : List ChannelId := js.filterMap fun j =>
      match applies j with
      | some (.tee c) => some c
      | _ => none
    let before (i : Nat) : List RuleId := (List.finRange 48).filter fun j => decide (j.1 < i)
    let w := t.walk x
    (∀ r : Rule, r.appliesTo t.bins x = true ↔ matched r)
    ∧ (∀ i : RuleId, (∀ j ∈ before i.1, ends j = false) → ends i = true →
      w.applied = (before i.1).filter (fun j => (applies j).isSome) ++ [i]
      ∧ w.tee = (tees (before i.1)).head?
      ∧ (∀ c, applies i = some (.deliver c) → w.primary = some c)
      ∧ (applies i = some .discard → w.primary = none))
    ∧ ((∀ j : RuleId, ends j = false) →
      w.applied = (List.finRange 48).filter (fun j => (applies j).isSome)
      ∧ w.tee = (tees (List.finRange 48)).head?
      ∧ (∀ c, t.defaultAction = .deliver c → w.primary = some c)
      ∧ (t.defaultAction = .discard → w.primary = none))
    ∧ (w.primary = none → w.deliverySet = w.tee.toList)
    ∧ ∀ p, w.primary = some p →
      ((w.tee = none ∨ w.tee = some p) → w.deliverySet = [p])
      ∧ ∀ c, w.tee = some c → c ≠ p → w.deliverySet = [p, c]

/-! ### Channels -/

/-- CHANNEL_CONFIG with an enabled flag other than 0: BAD_ARG, for a flag other than 1 too, BUSY and NO_ROOM in that
order; else the seven settings replace the configuration, the level is NORMAL and the credit stands (R46, R168). -/
def Obligations.ChannelEnable : Prop :=
  ∀ (s : State) (tag c8 flag depth reserve policy trigger holdLow holdHigh high low : Byte),
    TakesRequest s tag → flag ≠ 0#8 →
    let hold := holdLow.toNat + 256 * holdHigh.toNat
    let body := [c8, flag, depth, reserve, policy, trigger, holdLow, holdHigh, high, low]
    let inRange : Prop := c8.toNat ≤ 7 ∧ flag = 1#8 ∧ 1 ≤ depth.toNat ∧ depth.toNat ≤ 64 ∧ reserve.toNat ≤ 64
      ∧ policy.toNat ≤ 2 ∧ 1 ≤ trigger.toNat ∧ trigger.toNat ≤ 8 ∧ hold ≤ 1000 ∧ 1 ≤ high.toNat
      ∧ high.toNat ≤ depth.toNat ∧ low.toNat < high.toNat
    let answers (u : State) (status : Status) (results : List Byte) : Prop :=
      exec (.channelConfigEnable tag body) s = .next ((u.replied 0x18#8 tag status results).finish false)
    (¬ inRange → answers s .badArg [])
    ∧ (inRange → ∀ c : ChannelId, c8.toNat = c.1 →
      let x := s.channels[c]
      let others := (((List.finRange 8).filter fun d => decide (d ≠ c)).map fun d =>
        (s.channels[d]).config.reserve).sum
      (x.enabled = true → x.usage ≠ 0 → answers s .busy [])
      ∧ ((x.enabled = false ∨ x.usage = 0) →
        (256 < others + reserve.toNat → answers s .noRoom [])
        ∧ (others + reserve.toNat ≤ 256 → ∀ p : Policy, p.code = policy →
          let y : Channel := { x with
            enabled := true, level := .normal
            config := { depth := depth.toNat, reserve := reserve.toNat, policy := p, trigger := trigger.toNat
                        hold := hold, high := high.toNat, low := low.toNat } }
          answers { s with channels := setAt s.channels c { y with offered := y.ready } } .ok [0#8])))

/-- CHANNEL_CONFIG that disables, and CHANNEL_FLUSH: every queue entry leaves and releases its slot, a FILLING level
drains with its notice, and the in-flight batch stays; the disable also takes the credit (R43, R47, R60). That the settings
of a disabled channel stay as configured, bytes 2 to 9 of the request being ignored, is the model's choice between R47 and
R168 (log entry 26). -/
def Obligations.ChannelDisableAndFlush : Prop :=
  ∀ (s : State) (tag c8 : Byte), TakesRequest s tag →
    (7 < c8.toNat → (∀ rest : List Byte, rest.length = 8 →
        exec (.channelConfigDisable tag ([c8, 0#8] ++ rest)) s =
          .next ((s.replied 0x18#8 tag .badArg []).finish false))
      ∧ exec (.channelFlush tag [c8]) s = .next ((s.replied 0x1A#8 tag .badArg []).finish false))
    ∧ ∀ c : ChannelId, c8.toNat = c.1 → 1 ≤ (s.channels[c]).config.high →
      let x := s.channels[c]
      let empty : Channel := { x with
        queue := [], usage := x.usage - x.queue.length, level := .normal
        holdRunOut := false, holdDue := none, offered := false }
      let removed (y : Channel) : State :=
        let u : State := { s with
          channels := setAt s.channels c y
          store := s.store.releaseAll (x.queue.map QueueEntry.slot) }
        if x.level = .filling then u.raise (.channelLevel c .normal 1) else u
      (∀ rest : List Byte, rest.length = 8 → exec (.channelConfigDisable tag ([c8, 0#8] ++ rest)) s =
        .next (((removed { empty with enabled := false, credit := 0 }).replied 0x18#8 tag .ok
          [byteOf x.queue.length]).finish false))
      ∧ exec (.channelFlush tag [c8]) s =
        .next (((removed empty).replied 0x1A#8 tag .ok [byteOf x.queue.length]).finish false)

/-- CHANNEL_CREDIT adds to the credit up to 255 and evaluates readiness; a hold expiry makes the hold flag run out
and evaluates readiness, and one that is not armed does nothing (R51, R52, R54; that the expiry
brings the time base to its due time, that an unarmed one does nothing, and that a credit of 0 on a DISABLED channel is
BAD_ARG and not WRONG_STATE, are the model's choices, log entries 2, 13 and 28). -/
def Obligations.CreditAndHoldExpiry : Prop :=
  (∀ (s : State) (tag c8 n : Byte), TakesRequest s tag →
    (7 < c8.toNat → exec (.channelCredit tag [c8, n]) s =
      .next ((s.replied 0x19#8 tag .badArg []).finish false))
    ∧ ∀ c : ChannelId, c8.toNat = c.1 →
      let x := s.channels[c]
      let y : Channel := { x with credit := min 255 (x.credit + n.toNat) }
      exec (.channelCredit tag [c8, n]) s = .next (State.finish (
        if n = 0#8 then s.replied 0x19#8 tag .badArg []
        else if x.enabled = false then s.replied 0x19#8 tag .wrongState []
        else (({ s with channels := setAt s.channels c { y with offered := y.ready } } : State)).replied 0x19#8 tag
          .ok [byteOf (min 255 (x.credit + n.toNat))]) false))
  ∧ ∀ (s : State) (c : ChannelId), s.inReset = false →
    ((s.channels[c]).holdDue = none → exec (.holdExpiry c) s = .next (s.finish false))
    ∧ ∀ due, (s.channels[c]).holdDue = some due →
      let x := s.channels[c]
      exec (.holdExpiry c) s = .next (State.finish ({ s with
        timeBase := s.expiryAt due
        channels := setAt s.channels c { x with
          holdRunOut := true, holdDue := none
          offered := x.enabled && decide (1 ≤ x.credit) && !x.queue.isEmpty && x.inflight.isEmpty } } : State)
        false)

/-- CHANNEL_QUERY, STATION_QUERY, STATION_LIST, TRUNK_QUERY and DIRECTIVE_QUERY report what stands and change
nothing (R61, R66, R69, R99, R122, Tables 10-8 and 10-9). The codes that these and other messages carry are those of
Tables 10-3 and 10-4, which come first. -/
def Obligations.QueriesReportAndChangeNothing : Prop :=
  ([Status.ok, .busy, .badArg, .badLength, .unknownKind, .noRoom, .notFound, .conflict, .wrongState, .notOpen, .tagInUse,
      .tooLate, .lineBusy, .aborted].map Status.code
    = [0x00#8, 0x01#8, 0x02#8, 0x03#8, 0x04#8, 0x05#8, 0x06#8, 0x07#8, 0x08#8, 0x09#8, 0x0A#8, 0x0B#8, 0x0C#8, 0x0D#8])
  ∧ ([StationState.idle, .probing, .active, .lagging, .lost, .suspended, .removing].map StationState.code
    = [0#8, 1#8, 2#8, 3#8, 4#8, 5#8, 6#8])
  ∧ ([TrunkState.stopped, .starting, .running, .stopping, .faulted].map TrunkState.code = [0#8, 1#8, 2#8, 3#8, 4#8])
  ∧ ([Cause.none, .request, .lineBusy, .echo].map Cause.code = [0#8, 1#8, 2#8, 3#8])
  ∧ (∀ bytes started done due chars gap,
      [Phase.idle, .sending bytes started done, .waiting due, .receiving chars gap, .settling due].map Phase.code
        = [0#8, 1#8, 2#8, 3#8, 4#8])
  ∧ ((List.finRange 8).map rateOf = [9600, 19200, 38400, 57600, 115200, 250000, 500000, 1000000])
  ∧ ([LinkMode.uart115200, .uart460800, .spi, .uart1000000].map LinkMode.code = [0#8, 1#8, 2#8, 3#8])
  ∧ ([Policy.keepOld, .keepNew, .defer].map Policy.code = [0#8, 1#8, 2#8])
  ∧ ([Level.normal, .filling].map Level.code = [0#8, 1#8])
  ∧ ([DirectiveOutcome.delivered, .exhausted, .aborted, .cancelled, .withdrawn].map DirectiveOutcome.code
    = [0#8, 1#8, 2#8, 3#8, 4#8])
  ∧ ∀ (s : State) (tag b b' : Byte), TakesRequest s tag →
    let answers (i : Instr) (kind : Byte) (status : Status) (results : List Byte) : Prop :=
      exec i s = .next ((s.replied kind tag status results).finish false)
    (7 < b.toNat → answers (.channelQuery tag [b]) 0x1B#8 .badArg [])
    ∧ (∀ c : ChannelId, b.toNat = c.1 →
      let x := s.channels[c]
      answers (.channelQuery tag [b]) 0x1B#8 .ok
        ([b, if x.enabled then 1#8 else 0#8, byteOf x.config.depth, byteOf x.config.reserve, x.config.policy.code,
          byteOf x.config.trigger] ++ le16 x.config.hold ++ [byteOf x.config.high, byteOf x.config.low,
          byteOf x.credit, byteOf x.queue.length, byteOf x.usage, byteOf x.inflight.length, x.level.code]))
    ∧ (63 < b.toNat → answers (.stationQuery tag [b]) 0x22#8 .badArg [])
    ∧ (∀ i : StationId, b.toNat = i.1 →
      (s.roster[i] = none → answers (.stationQuery tag [b]) 0x22#8 .notFound [])
      ∧ ∀ st, s.roster[i] = some st →
        (st.state = .removing → answers (.stationQuery tag [b]) 0x22#8 .wrongState [])
        ∧ (st.state ≠ .removing → answers (.stationQuery tag [b]) 0x22#8 .ok
          ([b, byteOf st.trunk.1, st.address, st.state.code, byteOf st.pollClass, byteOf st.missCount,
            byteOf ((if st.baseline.isSome then 1 else 0) + (if st.suspendPending then 2 else 0)
              + (if st.lastHit.isSome then 4 else 0)
              + (if s.trunks.toList.any fun x => (x.turn.map Turn.slot) = some i then 8 else 0)),
            st.baseline.getD 0#8, byteOf st.nextNumber] ++ le32 (st.lastHit.getD 0#32).toNat)))
    ∧ answers (.stationList tag []) 0x23#8 .ok
        (byteOf (s.roster.toList.countP Option.isSome) :: (List.finRange 64).flatMap fun i =>
          match s.roster[i] with
          | some st => [byteOf i.1, byteOf st.trunk.1, st.address, st.state.code]
          | none => [])
    ∧ (1 < b.toNat → answers (.trunkQuery tag [b]) 0x2B#8 .badArg [])
    ∧ (∀ k : TrunkId, b.toNat = k.1 →
      let x := s.trunks[k]
      answers (.trunkQuery tag [b]) 0x2B#8 .ok
        ([b, x.state.code, x.cause.code, byteOf x.config.rate.1] ++ le16 x.config.timeout
          ++ [byteOf x.config.retries, byteOf x.config.missLimit] ++ le16 x.config.period ++ le16 x.roundCounter
          ++ [x.phase.code, (x.turn.map fun turn => byteOf turn.slot.1).getD 0xFF#8,
            (x.turn.map fun turn => byteOf turn.attempt).getD 0#8, byteOf x.echoRun]))
    ∧ (b.toNat + 256 * b'.toNat = 0 → answers (.directiveQuery tag [b, b']) 0x32#8 .badArg [])
    ∧ (b.toNat + 256 * b'.toNat ≠ 0 →
      ((∀ d ∈ s.directives.entries, d.id ≠ b.toNat + 256 * b'.toNat) →
        answers (.directiveQuery tag [b, b']) 0x32#8 .notFound [])
      ∧ ∀ before d after, s.directives.entries = before ++ d :: after → d.id = b.toNat + 256 * b'.toNat →
        (∀ e ∈ before, e.id ≠ d.id) → d.payload.length ≤ 16 →
        answers (.directiveQuery tag [b, b']) 0x32#8 .ok
          ([b, b', byteOf d.slot.1, byteOf d.number, byteOf d.limit, byteOf d.attempts,
            (match d.state with | .pending => 0#8 | .attached _ => 1#8 | .awaiting => 2#8),
            (match d.state with | .attached w => if w then 2#8 else 0#8 | .pending => 0xFF#8 | .awaiting => 0xFF#8),
            byteOf ((before.filter fun e => decide (e.slot = d.slot)).length + 1), byteOf d.payload.length]
            ++ d.payload ++ List.replicate (16 - d.payload.length) 0#8))

/-! ### Stations -/

/-- STATION_ADD (R67, Table 4-1). The serial number that tells one occupancy of a slot from another is the model's own
(log entry 8). -/
def Obligations.StationAddFillsLowestSlot : Prop :=
  ∀ (s : State) (tag t8 address pollClass : Byte), TakesRequest s tag →
    let answers (status : Status) : Prop :=
      exec (.stationAdd tag [t8, address, pollClass]) s = .next ((s.replied 0x20#8 tag status []).finish false)
    ((1 < t8.toNat ∨ address = 0#8 ∨ 239 < address.toNat ∨ 3 < pollClass.toNat) → answers .badArg)
    ∧ ∀ k : TrunkId, t8.toNat = k.1 → address ≠ 0#8 → address.toNat ≤ 239 → pollClass.toNat ≤ 3 →
      ((∃ (i : StationId) (st : Station), s.roster[i] = some st ∧ st.trunk = k ∧ st.address = address) →
        answers .conflict)
      ∧ ((∀ (i : StationId) (st : Station), s.roster[i] = some st → st.trunk = k → st.address ≠ address) →
        ((∀ i : StationId, s.roster[i] ≠ none) → answers .noRoom)
        ∧ ∀ i : StationId, s.roster[i] = none → (∀ j : StationId, j < i → s.roster[j] ≠ none) →
          exec (.stationAdd tag [t8, address, pollClass]) s = .next (State.finish (State.replied ({ s with
            nextSerial := s.nextSerial + 1
            roster := setAt s.roster i (some
              { trunk := k, address := address
                state := if (s.trunks[k]).state = .running then .probing else .idle
                pollClass := pollClass.toNat, missCount := 0, baseline := none, suspendPending := false
                nextNumber := 1, lastHit := none, counters := .zero, serial := s.nextSerial
                removeTag := none }) } : State) 0x20#8 tag .ok [byteOf i.1]) false))

/-- STATION_SET, STATION_SUSPEND and STATION_RESUME after the checks of R66 (R68, R84, R85). -/
def Obligations.StationSetSuspendResume : Prop :=
  ∀ (s : State) (tag b pollClass : Byte), TakesRequest s tag →
    let answers (u : State) (i : Instr) (kind : Byte) (status : Status) : Prop :=
      exec i s = .next ((u.replied kind tag status []).finish false)
    let all (status : Status) : Prop :=
      answers s (.stationSet tag [b, pollClass]) 0x21#8 status
      ∧ answers s (.stationSuspend tag [b]) 0x24#8 status ∧ answers s (.stationResume tag [b]) 0x25#8 status
    (63 < b.toNat → all .badArg)
    ∧ ∀ i : StationId, b.toNat = i.1 →
      (s.roster[i] = none → all .notFound)
      ∧ ∀ st, s.roster[i] = some st →
        (st.state = .removing → all .wrongState)
        ∧ (st.state ≠ .removing →
          let put (e : Station) : State := { s with roster := setAt s.roster i (some e) }
          (3 < pollClass.toNat → answers s (.stationSet tag [b, pollClass]) 0x21#8 .badArg)
          ∧ (pollClass.toNat ≤ 3 →
            answers (put { st with pollClass := pollClass.toNat }) (.stationSet tag [b, pollClass]) 0x21#8 .ok)
          ∧ ((∀ (k : TrunkId) (turn : Turn), (s.trunks[k]).turn = some turn → turn.slot ≠ i) →
            answers (put { st with state := .suspended }) (.stationSuspend tag [b]) 0x24#8 .ok)
          ∧ ((∃ (k : TrunkId) (turn : Turn), (s.trunks[k]).turn = some turn ∧ turn.slot = i) →
            answers (put { st with suspendPending := true }) (.stationSuspend tag [b]) 0x24#8 .ok)
          ∧ (st.state = .suspended → answers (put { st with
              state := if (s.trunks[st.trunk]).state = .running then .probing else .idle
              missCount := 0 }) (.stationResume tag [b]) 0x25#8 .ok)
          ∧ (st.state ≠ .suspended → answers s (.stationResume tag [b]) 0x25#8 .wrongState))

/-- STATION_REMOVE: at once, its directives aborted oldest first, when no turn of the station is in flight; else
REMOVING with the reply owed and the unwalked records discarded and counted (R86, R87, R123, R148). That the record
awaiting admission is among them is an inference (log entry 12). -/
def Obligations.StationRemoveAtOnceOrDeferred : Prop :=
  ∀ (s : State) (tag b : Byte), TakesRequest s tag → DirectivesSound s →
    let answers (status : Status) : Prop :=
      exec (.stationRemove tag [b]) s = .next ((s.replied 0x26#8 tag status []).finish false)
    (63 < b.toNat → answers .badArg)
    ∧ ∀ i : StationId, b.toNat = i.1 →
      (s.roster[i] = none → answers .notFound)
      ∧ ∀ st, s.roster[i] = some st →
        (st.state = .removing → answers .wrongState)
        ∧ (st.state ≠ .removing →
          ((∀ (k : TrunkId) (turn : Turn), (s.trunks[k]).turn = some turn → turn.slot ≠ i) →
            exec (.stationRemove tag [b]) s =
              .next (((s.stationFreed i).replied 0x26#8 tag .ok [0#8]).finish false))
          ∧ ∀ (k : TrunkId) (turn : Turn), (s.trunks[k]).turn = some turn → turn.slot = i →
            (∀ (j : TrunkId) (other : Turn), j ≠ k → (s.trunks[j]).turn = some other → other.slot ≠ i) →
            let unwalked : Nat := match turn.stage with
              | .replied _ todo screened => todo.length + screened.toList.length
              | _ => 0
            let stage : TurnStage := match turn.stage with
              | .replied stamp _ _ => .replied stamp [] none
              | other => other
            exec (.stationRemove tag [b]) s = .next (State.finish (State.owing ({ s with
              roster := setAt s.roster i (some { st with
                state := .removing, removeTag := some tag
                counters := { st.counters with
                  discarded := min (st.counters.discarded + unwalked) 4294967295 } })
              trunks := setAt s.trunks k { s.trunks[k] with turn := some { turn with stage := stage } } } : State)
              0x26#8 tag) false))

/-! ### Trunks: requests, starting and stopping -/

/-- TRUNK_CONFIG and TRUNK_START in every state of the trunk (R92, R93, Table 5-4); a TRUNK_START that is taken returns
the round counter to 0 (R74, R158). -/
def Obligations.TrunkConfigAndStart : Prop :=
  ∀ (s : State) (tag t8 rate low high retries missLimit periodLow periodHigh : Byte), TakesRequest s tag →
    let timeout := low.toNat + 256 * high.toNat
    let period := periodLow.toNat + 256 * periodHigh.toNat
    let config : Instr := .trunkConfig tag [t8, rate, low, high, retries, missLimit, periodLow, periodHigh]
    let inRange : Prop := t8.toNat ≤ 1 ∧ rate.toNat ≤ 7 ∧ 100 ≤ timeout ∧ retries.toNat ≤ 3
      ∧ 1 ≤ missLimit.toNat ∧ missLimit.toNat ≤ 15 ∧ period ≤ 1000
    let answers (u : State) (i : Instr) (kind : Byte) (status : Status) : Prop :=
      exec i s = .next ((u.replied kind tag status []).finish false)
    (¬ inRange → answers s config 0x28#8 .badArg)
    ∧ (1 < t8.toNat → answers s (.trunkStart tag [t8]) 0x29#8 .badArg)
    ∧ ∀ k : TrunkId, t8.toNat = k.1 →
      let x := s.trunks[k]
      let active : Prop := x.state = .starting ∨ x.state = .running ∨ x.state = .stopping
      (active → (inRange → answers s config 0x28#8 .wrongState)
        ∧ answers s (.trunkStart tag [t8]) 0x29#8 .wrongState)
      ∧ (¬ active →
        (inRange → ∀ r : Fin 8, rate.toNat = r.1 → answers { s with trunks := setAt s.trunks k { x with
            config := { rate := r, timeout := timeout, retries := retries.toNat, missLimit := missLimit.toNat
                        period := period } } } config 0x28#8 .ok)
        ∧ exec (.trunkStart tag [t8]) s = .next (State.finish (State.owing ({ s with
            trunks := setAt s.trunks k { x with
              state := .starting, cause := .none, echoRun := 0, roundCounter := 0
              watch := some { idleFrom := some s.timeBase, limit := s.timeBase + 100000#32, tag := tag } } } : State)
            0x29#8 tag) false))

/-- TRUNK_STOP in every state of the trunk (R87, R89, R95, R96, R98, Table 5-4). -/
def Obligations.TrunkStopInEveryState : Prop :=
  ∀ (s : State) (tag t8 : Byte), TakesRequest s tag → DirectivesSound s →
    (1 < t8.toNat → exec (.trunkStop tag [t8]) s = .next ((s.replied 0x2A#8 tag .badArg []).finish false))
    ∧ ∀ k : TrunkId, t8.toNat = k.1 →
      let x := s.trunks[k]
      let put (y : Trunk) : State := { s with trunks := setAt s.trunks k y }
      let ends (u : State) : Prop := exec (.trunkStop tag [t8]) s = .next (u.finish false)
      (x.state = .stopped → ends (s.replied 0x2A#8 tag .ok [0#8]))
      ∧ (∀ w, x.state = .starting → x.watch = some w →
        ends ((((put { x with state := .stopped, watch := none }).repliedLate 0x29#8 w.tag .aborted []).replied
          0x2A#8 tag .ok [0#8]).raise (.trunkState k .starting .stopped .request)))
      ∧ (x.state = .running → x.turn = none →
        ends ((((put (x.atRest .stopped)).grounded k).replied 0x2A#8 tag .ok [0#8]).raise
          (.trunkState k .stopping .stopped .request)))
      ∧ (∀ turn, x.state = .running → x.turn = some turn →
        ends ((put { x with state := .stopping, round := none, nextRound := none
                            stopTag := some tag }).owing 0x2A#8 tag))
      ∧ (x.state = .stopping → ends (s.replied 0x2A#8 tag .wrongState []))
      ∧ (x.state = .faulted →
        ends (((put { x with state := .stopped }).replied 0x2A#8 tag .ok [0#8]).raise
          (.trunkState k .faulted .stopped .request)))

/-- The idle watch of a STARTING trunk ends at the first of two events. Idle complete: the trunk is RUNNING, its IDLE
stations PROBING, round 0 started, TRUNK_START answered OK and TRUNK_STATE raised. Start limit: FAULTED with cause
LINE_BUSY. On any other trunk there is no idle watch (R70, R89, R94, R98). The time base at the end is log entry 2; that
the command of the later end, or of an end that cannot come, does nothing is log entries 13 and 24. An interval
of byte times is rounded up to whole microseconds (R90, Table 5-1). -/
def Obligations.IdleWatchEnds : Prop :=
  (∀ (rate : Fin 8) (n : Nat), n * 10000000 ≤ byteTimes rate n * rateOf rate
    ∧ byteTimes rate n * rateOf rate < n * 10000000 + rateOf rate)
  ∧ ∀ (s : State) (k : TrunkId), s.inReset = false →
    let x := s.trunks[k]
    let idle (u : State) : Prop := exec (.idleComplete k) s = .next (u.finish false)
    let limit (u : State) : Prop := exec (.startLimitExpiry k) s = .next (u.finish false)
    (x.state ≠ .starting → idle s ∧ limit s)
    ∧ ∀ w, x.state = .starting → x.watch = some w →
      (w.idleFrom = none → idle s ∧ limit (s.startFailedAt k w.tag (s.expiryAt w.limit)))
      ∧ ∀ f, w.idleFrom = some f →
        let due := f + BitVec.ofNat 32 (byteTimes x.config.rate 32)
        (¬ Before w.limit due → idle (s.startedAt k w.tag (s.expiryAt due)))
        ∧ (Before w.limit due → idle s)
        ∧ (¬ Before due w.limit → limit (s.startFailedAt k w.tag (s.expiryAt w.limit)))
        ∧ (Before due w.limit → limit s)

/-- A low level on RXD restarts the idle run of a STARTING trunk when it returns high; a stray byte is counted where
the trunk listens outside SENDING, WAITING and RECEIVING, and while STARTING the idle run then counts from the last rise
of RXD: there is none after a framing error until RXD rises. An end of the idle watch that falls before is taken first
(R90, R94, R108). The model's choices: the operand `lowFor` (log entry 6), `dt` (3), the run after a character (18), what
does nothing but pass the time (13), and the overdue end (24). -/
def Obligations.LineLowAndStrayByte : Prop :=
  ∀ (s : State) (k : TrunkId) (dt lowFor : Nat) (value : Byte) (fe : Bool), s.inReset = false →
    let x := s.trunks[k]
    let now := s.timeBase + BitVec.ofNat 32 dt
    let lows (u : State) : Prop := exec (.lineLow k dt lowFor) s = .next (u.finish false)
    let hears (u : State) : Prop := exec (.strayByte k dt value fe) s = .next (u.finish false)
    let later (u : State) : State := { u with timeBase := now }
    let quiet : Prop := (x.state = .running ∨ x.state = .stopping) ∧ (x.phase = .idle ∨ ∃ due, x.phase = .settling due)
    (x.state ≠ .starting → lows (later s) ∧ (¬ quiet → hears (later s)))
    ∧ (quiet → x.watch = none → hears (s.strayAt k now))
    ∧ ∀ w, x.state = .starting → x.phase = .idle → x.watch = some w →
      let due (f : Time) : Time := f + BitVec.ofNat 32 (byteTimes x.config.rate 32)
      let endsBefore (low : Time) : Prop := ∃ f, w.idleFrom = some f ∧ Before (due f) low ∧ ¬ Before w.limit (due f)
      let low : Time := now - BitVec.ofNat 32 (byteTimes x.config.rate 1)
      let watching (y : Trunk) (f : Option Time) : State :=
        { s with timeBase := now, trunks := setAt s.trunks k { y with watch := some { w with idleFrom := f } } }
      (∀ f, w.idleFrom = some f → ¬ Before w.limit (due f) →
        (Before (due f) now → lows (later (s.startedAt k w.tag (s.expiryAt (due f)))))
        ∧ (Before (due f) low → hears ((s.startedAt k w.tag (s.expiryAt (due f))).strayAt k now)))
      ∧ (Before w.limit now →
        (¬ endsBefore now → lows (later (s.startFailedAt k w.tag (s.expiryAt w.limit))))
        ∧ (¬ endsBefore low → hears (later (s.startFailedAt k w.tag (s.expiryAt w.limit)))))
      ∧ (¬ Before w.limit now →
        (¬ endsBefore now → lows (watching x (some (now + BitVec.ofNat 32 lowFor))))
        ∧ (¬ endsBefore low →
          (fe = true → (∀ f, w.idleFrom = some f → Before now f → hears (watching x.strayCounted (some f)))
            ∧ ((∀ f, w.idleFrom = some f → ¬ Before now f) → hears (watching x.strayCounted none)))
          ∧ (fe = false → ∀ bits : Nat, 1 ≤ bits → bits ≤ 9 →
            (∀ j, 9 - bits ≤ j → j < 8 → value.getLsbD j = true) → (bits = 9 ∨ value.getLsbD (8 - bits) = false) →
            let rise := now - BitVec.ofNat 32 (bits * 1000000 / rateOf x.config.rate)
            (∀ f, w.idleFrom = some f → Before rise f → hears (watching x.strayCounted (some f)))
            ∧ ((∀ f, w.idleFrom = some f → ¬ Before rise f) → hears (watching x.strayCounted (some rise))))))

/-! ### Rounds and turns -/

/-- A round starts at its pacing time, with a due list of exactly the stations due under Table 4-2, in ascending
slot order, each with its occupancy (R70). The time base at the start, and a round start with no pacing time armed, are
log entries 2 and 13. -/
def Obligations.RoundStartFixesDueList : Prop :=
  ∀ (s : State) (k : TrunkId), s.inReset = false →
    (∀ due, (s.trunks[k]).state = .running → (s.trunks[k]).round = none → (s.trunks[k]).nextRound = some due →
      let x := s.trunks[k]
      let now := s.expiryAt due
      exec (.roundStart k) s = .next (State.finish ({ s with
        timeBase := now
        trunks := setAt s.trunks k { x with
          roundStart := now, nextRound := none
          round := some { places := s.dueList k x.roundCounter, turned := false }
          counters := { x.counters with rounds := min (x.counters.rounds + 1) 4294967295 } } } : State) false))
    ∧ (((s.trunks[k]).state ≠ .running ∨ (s.trunks[k]).round ≠ none ∨ (s.trunks[k]).nextRound = none) →
      exec (.roundStart k) s = .next (s.finish false))
    ∧ ∀ r : Nat,
      ((s.dueList k r).map fun p => p.slot.1).Pairwise (· < ·)
      ∧ ∀ p : Place, p ∈ s.dueList k r ↔
        ∃ st, s.roster[p.slot] = some st ∧ st.serial = p.serial ∧ st.trunk = k
          ∧ (st.state = .probing ∨ st.state = .lagging
            ∨ (st.state = .active ∧ r % 2 ^ st.pollClass = p.slot.1 % 2 ^ st.pollClass)
            ∨ (st.state = .lost ∧ r % 16 = p.slot.1 % 16))

/-- TURN_BEGIN on an IDLE trunk with no turn in flight: the next place begins its station's turn, its oldest
directive attached and its POLL laid out as Table 10-14 gives; or the place is skipped; and the round ends when no
place is left (R71, R72, R73, R100, R101, R114, R172). That an empty round ends at a TURN_BEGIN is log entry 17. -/
def Obligations.TurnBeginTakesNextPlace : Prop :=
  ∀ (s : State) (k : TrunkId) (r : Round), s.inReset = false → DirectivesSound s →
    (s.trunks[k]).state = .running → (s.trunks[k]).phase = .idle → (s.trunks[k]).turn = none →
    (s.trunks[k]).round = some r →
    let x := s.trunks[k]
    let put (y : Trunk) : State := { s with trunks := setAt s.trunks k y }
    (r.places = [] → exec (.turnBegin k) s = .next ((put (x.roundEnded s.timeBase r.turned)).finish false))
    ∧ ∀ p rest, r.places = p :: rest →
      let polled (st : Station) : Prop := st.serial = p.serial
        ∧ (st.state = .probing ∨ st.state = .active ∨ st.state = .lagging ∨ st.state = .lost)
      ((∀ st, s.roster[p.slot] = some st → ¬ polled st) →
        exec (.turnBegin k) s = .next (State.finish (put (
          if rest = [] then ({ x with round := some { r with places := rest } } : Trunk).roundEnded s.timeBase r.turned
          else { x with round := some { r with places := rest } })) false))
      ∧ ∀ st, s.roster[p.slot] = some st → polled st →
        let begun (head : List Byte) (d : Option Nat) : Trunk := { x with
          round := some { places := rest, turned := true }
          turn := some { slot := p.slot, attempt := 1, directive := d, mark := false
                         startState := st.state, stage := .polling }
          phase := .sending ([0x3C#8] ++ head ++ crcBytes (crc16 head)) s.timeBase 0
          de := true, txMark := false }
        let ack : Byte := st.baseline.getD 0#8
        let valid : Nat := if st.baseline.isSome then 1 else 0
        ((∀ d ∈ s.directives.entries, d.slot ≠ p.slot) →
          exec (.turnBegin k) s = .next ((put (begun
            [st.address, 4#8, byteOf valid, ack, 0#8, 0#8] none)).finish false))
        ∧ ∀ before d after, s.directives.entries = before ++ d :: after → d.slot = p.slot →
          (∀ e ∈ before, e.slot ≠ p.slot) →
          exec (.turnBegin k) s = .next (State.finish ({ put (begun
            ([st.address, byteOf (4 + d.payload.length), byteOf (valid + 2), ack, byteOf d.number,
              byteOf d.payload.length] ++ d.payload) (some d.id)) with
            directives := { s.directives with
              entries := before ++ { d with state := .attached (decide (d.state = .awaiting)) } :: after } } : State)
            false)

/-- A good echo while SENDING: the next echo is awaited, or, after the last byte, the POLL is sent cleanly and the
reply window opens (R101, R102, R103). When a byte's stop bit has been sent is read from the time base (log entry 9);
`dt` is log entry 3. -/
def Obligations.GoodEchoSendsPoll : Prop :=
  ∀ (s : State) (k : TrunkId) (dt : Nat) (value : Byte) (poll : List Byte) (start : Time) (echoed : Nat)
    (turn : Turn), s.inReset = false → (s.trunks[k]).phase = .sending poll start echoed →
    (s.trunks[k]).turn = some turn →
    let x := s.trunks[k]
    let now := s.timeBase + BitVec.ofNat 32 dt
    let sent := (echoed + 1) * 10000000 / rateOf x.config.rate
    echoed < poll.length → poll.getD echoed 0#8 = value →
    sent ≤ (now - start).toNat → ¬ Before (start + BitVec.ofNat 32 (sent + byteTimes x.config.rate 1)) now →
    let put (y : Trunk) : State := { s with timeBase := now, trunks := setAt s.trunks k y }
    (echoed + 1 ≠ poll.length → exec (.echoCharacter k dt value false) s =
      .next ((put { x with phase := .sending poll start (echoed + 1) }).finish false))
    ∧ (echoed + 1 = poll.length → exec (.echoCharacter k dt value false) s = .next (State.finish (put { x with
        phase := .waiting (now + BitVec.ofNat 32 x.config.timeout), de := false, txMark := true, echoRun := 0
        turn := some { turn with mark := turn.mark || turn.directive.isSome }
        counters := { x.counters with pollsSent := min (x.counters.pollsSent + 1) 4294967295 } }) false))

/-- An echo fault below the third in a row (a wrong, broken or unexpected character, or none in time) cuts the POLL
off, counts, and settles for a repeat of the same attempt; a character that comes after the deadline is heard in SETTLING
as a stray byte (R102, R107, R108). When a stop bit has been sent, the time of the expiry and the overdue expiry are log
entries 9, 2 and 24; `dt` is log entry 3. -/
def Obligations.EchoFaultRepeatsAttempt : Prop :=
  ∀ (s : State) (k : TrunkId) (poll : List Byte) (start : Time) (echoed : Nat), s.inReset = false →
    (s.trunks[k]).phase = .sending poll start echoed → (s.trunks[k]).echoRun + 1 < 3 →
    let x := s.trunks[k]
    let sent := (echoed + 1) * 10000000 / rateOf x.config.rate
    let due := start + BitVec.ofNat 32 (sent + byteTimes x.config.rate 1)
    let fault (now : Time) : State := { s with
      timeBase := now
      trunks := setAt s.trunks k { x with
        phase := .settling (now + BitVec.ofNat 32 (byteTimes x.config.rate 3)), de := false, txMark := true
        echoRun := x.echoRun + 1
        counters := { x.counters with echoFaults := min (x.counters.echoFaults + 1) 4294967295 } } }
    (∀ (dt : Nat) (value : Byte) (fe : Bool),
      let now := s.timeBase + BitVec.ofNat 32 dt
      (∀ turn, x.turn = some turn → ¬ Before due now →
        (poll.length ≤ echoed ∨ fe = true ∨ poll.getD echoed 0#8 ≠ value ∨ (now - start).toNat < sent) →
        exec (.echoCharacter k dt value fe) s = .next ((fault now).finish false))
      ∧ (Before due now → (x.state = .running ∨ x.state = .stopping) → x.watch = none →
        exec (.echoCharacter k dt value fe) s = .next (((fault (s.expiryAt due)).strayAt k now).finish false)))
    ∧ exec (.echoDeadlineExpiry k) s = .next ((fault (s.expiryAt due)).finish false)

/-- The third echo fault in a row, whatever its cause (a wrong, broken, early or late character, or none in time), makes
the trunk FAULTED with cause ECHO: its sequencer rests, its directive is settled as abandoned, the removal of a REMOVING
station completes (its directives ABORTED, its deferred STATION_REMOVE answered with the records discarded), a pending
suspension takes effect with its notice, the trunk's stations are IDLE, TRUNK_STATE is raised and a deferred TRUNK_STOP
is answered FAULTED (R78, R84, R87, R89, R97, R98, R102, R117, R123). In the stop step of a close the trunk ends STOPPED
and no notice is kept (R110; that this is one event is log entry 16). A character after the deadline meets a trunk that
does not listen. When a stop bit has been sent, the time base at a deadline expiry, `dt` and the overdue expiry are log
entries 9, 2, 3 and 24. -/
def Obligations.ThirdEchoFaultFaultsTrunk : Prop :=
  ∀ (s : State) (k : TrunkId) (poll : List Byte) (start : Time) (echoed : Nat) (turn : Turn),
    s.inReset = false → DirectivesSound s → (s.trunks[k]).phase = .sending poll start echoed →
    (s.trunks[k]).turn = some turn → (s.trunks[k]).echoRun = 2 →
    let x := s.trunks[k]
    let sent := (echoed + 1) * 10000000 / rateOf x.config.rate
    let due := start + BitVec.ofNat 32 (sent + byteTimes x.config.rate 1)
    let ending : TrunkState := match s.link.session with
      | .closing .stopping _ => .stopped
      | _ => .faulted
    let faults (now : Time) : State :=
      let settled : State := State.settle ({ s with timeBase := now } : State) turn none
      let resting : State := match s.roster[turn.slot] with
        | some st =>
          if st.state = .removing then settled.removalDone turn.slot st
          else if st.suspendPending then
            ({ settled with roster := setAt s.roster turn.slot (some
                { st with state := .suspended, suspendPending := false }) } : State).raise
              (.stationState turn.slot st.trunk st.address turn.startState .suspended 1)
          else settled
        | none => settled
      let faulted : State := (({ resting with
        trunks := setAt s.trunks k { x.atRest ending with
          cause := .echo, echoRun := 3
          counters := { x.counters with echoFaults := min (x.counters.echoFaults + 1) 4294967295 } } } :
            State).grounded k).raise (.trunkState k x.state .faulted .echo)
      match x.stopTag with
      | some tag => faulted.repliedLate 0x2A#8 tag .ok [4#8]
      | none => faulted
    (∀ (dt : Nat) (value : Byte) (fe : Bool),
      let now := s.timeBase + BitVec.ofNat 32 dt
      (¬ Before due now →
        (poll.length ≤ echoed ∨ fe = true ∨ poll.getD echoed 0#8 ≠ value ∨ (now - start).toNat < sent) →
        exec (.echoCharacter k dt value fe) s = .next ((faults now).finish false))
      ∧ (Before due now →
        exec (.echoCharacter k dt value fe) s =
          .next (({ faults (s.expiryAt due) with timeBase := now } : State).finish false)))
    ∧ exec (.echoDeadlineExpiry k) s = .next ((faults (s.expiryAt due)).finish false)

/-- The first character of a REPLY drops the reply timeout when it starts no later; each further good character that
starts no later than the gap expiry is collected, with a new gap expiry, until the REPLY is complete (R90, R103, R104).
That a character starts one byte time before it is taken is read from R90, and `dt` is log entry 3. -/
def Obligations.ReplyIsCollected : Prop :=
  ∀ (s : State) (k : TrunkId) (dt : Nat), s.inReset = false →
    let x := s.trunks[k]
    let now := s.timeBase + BitVec.ofNat 32 dt
    let put (phase : Phase) : State :=
      { s with timeBase := now, trunks := setAt s.trunks k { x with phase := phase } }
    (∀ due, x.phase = .waiting due → ¬ Before due now →
      exec (.replyStart k dt) s = .next ((put (.receiving [] none)).finish false))
    ∧ ∀ (chars : List Byte) (gap : Option Time) (turn : Turn) (value : Byte), x.phase = .receiving chars gap →
      x.turn = some turn → (∀ due, gap = some due → ¬ Before due (now - BitVec.ofNat 32 (byteTimes x.config.rate 1))) →
      (chars = [] → value = 0x3E#8) → (chars.length = 2 → value.toNat ≤ 240) →
      (chars.length < 2 ∨ chars.length + 1 < 5 + ((chars ++ [value]).getD 2 0#8).toNat) →
      exec (.replyCharacter k dt value false) s = .next ((put (.receiving (chars ++ [value])
        (some (now + BitVec.ofNat 32 (byteTimes x.config.rate 2))))).finish false)

/-- A failed attempt: a reply timeout, a gap, a broken character, or a complete REPLY whose check word, address or
structure is wrong, in that order. It is counted once by its cause; a retry follows the settle gap, or the turn ends as a
MISS with its counts and its directive settled. A start after the timeout and a character after the gap expiry meet an
attempt that has failed, and the character is a stray byte (R75, R103 to R108, R116, R173). That a MISS leaves its turn
open for TURN_CLOSE is log entry 11, the time base at an expiry 2, `dt` 3, the overdue expiry 24. -/
def Obligations.AttemptFailsOnce : Prop :=
  ∀ (s : State) (k : TrunkId) (turn : Turn), s.inReset = false → (s.trunks[k]).turn = some turn →
    let x := s.trunks[k]
    let failed (now : Time) (counters : TrunkCounters) : State :=
      let settling : Phase := .settling (now + BitVec.ofNat 32 (byteTimes x.config.rate 3))
      if turn.attempt < 1 + x.config.retries then
        { s with timeBase := now
                 trunks := setAt s.trunks k { x with
                   phase := settling, counters := counters
                   turn := some { turn with attempt := turn.attempt + 1 } } }
      else State.settle ({ s with
        timeBase := now
        trunks := setAt s.trunks k { x with
          phase := settling, counters := counters, turn := some { turn with stage := .missed } }
        roster := setAt s.roster turn.slot ((s.roster[turn.slot]).map fun st => { st with
          counters := { st.counters with
            turns := min (st.counters.turns + 1) 4294967295
            misses := min (st.counters.misses + 1) 4294967295 } }) } : State) turn none
    let broken : TrunkCounters := { x.counters with broken := min (x.counters.broken + 1) 4294967295 }
    let timedOut : TrunkCounters := { x.counters with timeouts := min (x.counters.timeouts + 1) 4294967295 }
    (∀ due, x.phase = .waiting due →
      exec (.replyTimeout k) s = .next ((failed (s.expiryAt due) timedOut).finish false)
      ∧ ∀ dt : Nat, Before due (s.timeBase + BitVec.ofNat 32 dt) → exec (.replyStart k dt) s = .next (State.finish
          ({ failed (s.expiryAt due) timedOut with timeBase := s.timeBase + BitVec.ofNat 32 dt } : State) false))
    ∧ (∀ chars due, x.phase = .receiving chars (some due) →
      exec (.gapExpiry k) s = .next ((failed (s.expiryAt due) broken).finish false))
    ∧ ∀ (chars : List Byte) (gap : Option Time) (dt : Nat) (value : Byte) (fe : Bool),
      x.phase = .receiving chars gap →
      let now := s.timeBase + BitVec.ofNat 32 dt
      let low := now - BitVec.ofNat 32 (byteTimes x.config.rate 1)
      let all := chars ++ [value]
      let ends (u : State) : Prop := exec (.replyCharacter k dt value fe) s = .next (u.finish false)
      let breaks : Prop := fe = true ∨ (chars = [] ∧ value ≠ 0x3E#8) ∨ (chars.length = 2 ∧ 240 < value.toNat)
      (∀ due, gap = some due → Before due low → (x.state = .running ∨ x.state = .stopping) → x.watch = none →
        ends ((failed (s.expiryAt due) broken).strayAt k now))
      ∧ ((∀ due, gap = some due → ¬ Before due low) →
        (breaks → ends (failed now broken))
        ∧ ∀ st, ¬ breaks → 3 ≤ all.length → 5 + (all.getD 2 0#8).toNat ≤ all.length → s.roster[turn.slot] = some st →
          let n := (all.getD 2 0#8).toNat
          let crcGood : Prop := crcBytes (crc16 ((all.drop 1).take (2 + n))) = (all.drop (3 + n)).take 2
          let laidOut : Prop := ∃ (flags ack result : Byte) (rs : List ReplyRecord), rs.length ≤ 4
            ∧ (∀ r ∈ rs, r.payload.length ≤ 56)
            ∧ (all.drop 3).take n = [flags, ack, result, byteOf rs.length]
                ++ rs.flatMap fun r => [r.kind, r.seq, byteOf r.payload.length] ++ r.payload
          (¬ crcGood →
            ends (failed now { x.counters with crcFailures := min (x.counters.crcFailures + 1) 4294967295 }))
          ∧ (crcGood → all.getD 1 0#8 ≠ st.address →
            ends (failed now { x.counters with misaddressed := min (x.counters.misaddressed + 1) 4294967295 }))
          ∧ (crcGood → all.getD 1 0#8 = st.address → ¬ laidOut → ends (failed now broken)))

/-- A valid REPLY, laid out as R173 gives, with the polled station's address and its check word, ends the turn as a HIT
stamped with this event: counts, stray acknowledgement, settlement, restart flag, and the records set out for the walk, or
discarded for a REMOVING station (R75, R80, R87, R104, R105, R115, R118). That the restart flag and the acknowledgement of
a REMOVING station's REPLY are acted upon is log entry 22, the open turn 11, `dt` 3. -/
def Obligations.ValidReplyIsAHit : Prop :=
  ∀ (s : State) (k : TrunkId) (turn : Turn) (st : Station) (chars : List Byte) (gap : Option Time) (dt : Nat)
    (value flags ack result : Byte) (rs : List ReplyRecord), s.inReset = false → (s.trunks[k]).turn = some turn →
    s.roster[turn.slot] = some st → (s.trunks[k]).phase = .receiving chars gap →
    let x := s.trunks[k]
    let now := s.timeBase + BitVec.ofNat 32 dt
    (∀ due, gap = some due → ¬ Before due (now - BitVec.ofNat 32 (byteTimes x.config.rate 1))) →
    rs.length ≤ 4 → (∀ r ∈ rs, r.payload.length ≤ 56) →
    let body : List Byte := [flags, ack, result, byteOf rs.length]
      ++ rs.flatMap fun r => [r.kind, r.seq, byteOf r.payload.length] ++ r.payload
    let head : List Byte := [st.address, byteOf body.length] ++ body
    chars ++ [value] = [0x3E#8] ++ head ++ crcBytes (crc16 head) →
    let restart : Bool := flags.getLsbD 0
    let stray : Prop := ack ≠ 0#8 ∧ ∀ id d, turn.directive = some id →
      s.directives.entries.find? (fun e => decide (e.id = id)) = some d → ack.toNat ≠ d.number
    let settled : State := State.settle ({ s with timeBase := now } : State) turn (some (ack, result))
    let reported : State := if restart then settled.raise (.sequence turn.slot 0 1) else settled
    ∃ strayAcks : Nat, (stray → strayAcks = min (st.counters.strayAcks + 1) 4294967295)
      ∧ (¬ stray → strayAcks = st.counters.strayAcks)
      ∧ exec (.replyCharacter k dt value false) s = .next (State.finish { s with
        timeBase := now
        directives := settled.directives
        notices := reported.notices
        trunks := setAt s.trunks k { x with
          phase := .settling (now + BitVec.ofNat 32 (byteTimes x.config.rate 3))
          turn := some { turn with stage := .replied now (if st.state = .removing then [] else rs) none }
          counters := { x.counters with goodReplies := min (x.counters.goodReplies + 1) 4294967295 } }
        roster := setAt s.roster turn.slot (some { st with
          lastHit := some now
          baseline := if restart then none else st.baseline
          counters := { st.counters with
            turns := min (st.counters.turns + 1) 4294967295
            hits := min (st.counters.hits + 1) 4294967295
            strayAcks := strayAcks
            restarts := if restart then min (st.counters.restarts + 1) 4294967295 else st.counters.restarts
            discarded := if st.state = .removing
              then min (st.counters.discarded + rs.length) 4294967295 else st.counters.discarded } }) } false)

/-- The settle gap ends: the attempt due begins from a freshly built POLL, or the sequencer rests (R101, R107). The
time base at the gap's end, and a settle end with no gap, are log entries 2 and 13. -/
def Obligations.SettleEndBeginsAttemptOrRests : Prop :=
  ∀ (s : State) (k : TrunkId), s.inReset = false →
    let x := s.trunks[k]
    ((∀ due, x.phase ≠ .settling due) → exec (.settleEnd k) s = .next (s.finish false))
    ∧ ∀ due, x.phase = .settling due →
      let now := s.expiryAt due
      let put (y : Trunk) : State := { s with timeBase := now, trunks := setAt s.trunks k y }
      ((∀ turn, x.turn = some turn → turn.stage ≠ .polling) →
        exec (.settleEnd k) s = .next ((put { x with phase := .idle }).finish false))
      ∧ ∀ turn st, x.turn = some turn → turn.stage = .polling → s.roster[turn.slot] = some st →
        let d : Option Directive := match turn.directive with
          | some id => s.directives.entries.find? fun e => decide (e.id = id)
          | none => none
        exec (.settleEnd k) s = .next (State.finish (put { x with
          phase := .sending (pollBytes st.address st.baseline d) now 0, de := true, txMark := false }) false)

/-! ### The walk through a REPLY -/

/-- The next record of a HIT is a duplicate, counted and dropped, or passes with its gap to screening, whose empty
delivery set settles it at once: the hit count of each rule applied rises by one, up to 4,294,967,295, and no other does
(R13, R14, R16, R79, R81). -/
def Obligations.SequenceCheckOfNextRecord : Prop :=
  ∀ (s : State) (k : TrunkId) (turn : Turn) (stamp : Time) (r : ReplyRecord) (todo : List ReplyRecord)
    (st : Station), s.inReset = false → (s.trunks[k]).turn = some turn →
    turn.stage = .replied stamp (r :: todo) none → s.roster[turn.slot] = some st →
    let x := s.trunks[k]
    let stage (screened : Option Screened) : Vector Trunk 2 :=
      setAt s.trunks k { x with turn := some { turn with stage := .replied stamp todo screened } }
    let duplicate : Prop := ∃ b, st.baseline = some b ∧ (r.seq - b = 0#8 ∨ 128 ≤ (r.seq - b).toNat)
    let gap : Nat := match st.baseline with
      | some b => (r.seq - b).toNat - 1
      | none => 0
    let record : Record := { trunk := st.trunk, address := st.address, station := turn.slot, kind := r.kind
                             seq := r.seq, stamp := stamp, payload := r.payload }
    let walk := s.active.table.walk record
    let counted (c : LinkCounters) : LinkCounters := { c with screened := min (c.screened + 1) 4294967295 }
    let hits : Vector Nat 48 := Vector.ofFn fun i =>
      if i ∈ walk.applied then min (s.active.hits[i] + 1) 4294967295 else s.active.hits[i]
    (duplicate → exec (.sequenceCheck k) s = .next (State.finish ({ s with
      trunks := stage none
      roster := setAt s.roster turn.slot (some { st with
        counters := { st.counters with duplicates := min (st.counters.duplicates + 1) 4294967295 } }) } : State)
      false))
    ∧ (¬ duplicate → walk.deliverySet ≠ [] → exec (.sequenceCheck k) s = .next (State.finish ({ s with
      trunks := stage (some { record := record, gap := gap, channels := walk.deliverySet, applied := walk.applied
                              generation := s.active.generation })
      link := { s.link with counters := counted s.link.counters } } : State) false))
    ∧ (¬ duplicate → walk.deliverySet = [] →
      let accepted : State := { s with
        trunks := stage none
        link := { s.link with counters := { counted s.link.counters with
          discarded := min (s.link.counters.discarded + 1) 4294967295 } }
        active := { s.active with hits := hits }
        roster := setAt s.roster turn.slot (some { st with
          baseline := some r.seq
          counters := { st.counters with
            accepted := min (st.counters.accepted + 1) 4294967295
            gapLost := min (st.counters.gapLost + gap) 4294967295 } }) }
      exec (.sequenceCheck k) s = .next (State.finish
        (if gap = 0 then accepted else accepted.raise (.sequence turn.slot gap 0)) false))

/-- How an admission's outcome reaches the roster and the screening unit: a DEFERRED record ends the walk with the
baseline, the store and the channels as they were; any other outcome is acted upon, and while the generation is still the
walk's the hit count of each rule applied rises by one, up to 4,294,967,295, and no other does (R14, R16, R36, R81,
R82). -/
def Obligations.AdmissionOutcomeIsTaken : Prop :=
  ∀ (s : State) (k : TrunkId) (turn : Turn) (stamp : Time) (todo : List ReplyRecord) (x : Screened) (st : Station),
    s.inReset = false → (s.trunks[k]).turn = some turn → turn.stage = .replied stamp todo (some x) →
    s.roster[turn.slot] = some st →
    let y := s.trunks[k]
    let stage (rest : List ReplyRecord) : Vector Trunk 2 :=
      setAt s.trunks k { y with turn := some { turn with stage := .replied stamp rest none } }
    let enabled := x.channels.filter fun c => (s.channels[c]).enabled
    let reserve (c : ChannelId) : Nat := if (s.channels[c]).enabled then (s.channels[c]).config.reserve else 0
    let obtainable : Prop := 1 ≤ s.store.free
      ∧ (((List.finRange 8).map fun c => reserve c - (s.channels[c]).usage).sum < s.store.free
        ∨ ∃ c ∈ enabled, (s.channels[c]).usage < reserve c)
    let defers : Prop := enabled ≠ [] ∧ ∃ c ∈ enabled, (s.channels[c]).config.policy = .defer
      ∧ ((s.channels[c]).config.depth ≤ (s.channels[c]).queue.length ∨ ¬ obtainable)
    (defers → exec (.admission k) s = .next (State.finish ({ s with
      trunks := stage []
      roster := setAt s.roster turn.slot (some { st with
        counters := { st.counters with deferrals := min (st.counters.deferrals + 1) 4294967295 } }) } : State)
      false))
    ∧ (¬ defers →
      let admitted := (s.takeAdmission x.record x.channels).2
      let hits : Vector Nat 48 := Vector.ofFn fun i =>
        if i ∈ x.applied then min (s.active.hits[i] + 1) 4294967295 else s.active.hits[i]
      let accepted : State := { admitted with
        trunks := stage todo
        active := if s.active.generation = x.generation
          then { s.active with hits := hits } else s.active
        roster := setAt s.roster turn.slot (some { st with
          baseline := some x.record.seq
          counters := { st.counters with
            accepted := min (st.counters.accepted + 1) 4294967295
            gapLost := min (st.counters.gapLost + x.gap) 4294967295 } }) }
      exec (.admission k) s = .next (State.finish
        (if x.gap = 0 then accepted else accepted.raise (.sequence turn.slot x.gap 0)) false))

/-- Admission to a delivery set, whatever its size. DISABLED channels are struck; a full KEEP_OLD queue drops, a full
KEEP_NEW queue gives up its oldest entry; then, while no slot is obtainable, the first KEEP_NEW channel of the set with an
entry gives one up. With a slot the record takes the lowest free one and an entry on each channel left; with none it is
dropped, and a set whose every channel was DISABLED counts as unrouted. `es` names the channels of the evictions in their
order. Each loss is counted on its channel and reported by one CHANNEL_LOSS in the order of the set. Then, on each channel
whose queue changed, the hold flag and the armed expiry are evaluated for the entry at the head (a flag that has run out
stays so while its entry is the head), the marks with their CHANNEL_LEVEL, and the offer (R33, R35, R37 to R41, R48, R49,
R52, R58, R174; the order within the event is the one R174 gives). -/
def Obligations.AdmissionStoresOrLoses : Prop :=
  ∀ (s : State) (r : Record) (channels es : List ChannelId), channels.Nodup →
    let full (c : ChannelId) : Bool := decide ((s.channels[c]).config.depth ≤ (s.channels[c]).queue.length)
    let policy (c : ChannelId) : Policy := (s.channels[c]).config.policy
    let enabled := channels.filter fun c => (s.channels[c]).enabled
    let kept := enabled.filter fun c => !(full c && decide (policy c = .keepOld))
    let evict (u : State) (c : ChannelId) : State := match (u.channels[c]).queue with
      | [] => u
      | e :: rest => { u with
        channels := setAt u.channels c { u.channels[c] with
          queue := rest, usage := (u.channels[c]).usage - 1, holdRunOut := false, holdDue := none }
        store := u.store.release e.slot }
    let after (cs : List ChannelId) : State := cs.foldl evict s
    let slot (u : State) (d : List ChannelId) : Prop :=
      let reserve (c : ChannelId) : Nat := if (u.channels[c]).enabled then (u.channels[c]).config.reserve else 0
      1 ≤ u.store.free
        ∧ (((List.finRange 8).map fun c => reserve c - (u.channels[c]).usage).sum < u.store.free
          ∨ ∃ c ∈ d, (u.channels[c]).usage < reserve c)
    let victim (u : State) : Option ChannelId :=
      kept.find? fun c => decide (policy c = .keepNew) && !(u.channels[c]).queue.isEmpty
    (∀ c ∈ enabled, policy c = .defer → full c = false ∧ slot s enabled) →
    (∃ more, es = (kept.filter fun c => full c && decide (policy c = .keepNew)) ++ more
      ∧ ∀ pre c post, more = pre ++ c :: post →
        let u := after ((kept.filter fun c => full c && decide (policy c = .keepNew)) ++ pre)
        ¬ slot u kept ∧ victim u = some c) →
    let u := after es
    let result := s.takeAdmission r channels
    let loss (dropped : Bool) (c : ChannelId) : Loss :=
      { disabled := if (s.channels[c]).enabled then 0 else 1
        keepOld := if (s.channels[c]).enabled = true ∧ full c = true ∧ policy c = .keepOld then 1 else 0
        keepNew := es.count c
        noSlot := if dropped = true ∧ c ∈ kept then 1 else 0 }
    let nothing : Loss := { disabled := 0, keepOld := 0, keepNew := 0, noSlot := 0 }
    let counted (dropped : Bool) (c : ChannelId) : ChannelCounters :=
      let n := (s.channels[c]).counters
      let l := loss dropped c
      if l = nothing then n
      else { n with
        disabledDrops := min (n.disabledDrops + l.disabled) 4294967295
        keepOldDrops := min (n.keepOldDrops + l.keepOld) 4294967295
        evictions := min (n.evictions + l.keepNew) 4294967295
        noSlotDrops := min (n.noSlotDrops + l.noSlot) 4294967295 }
    let was (c : ChannelId) : Level := (s.channels[c]).level
    let level (c : ChannelId) (length : Nat) : Level := (s.channels[c]).config.levelAt (was c) length
    let evaluated (c : ChannelId) (y : Channel) : Prop := y.level = level c y.queue.length ∧ y.offered = y.ready
      ∧ y.HoldEvaluated (u.channels[c]).holdRunOut s.timeBase
    let reports (dropped : Bool) (touched : List ChannelId) (added : Nat) : NoticeQueue :=
      let lost := channels.foldl (fun (v : State) (c : ChannelId) =>
        if loss dropped c = nothing then v else v.raise (.channelLoss c (loss dropped c))) s
      (touched.foldl (fun (v : State) (c : ChannelId) =>
        if level c ((u.channels[c]).queue.length + added) = was c then v
        else v.raise (.channelLevel c (level c ((u.channels[c]).queue.length + added)) 1)) lost).notices
    let rest : Prop := result.2 = { s with
        channels := result.2.channels, store := result.2.store, notices := result.2.notices, link := result.2.link }
      ∧ ∀ c : ChannelId, (result.2.channels[c]).credit = (s.channels[c]).credit
        ∧ (result.2.channels[c]).config = (s.channels[c]).config
        ∧ (result.2.channels[c]).enabled = (s.channels[c]).enabled
        ∧ (result.2.channels[c]).inflight = (s.channels[c]).inflight
        ∧ (c ∉ channels → result.2.channels[c] = s.channels[c])
    (∀ i : SlotId, kept ≠ [] → slot u kept → u.store.slots[i] = none → (∀ j : SlotId, j < i → u.store.slots[j] ≠ none) →
      rest ∧ result.1 = .stored
      ∧ result.2.store =
          { slots := setAt u.store.slots i (some { record := r, refs := kept.length }), free := u.store.free - 1 }
      ∧ result.2.notices = reports false kept 1 ∧ result.2.link = s.link
      ∧ (∀ c ∈ channels, c ∉ kept → result.2.channels[c] = { s.channels[c] with counters := counted false c })
      ∧ ∀ c ∈ kept,
        let y := result.2.channels[c]
        y.queue = (u.channels[c]).queue ++ [{ slot := i, time := s.timeBase }] ∧ y.usage = (u.channels[c]).usage + 1
          ∧ y.counters = { counted false c with enqueued := min ((s.channels[c]).counters.enqueued + 1) 4294967295 }
          ∧ evaluated c y)
    ∧ ((kept = [] ∨ (¬ slot u kept ∧ victim u = none)) →
      let touched := kept.filter fun c => decide (c ∈ es)
      rest ∧ result.1 = .dropped ∧ result.2.store = u.store
      ∧ result.2.notices = reports true touched 0
      ∧ result.2.link = (if enabled = [] then { s.link with counters := { s.link.counters with
          unrouted := min (s.link.counters.unrouted + 1) 4294967295 } } else s.link)
      ∧ (∀ c ∈ channels, c ∉ touched → result.2.channels[c] = { s.channels[c] with counters := counted true c })
      ∧ ∀ c ∈ touched,
        let y := result.2.channels[c]
        y.queue = (u.channels[c]).queue ∧ y.usage = (u.channels[c]).usage ∧ y.counters = counted true c
          ∧ evaluated c y)

/-- The close of a turn applies Table 4-3 from the state the station held when the turn began, with SUSPENDED in its
place when suspension is pending, and raises STATION_STATE for a change; a REMOVING station's removal completes, with its
directives ABORTED and its deferred STATION_REMOVE answered with the records discarded. Then a RUNNING trunk's round goes
on, or ends with its last place; a STOPPING trunk completes its stop, its stations IDLE and its deferred TRUNK_STOP
answered (R73, R75, R76, R84, R87, R89, R96, R98, R123). That the close is an event of its own is log entry 11. -/
def Obligations.TurnCloseAppliesTable : Prop :=
  ∀ (s : State) (k : TrunkId) (turn : Turn) (st : Station) (hit : Bool), s.inReset = false → DirectivesSound s →
    (s.trunks[k]).turn = some turn →
    (if hit then ∃ stamp, turn.stage = .replied stamp [] none else turn.stage = .missed) →
    s.roster[turn.slot] = some st →
    (turn.startState = .probing ∨ turn.startState = .active ∨ turn.startState = .lagging
      ∨ turn.startState = .lost) →
    let x := s.trunks[k]
    let limit := x.config.missLimit
    let missed : StationState × Nat :=
      if turn.startState = .active then (if limit ≤ 1 then .lost else .lagging, 1)
      else if turn.startState = .lost then (.lost, st.missCount)
      else (if limit ≤ st.missCount + 1 then .lost else turn.startState, st.missCount + 1)
    let outcome : StationState × Nat := if hit then (.active, 0) else missed
    let now : StationState := if st.suspendPending then .suspended else outcome.1
    let moved : State := { s with roster := setAt s.roster turn.slot (some
      { st with state := now, missCount := outcome.2, suspendPending := false }) }
    let closed : State :=
      if st.state = .removing then s.removalDone turn.slot st
      else if now = turn.startState then moved
      else moved.raise (.stationState turn.slot st.trunk st.address turn.startState now 1)
    let ends (u : State) : Prop := exec (.turnClose k) s = .next (u.finish false)
    (∀ r, x.state = .running → x.round = some r → ends { closed with
      trunks := setAt s.trunks k (
        let y : Trunk := { x with turn := none }
        if r.places = [] then y.roundEnded s.timeBase r.turned else y) })
    ∧ (x.state = .stopping →
      let stopped : State := ({ closed with trunks := setAt s.trunks k (x.atRest .stopped) } : State).grounded k
      ends (State.raise (match x.stopTag with
        | some tag => stopped.repliedLate 0x2A#8 tag .ok [0#8]
        | none => stopped) (.trunkState k .stopping .stopped .request)))

/-! ### Directives -/

/-- The settlement of an attached directive, by the turn's ending and the directive mark; a turn that carries none
settles nothing (R114 to R117, R119, Table 6-2). -/
def Obligations.DirectiveSettlement : Prop :=
  (∀ (s : State) (turn : Turn) (ack : Option (Byte × Byte)), turn.directive = none → s.settle turn ack = s)
  ∧ ∀ (s : State) (turn : Turn) (before after : List Directive) (d : Directive) (was : Bool),
    s.directives.entries = before ++ d :: after → (s.directives.entries.map Directive.id).Nodup →
    turn.directive = some d.id → d.state = .attached was →
    let put (es : List Directive) : State := { s with directives := { s.directives with entries := es } }
    let unacknowledged : State :=
      if d.attempts + 1 < d.limit then
        put (before ++ { d with attempts := d.attempts + 1, state := .awaiting } :: after)
      else (put (before ++ after)).raise (.directiveDone d.id d.slot .exhausted 0#8 (d.attempts + 1))
    (∀ number result, number.toNat = d.number → s.settle turn (some (number, result)) =
      (put (before ++ after)).raise (.directiveDone d.id d.slot .delivered result d.attempts))
    ∧ (turn.mark = true → (∀ number result, number.toNat ≠ d.number →
        s.settle turn (some (number, result)) = unacknowledged) ∧ s.settle turn none = unacknowledged)
    ∧ (turn.mark = false → s.settle turn none =
        put (before ++ { d with state := if was then .awaiting else .pending } :: after))

/-- DIRECTIVE_SUBMIT makes its checks in order and appends the new entry, PENDING, under an id and a number assigned as
R112 gives: the first from the next id on, in the cycle 1 to 65,535, that no entry holds, and the first from the station's
next directive number on, in the cycle 1 to 63, that no entry of the station holds; the next ones follow them.
DIRECTIVE_CANCEL removes a PENDING or AWAITING entry and leaves an ATTACHED one (R112, R113, R120). -/
def Obligations.DirectiveSubmitAndCancel : Prop :=
  (∀ (s : State) (tag b limit n : Byte) (tail : List Byte), TakesRequest s tag → tail.length = 16 →
    let answers (status : Status) : Prop := exec (.directiveSubmit tag ([b, limit, n] ++ tail)) s =
      .next ((s.replied 0x30#8 tag status []).finish false)
    let after (last v : Nat) : Nat := if v = last then 1 else v + 1
    let ofStation (i : StationId) : List Directive := s.directives.entries.filter fun d => decide (d.slot = i)
    let good : Prop := 1 ≤ n.toNat ∧ n.toNat ≤ 16 ∧ limit.toNat ≤ 15 ∧ ∀ z ∈ tail.drop n.toNat, z = 0#8
    (63 < b.toNat → answers .badArg)
    ∧ ∀ i : StationId, b.toNat = i.1 →
      (s.roster[i] = none → answers .notFound)
      ∧ ∀ st, s.roster[i] = some st →
        (st.state = .removing → answers .wrongState)
        ∧ (st.state ≠ .removing → (¬ good → answers .badArg)
          ∧ (good →
            ((32 ≤ s.directives.entries.length ∨ 4 ≤ (ofStation i).length) → answers .noRoom)
            ∧ (s.directives.entries.length < 32 → (ofStation i).length < 4 →
              ∃ j k : Nat,
                let id := (after 65535)^[j] s.directives.nextId
                let number := (after 63)^[k] st.nextNumber
                (∀ d ∈ s.directives.entries, d.id ≠ id)
                ∧ (∀ j' < j, ∃ d ∈ s.directives.entries, d.id = (after 65535)^[j'] s.directives.nextId)
                ∧ (∀ d ∈ s.directives.entries, d.slot = i → d.number ≠ number)
                ∧ (∀ k' < k, ∃ d ∈ s.directives.entries, d.slot = i ∧ d.number = (after 63)^[k'] st.nextNumber)
                ∧ (1 ≤ s.directives.nextId → s.directives.nextId ≤ 65535 → 1 ≤ id ∧ id ≤ 65535)
                ∧ (1 ≤ st.nextNumber → st.nextNumber ≤ 63 → 1 ≤ number ∧ number ≤ 63)
                ∧ exec (.directiveSubmit tag ([b, limit, n] ++ tail)) s = .next (State.finish (State.replied ({ s with
                    directives :=
                      { entries := s.directives.entries ++
                          [{ id := id, slot := i, number := number, payload := tail.take n.toNat
                             limit := if limit = 0#8 then 4 else limit.toNat, attempts := 0, state := .pending }]
                        nextId := after 65535 id }
                    roster := setAt s.roster i (some
                      { st with nextNumber := after 63 number }) } : State)
                    0x30#8 tag .ok (le16 id ++ [byteOf number])) false)))))
  ∧ ∀ (s : State) (tag low high : Byte), TakesRequest s tag →
    let id := low.toNat + 256 * high.toNat
    let answers (u : State) (status : Status) (results : List Byte) : Prop :=
      exec (.directiveCancel tag [low, high]) s = .next ((u.replied 0x31#8 tag status results).finish false)
    (id = 0 → answers s .badArg [])
    ∧ (id ≠ 0 →
      ((∀ d ∈ s.directives.entries, d.id ≠ id) → answers s .notFound [])
      ∧ ∀ before d after, s.directives.entries = before ++ d :: after → d.id = id →
        (s.directives.entries.map Directive.id).Nodup →
        let removed : State := { s with directives := { s.directives with entries := before ++ after } }
        (d.state = .pending → answers removed .ok [3#8, byteOf d.attempts])
        ∧ (d.state = .awaiting → answers removed .ok [4#8, byteOf d.attempts])
        ∧ (∀ was, d.state = .attached was → answers s .tooLate []))

/-! ### Invariants that every step keeps -/

/-- Reset meets every invariant. -/
def Obligations.ResetMeetsInvariants : Prop :=
  LinkSound State.reset ∧ ArbiterSound State.reset ∧ NoticesSound State.reset ∧ CreditSound State.reset
    ∧ DeliverySound State.reset ∧ ChannelsSound State.reset ∧ StoreSound State.reset ∧ RosterSound State.reset
    ∧ DirectivesSound State.reset ∧ NumberingSound State.reset ∧ TrunksSound State.reset ∧ ClosedSound State.reset

/-- The limits of the shared tables: at most 8 requests under distinct tags and 4 refusals (R134, R135); at most 31
ordinary notices and one NOTICE_LOST (R151); reserves within 256 and credits within 255 (R32, R50). -/
def Obligations.StepKeepsLimits : Prop :=
  ∀ s t : State, step s = .next t →
    (LinkSound s → LinkSound t) ∧ (NoticesSound s → NoticesSound t) ∧ (CreditSound s → CreditSound t)

/-- R130 and R138: ATTN# follows its condition, and nothing waits beside a free transmitter. -/
def Obligations.StepKeepsArbiterSound : Prop :=
  ∀ s t : State, ArbiterSound s → step s = .next t → ArbiterSound t

/-- R12, R48, R53 and R54: queues within their depth, usage exact, offers exactly the channels that meet the five
conditions of readiness. -/
def Obligations.StepKeepsChannelsSound : Prop :=
  ∀ s t : State, DeliverySound s → ChannelsSound s → step s = .next t → DeliverySound t ∧ ChannelsSound t

/-- R28 and R41: reference counts equal the entries that name the slot, and F counts the free slots. No step but an
ADMISSION's fills a slot or raises a count, and an occupied slot keeps its record. A release lowers one slot's count, frees
the slot at zero, and touches no other slot; several are taken in order. -/
def Obligations.StepKeepsStoreSound : Prop :=
  (∀ s t : State, StoreSound s → step s = .next t → StoreSound t)
  ∧ (∀ s t : State, step s = .next t → (∀ k rest, s.pending ≠ .admission k :: rest) →
    ∀ (i : SlotId) (y : Stored), t.store.slots[i] = some y →
      ∃ x, s.store.slots[i] = some x ∧ y.record = x.record ∧ y.refs ≤ x.refs)
  ∧ ∀ (st : Store) (i : SlotId),
    (st.slots[i] = none → st.release i = st)
    ∧ (∀ x, st.slots[i] = some x →
      (st.release i).slots[i] = (if x.refs ≤ 1 then none else some { record := x.record, refs := x.refs - 1 })
        ∧ (st.release i).free = (if x.refs ≤ 1 then st.free + 1 else st.free)
        ∧ ∀ j : SlotId, j ≠ i → (st.release i).slots[j] = st.slots[j])
    ∧ st.releaseAll [] = st ∧ ∀ is : List SlotId, st.releaseAll (i :: is) = (st.release i).releaseAll is

/-- R67: no two entries share trunk and address, and their fields stay in range. -/
def Obligations.StepKeepsRosterSound : Prop :=
  ∀ s t : State, RosterSound s → step s = .next t → RosterSound t

/-- R111 and R112: the limits of the directive queue, distinct ids and numbers, and the range of both. -/
def Obligations.StepKeepsDirectivesSound : Prop :=
  ∀ s t : State, step s = .next t →
    (DirectivesSound s → DirectivesSound t) ∧ (NumberingSound s → NumberingSound t)

/-- R90 and Table 5-5: DE is high exactly while SENDING, and a trunk out of service rests. -/
def Obligations.StepKeepsTrunksSound : Prop :=
  ∀ s t : State, TrunksSound s → step s = .next t → TrunksSound t

/-- R140 and R141: in a CLOSED session no trunk runs, nothing is queued but replies, and no batch is in flight. -/
def Obligations.StepKeepsClosedSound : Prop :=
  ∀ s t : State, TrunksSound s → ClosedSound s → step s = .next t → ClosedSound t
end

