-- ==== Sys2Proof/Laws/State.lean ====
section
/-! SUPPORT. The small lemmas of the state updates: one for each field and update, and the laws of `setAt`. -/

namespace Sys2Proof.Machine

/-! ### Replacing an element of a vector -/

section SetAt
variable {α : Type} {n : Nat} (v : Vector α n)

/-- The element replaced reads as the new one. -/
@[simp] theorem getElem_setAt_self (i : Fin n) (a : α) : (setAt v i a)[(i : Nat)] = a := by
  simp [setAt]

/-- Every other element reads as before. -/
theorem getElem_setAt_ne {i j : Fin n} (h : i ≠ j) (a : α) : (setAt v i a)[(j : Nat)] = v[(j : Nat)] := by
  have : i.1 ≠ j.1 := fun e => h (Fin.ext e)
  simp [setAt, this]

/-- Reading after a replacement, by cases. -/
theorem getElem_setAt (i j : Fin n) (a : α) :
    (setAt v i a)[(j : Nat)] = if i = j then a else v[(j : Nat)] := by
  by_cases h : i = j
  · subst h; simp
  · rw [getElem_setAt_ne v h, if_neg h]

/-- The later of two replacements of one element stands. -/
@[simp] theorem setAt_setAt (i : Fin n) (a b : α) : setAt (setAt v i a) i b = setAt v i b := by
  simp [setAt]

/-- Replacing an element by itself changes nothing. -/
@[simp] theorem setAt_getElem (i : Fin n) : setAt v i v[(i : Nat)] = v := by
  simp [setAt]

/-- Replacements of different elements commute. -/
theorem setAt_comm {i j : Fin n} (h : i ≠ j) (a b : α) :
    setAt (setAt v i a) j b = setAt (setAt v j b) i a := by
  have : i.1 ≠ j.1 := fun e => h (Fin.ext e)
  simp only [setAt]; exact Vector.set_comm _ _ this

end SetAt

/-! ### Fields after an update -/

section Updates
variable (s : State)


/-! `State.setChannel` writes `channels` only. -/

@[simp] theorem State.setChannel_pending (c : ChannelId) (x : Channel) : (s.setChannel c x).pending = s.pending := rfl
@[simp] theorem State.setChannel_inReset (c : ChannelId) (x : Channel) : (s.setChannel c x).inReset = s.inReset := rfl
@[simp] theorem State.setChannel_holdLow (c : ChannelId) (x : Channel) : (s.setChannel c x).holdLow = s.holdLow := rfl
@[simp] theorem State.setChannel_hcsIsHigh (c : ChannelId) (x : Channel) : (s.setChannel c x).hcsIsHigh = s.hcsIsHigh := rfl
@[simp] theorem State.setChannel_attnLow (c : ChannelId) (x : Channel) : (s.setChannel c x).attnLow = s.attnLow := rfl
@[simp] theorem State.setChannel_hostOut (c : ChannelId) (x : Channel) : (s.setChannel c x).hostOut = s.hostOut := rfl
@[simp] theorem State.setChannel_mode (c : ChannelId) (x : Channel) : (s.setChannel c x).mode = s.mode := rfl
@[simp] theorem State.setChannel_timeBase (c : ChannelId) (x : Channel) : (s.setChannel c x).timeBase = s.timeBase := rfl
@[simp] theorem State.setChannel_link (c : ChannelId) (x : Channel) : (s.setChannel c x).link = s.link := rfl
@[simp] theorem State.setChannel_notices (c : ChannelId) (x : Channel) : (s.setChannel c x).notices = s.notices := rfl
@[simp] theorem State.setChannel_active (c : ChannelId) (x : Channel) : (s.setChannel c x).active = s.active := rfl
@[simp] theorem State.setChannel_staging (c : ChannelId) (x : Channel) : (s.setChannel c x).staging = s.staging := rfl
@[simp] theorem State.setChannel_store (c : ChannelId) (x : Channel) : (s.setChannel c x).store = s.store := rfl
@[simp] theorem State.setChannel_channels (c : ChannelId) (x : Channel) : (s.setChannel c x).channels = setAt s.channels c x := rfl
@[simp] theorem State.setChannel_roster (c : ChannelId) (x : Channel) : (s.setChannel c x).roster = s.roster := rfl
@[simp] theorem State.setChannel_nextSerial (c : ChannelId) (x : Channel) : (s.setChannel c x).nextSerial = s.nextSerial := rfl
@[simp] theorem State.setChannel_trunks (c : ChannelId) (x : Channel) : (s.setChannel c x).trunks = s.trunks := rfl
@[simp] theorem State.setChannel_directives (c : ChannelId) (x : Channel) : (s.setChannel c x).directives = s.directives := rfl

/-! `State.setTrunk` writes `trunks` only. -/

@[simp] theorem State.setTrunk_pending (i : TrunkId) (x : Trunk) : (s.setTrunk i x).pending = s.pending := rfl
@[simp] theorem State.setTrunk_inReset (i : TrunkId) (x : Trunk) : (s.setTrunk i x).inReset = s.inReset := rfl
@[simp] theorem State.setTrunk_holdLow (i : TrunkId) (x : Trunk) : (s.setTrunk i x).holdLow = s.holdLow := rfl
@[simp] theorem State.setTrunk_hcsIsHigh (i : TrunkId) (x : Trunk) : (s.setTrunk i x).hcsIsHigh = s.hcsIsHigh := rfl
@[simp] theorem State.setTrunk_attnLow (i : TrunkId) (x : Trunk) : (s.setTrunk i x).attnLow = s.attnLow := rfl
@[simp] theorem State.setTrunk_hostOut (i : TrunkId) (x : Trunk) : (s.setTrunk i x).hostOut = s.hostOut := rfl
@[simp] theorem State.setTrunk_mode (i : TrunkId) (x : Trunk) : (s.setTrunk i x).mode = s.mode := rfl
@[simp] theorem State.setTrunk_timeBase (i : TrunkId) (x : Trunk) : (s.setTrunk i x).timeBase = s.timeBase := rfl
@[simp] theorem State.setTrunk_link (i : TrunkId) (x : Trunk) : (s.setTrunk i x).link = s.link := rfl
@[simp] theorem State.setTrunk_notices (i : TrunkId) (x : Trunk) : (s.setTrunk i x).notices = s.notices := rfl
@[simp] theorem State.setTrunk_active (i : TrunkId) (x : Trunk) : (s.setTrunk i x).active = s.active := rfl
@[simp] theorem State.setTrunk_staging (i : TrunkId) (x : Trunk) : (s.setTrunk i x).staging = s.staging := rfl
@[simp] theorem State.setTrunk_store (i : TrunkId) (x : Trunk) : (s.setTrunk i x).store = s.store := rfl
@[simp] theorem State.setTrunk_channels (i : TrunkId) (x : Trunk) : (s.setTrunk i x).channels = s.channels := rfl
@[simp] theorem State.setTrunk_roster (i : TrunkId) (x : Trunk) : (s.setTrunk i x).roster = s.roster := rfl
@[simp] theorem State.setTrunk_nextSerial (i : TrunkId) (x : Trunk) : (s.setTrunk i x).nextSerial = s.nextSerial := rfl
@[simp] theorem State.setTrunk_trunks (i : TrunkId) (x : Trunk) : (s.setTrunk i x).trunks = setAt s.trunks i x := rfl
@[simp] theorem State.setTrunk_directives (i : TrunkId) (x : Trunk) : (s.setTrunk i x).directives = s.directives := rfl

/-! `State.setStation` writes `roster` only. -/

@[simp] theorem State.setStation_pending (i : StationId) (x : Option Station) : (s.setStation i x).pending = s.pending := rfl
@[simp] theorem State.setStation_inReset (i : StationId) (x : Option Station) : (s.setStation i x).inReset = s.inReset := rfl
@[simp] theorem State.setStation_holdLow (i : StationId) (x : Option Station) : (s.setStation i x).holdLow = s.holdLow := rfl
@[simp] theorem State.setStation_hcsIsHigh (i : StationId) (x : Option Station) : (s.setStation i x).hcsIsHigh = s.hcsIsHigh := rfl
@[simp] theorem State.setStation_attnLow (i : StationId) (x : Option Station) : (s.setStation i x).attnLow = s.attnLow := rfl
@[simp] theorem State.setStation_hostOut (i : StationId) (x : Option Station) : (s.setStation i x).hostOut = s.hostOut := rfl
@[simp] theorem State.setStation_mode (i : StationId) (x : Option Station) : (s.setStation i x).mode = s.mode := rfl
@[simp] theorem State.setStation_timeBase (i : StationId) (x : Option Station) : (s.setStation i x).timeBase = s.timeBase := rfl
@[simp] theorem State.setStation_link (i : StationId) (x : Option Station) : (s.setStation i x).link = s.link := rfl
@[simp] theorem State.setStation_notices (i : StationId) (x : Option Station) : (s.setStation i x).notices = s.notices := rfl
@[simp] theorem State.setStation_active (i : StationId) (x : Option Station) : (s.setStation i x).active = s.active := rfl
@[simp] theorem State.setStation_staging (i : StationId) (x : Option Station) : (s.setStation i x).staging = s.staging := rfl
@[simp] theorem State.setStation_store (i : StationId) (x : Option Station) : (s.setStation i x).store = s.store := rfl
@[simp] theorem State.setStation_channels (i : StationId) (x : Option Station) : (s.setStation i x).channels = s.channels := rfl
@[simp] theorem State.setStation_roster (i : StationId) (x : Option Station) : (s.setStation i x).roster = setAt s.roster i x := rfl
@[simp] theorem State.setStation_nextSerial (i : StationId) (x : Option Station) : (s.setStation i x).nextSerial = s.nextSerial := rfl
@[simp] theorem State.setStation_trunks (i : StationId) (x : Option Station) : (s.setStation i x).trunks = s.trunks := rfl
@[simp] theorem State.setStation_directives (i : StationId) (x : Option Station) : (s.setStation i x).directives = s.directives := rfl

/-! `State.setLink` writes `link` only. -/

@[simp] theorem State.setLink_pending (l : Link) : (s.setLink l).pending = s.pending := rfl
@[simp] theorem State.setLink_inReset (l : Link) : (s.setLink l).inReset = s.inReset := rfl
@[simp] theorem State.setLink_holdLow (l : Link) : (s.setLink l).holdLow = s.holdLow := rfl
@[simp] theorem State.setLink_hcsIsHigh (l : Link) : (s.setLink l).hcsIsHigh = s.hcsIsHigh := rfl
@[simp] theorem State.setLink_attnLow (l : Link) : (s.setLink l).attnLow = s.attnLow := rfl
@[simp] theorem State.setLink_hostOut (l : Link) : (s.setLink l).hostOut = s.hostOut := rfl
@[simp] theorem State.setLink_mode (l : Link) : (s.setLink l).mode = s.mode := rfl
@[simp] theorem State.setLink_timeBase (l : Link) : (s.setLink l).timeBase = s.timeBase := rfl
@[simp] theorem State.setLink_link (l : Link) : (s.setLink l).link = l := rfl
@[simp] theorem State.setLink_notices (l : Link) : (s.setLink l).notices = s.notices := rfl
@[simp] theorem State.setLink_active (l : Link) : (s.setLink l).active = s.active := rfl
@[simp] theorem State.setLink_staging (l : Link) : (s.setLink l).staging = s.staging := rfl
@[simp] theorem State.setLink_store (l : Link) : (s.setLink l).store = s.store := rfl
@[simp] theorem State.setLink_channels (l : Link) : (s.setLink l).channels = s.channels := rfl
@[simp] theorem State.setLink_roster (l : Link) : (s.setLink l).roster = s.roster := rfl
@[simp] theorem State.setLink_nextSerial (l : Link) : (s.setLink l).nextSerial = s.nextSerial := rfl
@[simp] theorem State.setLink_trunks (l : Link) : (s.setLink l).trunks = s.trunks := rfl
@[simp] theorem State.setLink_directives (l : Link) : (s.setLink l).directives = s.directives := rfl

/-! `State.setNotices` writes `notices` only. -/

@[simp] theorem State.setNotices_pending (q : NoticeQueue) : (s.setNotices q).pending = s.pending := rfl
@[simp] theorem State.setNotices_inReset (q : NoticeQueue) : (s.setNotices q).inReset = s.inReset := rfl
@[simp] theorem State.setNotices_holdLow (q : NoticeQueue) : (s.setNotices q).holdLow = s.holdLow := rfl
@[simp] theorem State.setNotices_hcsIsHigh (q : NoticeQueue) : (s.setNotices q).hcsIsHigh = s.hcsIsHigh := rfl
@[simp] theorem State.setNotices_attnLow (q : NoticeQueue) : (s.setNotices q).attnLow = s.attnLow := rfl
@[simp] theorem State.setNotices_hostOut (q : NoticeQueue) : (s.setNotices q).hostOut = s.hostOut := rfl
@[simp] theorem State.setNotices_mode (q : NoticeQueue) : (s.setNotices q).mode = s.mode := rfl
@[simp] theorem State.setNotices_timeBase (q : NoticeQueue) : (s.setNotices q).timeBase = s.timeBase := rfl
@[simp] theorem State.setNotices_link (q : NoticeQueue) : (s.setNotices q).link = s.link := rfl
@[simp] theorem State.setNotices_notices (q : NoticeQueue) : (s.setNotices q).notices = q := rfl
@[simp] theorem State.setNotices_active (q : NoticeQueue) : (s.setNotices q).active = s.active := rfl
@[simp] theorem State.setNotices_staging (q : NoticeQueue) : (s.setNotices q).staging = s.staging := rfl
@[simp] theorem State.setNotices_store (q : NoticeQueue) : (s.setNotices q).store = s.store := rfl
@[simp] theorem State.setNotices_channels (q : NoticeQueue) : (s.setNotices q).channels = s.channels := rfl
@[simp] theorem State.setNotices_roster (q : NoticeQueue) : (s.setNotices q).roster = s.roster := rfl
@[simp] theorem State.setNotices_nextSerial (q : NoticeQueue) : (s.setNotices q).nextSerial = s.nextSerial := rfl
@[simp] theorem State.setNotices_trunks (q : NoticeQueue) : (s.setNotices q).trunks = s.trunks := rfl
@[simp] theorem State.setNotices_directives (q : NoticeQueue) : (s.setNotices q).directives = s.directives := rfl

/-! `State.setDirectives` writes `directives` only. -/

@[simp] theorem State.setDirectives_pending (es : List Directive) : (s.setDirectives es).pending = s.pending := rfl
@[simp] theorem State.setDirectives_inReset (es : List Directive) : (s.setDirectives es).inReset = s.inReset := rfl
@[simp] theorem State.setDirectives_holdLow (es : List Directive) : (s.setDirectives es).holdLow = s.holdLow := rfl
@[simp] theorem State.setDirectives_hcsIsHigh (es : List Directive) : (s.setDirectives es).hcsIsHigh = s.hcsIsHigh := rfl
@[simp] theorem State.setDirectives_attnLow (es : List Directive) : (s.setDirectives es).attnLow = s.attnLow := rfl
@[simp] theorem State.setDirectives_hostOut (es : List Directive) : (s.setDirectives es).hostOut = s.hostOut := rfl
@[simp] theorem State.setDirectives_mode (es : List Directive) : (s.setDirectives es).mode = s.mode := rfl
@[simp] theorem State.setDirectives_timeBase (es : List Directive) : (s.setDirectives es).timeBase = s.timeBase := rfl
@[simp] theorem State.setDirectives_link (es : List Directive) : (s.setDirectives es).link = s.link := rfl
@[simp] theorem State.setDirectives_notices (es : List Directive) : (s.setDirectives es).notices = s.notices := rfl
@[simp] theorem State.setDirectives_active (es : List Directive) : (s.setDirectives es).active = s.active := rfl
@[simp] theorem State.setDirectives_staging (es : List Directive) : (s.setDirectives es).staging = s.staging := rfl
@[simp] theorem State.setDirectives_store (es : List Directive) : (s.setDirectives es).store = s.store := rfl
@[simp] theorem State.setDirectives_channels (es : List Directive) : (s.setDirectives es).channels = s.channels := rfl
@[simp] theorem State.setDirectives_roster (es : List Directive) : (s.setDirectives es).roster = s.roster := rfl
@[simp] theorem State.setDirectives_nextSerial (es : List Directive) : (s.setDirectives es).nextSerial = s.nextSerial := rfl
@[simp] theorem State.setDirectives_trunks (es : List Directive) : (s.setDirectives es).trunks = s.trunks := rfl
@[simp] theorem State.setDirectives_directives (es : List Directive) : (s.setDirectives es).directives = { s.directives with entries := es } := rfl

/-! `State.elapse` writes `timeBase` only. -/

@[simp] theorem State.elapse_pending (dt : Nat) : (s.elapse dt).pending = s.pending := by simp only [State.elapse]
@[simp] theorem State.elapse_inReset (dt : Nat) : (s.elapse dt).inReset = s.inReset := by simp only [State.elapse]
@[simp] theorem State.elapse_holdLow (dt : Nat) : (s.elapse dt).holdLow = s.holdLow := by simp only [State.elapse]
@[simp] theorem State.elapse_hcsIsHigh (dt : Nat) : (s.elapse dt).hcsIsHigh = s.hcsIsHigh := by simp only [State.elapse]
@[simp] theorem State.elapse_attnLow (dt : Nat) : (s.elapse dt).attnLow = s.attnLow := by simp only [State.elapse]
@[simp] theorem State.elapse_hostOut (dt : Nat) : (s.elapse dt).hostOut = s.hostOut := by simp only [State.elapse]
@[simp] theorem State.elapse_mode (dt : Nat) : (s.elapse dt).mode = s.mode := by simp only [State.elapse]
@[simp] theorem State.elapse_timeBase (dt : Nat) : (s.elapse dt).timeBase = later s.timeBase dt := by simp only [State.elapse]
@[simp] theorem State.elapse_link (dt : Nat) : (s.elapse dt).link = s.link := by simp only [State.elapse]
@[simp] theorem State.elapse_notices (dt : Nat) : (s.elapse dt).notices = s.notices := by simp only [State.elapse]
@[simp] theorem State.elapse_active (dt : Nat) : (s.elapse dt).active = s.active := by simp only [State.elapse]
@[simp] theorem State.elapse_staging (dt : Nat) : (s.elapse dt).staging = s.staging := by simp only [State.elapse]
@[simp] theorem State.elapse_store (dt : Nat) : (s.elapse dt).store = s.store := by simp only [State.elapse]
@[simp] theorem State.elapse_channels (dt : Nat) : (s.elapse dt).channels = s.channels := by simp only [State.elapse]
@[simp] theorem State.elapse_roster (dt : Nat) : (s.elapse dt).roster = s.roster := by simp only [State.elapse]
@[simp] theorem State.elapse_nextSerial (dt : Nat) : (s.elapse dt).nextSerial = s.nextSerial := by simp only [State.elapse]
@[simp] theorem State.elapse_trunks (dt : Nat) : (s.elapse dt).trunks = s.trunks := by simp only [State.elapse]
@[simp] theorem State.elapse_directives (dt : Nat) : (s.elapse dt).directives = s.directives := by simp only [State.elapse]

/-! `State.advanceTo` writes `timeBase` only. -/

@[simp] theorem State.advanceTo_pending (due : Time) : (s.advanceTo due).pending = s.pending := by simp only [State.advanceTo]
@[simp] theorem State.advanceTo_inReset (due : Time) : (s.advanceTo due).inReset = s.inReset := by simp only [State.advanceTo]
@[simp] theorem State.advanceTo_holdLow (due : Time) : (s.advanceTo due).holdLow = s.holdLow := by simp only [State.advanceTo]
@[simp] theorem State.advanceTo_hcsIsHigh (due : Time) : (s.advanceTo due).hcsIsHigh = s.hcsIsHigh := by simp only [State.advanceTo]
@[simp] theorem State.advanceTo_attnLow (due : Time) : (s.advanceTo due).attnLow = s.attnLow := by simp only [State.advanceTo]
@[simp] theorem State.advanceTo_hostOut (due : Time) : (s.advanceTo due).hostOut = s.hostOut := by simp only [State.advanceTo]
@[simp] theorem State.advanceTo_mode (due : Time) : (s.advanceTo due).mode = s.mode := by simp only [State.advanceTo]
@[simp] theorem State.advanceTo_timeBase (due : Time) : (s.advanceTo due).timeBase = if reached due s.timeBase then s.timeBase else due := by simp only [State.advanceTo]
@[simp] theorem State.advanceTo_link (due : Time) : (s.advanceTo due).link = s.link := by simp only [State.advanceTo]
@[simp] theorem State.advanceTo_notices (due : Time) : (s.advanceTo due).notices = s.notices := by simp only [State.advanceTo]
@[simp] theorem State.advanceTo_active (due : Time) : (s.advanceTo due).active = s.active := by simp only [State.advanceTo]
@[simp] theorem State.advanceTo_staging (due : Time) : (s.advanceTo due).staging = s.staging := by simp only [State.advanceTo]
@[simp] theorem State.advanceTo_store (due : Time) : (s.advanceTo due).store = s.store := by simp only [State.advanceTo]
@[simp] theorem State.advanceTo_channels (due : Time) : (s.advanceTo due).channels = s.channels := by simp only [State.advanceTo]
@[simp] theorem State.advanceTo_roster (due : Time) : (s.advanceTo due).roster = s.roster := by simp only [State.advanceTo]
@[simp] theorem State.advanceTo_nextSerial (due : Time) : (s.advanceTo due).nextSerial = s.nextSerial := by simp only [State.advanceTo]
@[simp] theorem State.advanceTo_trunks (due : Time) : (s.advanceTo due).trunks = s.trunks := by simp only [State.advanceTo]
@[simp] theorem State.advanceTo_directives (due : Time) : (s.advanceTo due).directives = s.directives := by simp only [State.advanceTo]

/-! `State.comeTo` writes `timeBase` only. -/

@[simp] theorem State.comeTo_pending (now : Time) : (s.comeTo now).pending = s.pending := rfl
@[simp] theorem State.comeTo_inReset (now : Time) : (s.comeTo now).inReset = s.inReset := rfl
@[simp] theorem State.comeTo_holdLow (now : Time) : (s.comeTo now).holdLow = s.holdLow := rfl
@[simp] theorem State.comeTo_hcsIsHigh (now : Time) : (s.comeTo now).hcsIsHigh = s.hcsIsHigh := rfl
@[simp] theorem State.comeTo_attnLow (now : Time) : (s.comeTo now).attnLow = s.attnLow := rfl
@[simp] theorem State.comeTo_hostOut (now : Time) : (s.comeTo now).hostOut = s.hostOut := rfl
@[simp] theorem State.comeTo_mode (now : Time) : (s.comeTo now).mode = s.mode := rfl
@[simp] theorem State.comeTo_timeBase (now : Time) : (s.comeTo now).timeBase = now := rfl
@[simp] theorem State.comeTo_link (now : Time) : (s.comeTo now).link = s.link := rfl
@[simp] theorem State.comeTo_notices (now : Time) : (s.comeTo now).notices = s.notices := rfl
@[simp] theorem State.comeTo_active (now : Time) : (s.comeTo now).active = s.active := rfl
@[simp] theorem State.comeTo_staging (now : Time) : (s.comeTo now).staging = s.staging := rfl
@[simp] theorem State.comeTo_store (now : Time) : (s.comeTo now).store = s.store := rfl
@[simp] theorem State.comeTo_channels (now : Time) : (s.comeTo now).channels = s.channels := rfl
@[simp] theorem State.comeTo_roster (now : Time) : (s.comeTo now).roster = s.roster := rfl
@[simp] theorem State.comeTo_nextSerial (now : Time) : (s.comeTo now).nextSerial = s.nextSerial := rfl
@[simp] theorem State.comeTo_trunks (now : Time) : (s.comeTo now).trunks = s.trunks := rfl
@[simp] theorem State.comeTo_directives (now : Time) : (s.comeTo now).directives = s.directives := rfl

end Updates

/-! ### Reading back what an update wrote -/

/-- The channel replaced reads as the new one. -/
theorem State.setChannel_get (s : State) (c : ChannelId) (x : Channel) : (s.setChannel c x).channels[c] = x := by
  simp

/-- The trunk replaced reads as the new one. -/
theorem State.setTrunk_get (s : State) (t : TrunkId) (x : Trunk) : (s.setTrunk t x).trunks[t] = x := by
  simp

/-- The roster slot replaced reads as the new one. -/
theorem State.setStation_get (s : State) (i : StationId) (x : Option Station) :
    (s.setStation i x).roster[i] = x := by
  simp

/-- The later of two replacements of one trunk stands. -/
@[simp] theorem State.setTrunk_setTrunk (s : State) (t : TrunkId) (x y : Trunk) :
    (s.setTrunk t x).setTrunk t y = s.setTrunk t y := by
  simp [State.setTrunk]

/-- The later of two replacements of one channel stands. -/
@[simp] theorem State.setChannel_setChannel (s : State) (c : ChannelId) (x y : Channel) :
    (s.setChannel c x).setChannel c y = s.setChannel c y := by
  simp [State.setChannel]

/-- The later of two replacements of the link controller stands. -/
@[simp] theorem State.setLink_setLink (s : State) (l m : Link) : (s.setLink l).setLink m = s.setLink m := rfl

end Sys2Proof.Machine
end

