-- ==== Sys2Proof/Laws/Frames.lean ====
section
/-! SUPPORT. What each shared operation leaves alone: one lemma for each, which says every field it keeps. -/

namespace Sys2Proof.Machine

/-- `State.raise` writes notices only. -/
@[simp] theorem State.raise_keeps (s : State) (n : Notice) :
    (s.raise n).pending = s.pending ∧ (s.raise n).inReset = s.inReset ∧ (s.raise n).holdLow = s.holdLow
      ∧ (s.raise n).hcsIsHigh = s.hcsIsHigh ∧ (s.raise n).attnLow = s.attnLow ∧ (s.raise n).hostOut = s.hostOut
      ∧ (s.raise n).mode = s.mode ∧ (s.raise n).timeBase = s.timeBase ∧ (s.raise n).link = s.link
      ∧ (s.raise n).active = s.active ∧ (s.raise n).staging = s.staging ∧ (s.raise n).store = s.store
      ∧ (s.raise n).channels = s.channels ∧ (s.raise n).roster = s.roster
      ∧ (s.raise n).nextSerial = s.nextSerial ∧ (s.raise n).trunks = s.trunks
      ∧ (s.raise n).directives = s.directives := by
  unfold State.raise; split <;> simp

/-- `State.countLink` writes link only. -/
@[simp] theorem State.countLink_keeps (s : State) (f : LinkCounters → LinkCounters) :
    (s.countLink f).pending = s.pending ∧ (s.countLink f).inReset = s.inReset
      ∧ (s.countLink f).holdLow = s.holdLow ∧ (s.countLink f).hcsIsHigh = s.hcsIsHigh
      ∧ (s.countLink f).attnLow = s.attnLow ∧ (s.countLink f).hostOut = s.hostOut
      ∧ (s.countLink f).mode = s.mode ∧ (s.countLink f).timeBase = s.timeBase
      ∧ (s.countLink f).notices = s.notices ∧ (s.countLink f).active = s.active
      ∧ (s.countLink f).staging = s.staging ∧ (s.countLink f).store = s.store
      ∧ (s.countLink f).channels = s.channels ∧ (s.countLink f).roster = s.roster
      ∧ (s.countLink f).nextSerial = s.nextSerial ∧ (s.countLink f).trunks = s.trunks
      ∧ (s.countLink f).directives = s.directives := by
  simp [State.countLink]

/-- `State.countTrunk` writes trunks only. -/
@[simp] theorem State.countTrunk_keeps (s : State) (t : TrunkId) (f : TrunkCounters → TrunkCounters) :
    (s.countTrunk t f).pending = s.pending ∧ (s.countTrunk t f).inReset = s.inReset
      ∧ (s.countTrunk t f).holdLow = s.holdLow ∧ (s.countTrunk t f).hcsIsHigh = s.hcsIsHigh
      ∧ (s.countTrunk t f).attnLow = s.attnLow ∧ (s.countTrunk t f).hostOut = s.hostOut
      ∧ (s.countTrunk t f).mode = s.mode ∧ (s.countTrunk t f).timeBase = s.timeBase
      ∧ (s.countTrunk t f).link = s.link ∧ (s.countTrunk t f).notices = s.notices
      ∧ (s.countTrunk t f).active = s.active ∧ (s.countTrunk t f).staging = s.staging
      ∧ (s.countTrunk t f).store = s.store ∧ (s.countTrunk t f).channels = s.channels
      ∧ (s.countTrunk t f).roster = s.roster ∧ (s.countTrunk t f).nextSerial = s.nextSerial
      ∧ (s.countTrunk t f).directives = s.directives := by
  simp [State.countTrunk]

/-- `State.mapStation` writes roster only. -/
@[simp] theorem State.mapStation_keeps (s : State) (i : StationId) (f : Station → Station) :
    (s.mapStation i f).pending = s.pending ∧ (s.mapStation i f).inReset = s.inReset
      ∧ (s.mapStation i f).holdLow = s.holdLow ∧ (s.mapStation i f).hcsIsHigh = s.hcsIsHigh
      ∧ (s.mapStation i f).attnLow = s.attnLow ∧ (s.mapStation i f).hostOut = s.hostOut
      ∧ (s.mapStation i f).mode = s.mode ∧ (s.mapStation i f).timeBase = s.timeBase
      ∧ (s.mapStation i f).link = s.link ∧ (s.mapStation i f).notices = s.notices
      ∧ (s.mapStation i f).active = s.active ∧ (s.mapStation i f).staging = s.staging
      ∧ (s.mapStation i f).store = s.store ∧ (s.mapStation i f).channels = s.channels
      ∧ (s.mapStation i f).nextSerial = s.nextSerial ∧ (s.mapStation i f).trunks = s.trunks
      ∧ (s.mapStation i f).directives = s.directives := by
  simp [State.mapStation]

/-- `State.countStation` writes roster only. -/
@[simp] theorem State.countStation_keeps (s : State) (i : StationId) (f : StationCounters → StationCounters) :
    (s.countStation i f).pending = s.pending ∧ (s.countStation i f).inReset = s.inReset
      ∧ (s.countStation i f).holdLow = s.holdLow ∧ (s.countStation i f).hcsIsHigh = s.hcsIsHigh
      ∧ (s.countStation i f).attnLow = s.attnLow ∧ (s.countStation i f).hostOut = s.hostOut
      ∧ (s.countStation i f).mode = s.mode ∧ (s.countStation i f).timeBase = s.timeBase
      ∧ (s.countStation i f).link = s.link ∧ (s.countStation i f).notices = s.notices
      ∧ (s.countStation i f).active = s.active ∧ (s.countStation i f).staging = s.staging
      ∧ (s.countStation i f).store = s.store ∧ (s.countStation i f).channels = s.channels
      ∧ (s.countStation i f).nextSerial = s.nextSerial ∧ (s.countStation i f).trunks = s.trunks
      ∧ (s.countStation i f).directives = s.directives := by
  simp [State.countStation]

/-- `State.answer` writes link only. -/
@[simp] theorem State.answer_keeps (s : State) (kind tag : Byte) (status : Status) (results : List Byte) :
    (s.answer kind tag status results).pending = s.pending
      ∧ (s.answer kind tag status results).inReset = s.inReset
      ∧ (s.answer kind tag status results).holdLow = s.holdLow
      ∧ (s.answer kind tag status results).hcsIsHigh = s.hcsIsHigh
      ∧ (s.answer kind tag status results).attnLow = s.attnLow
      ∧ (s.answer kind tag status results).hostOut = s.hostOut
      ∧ (s.answer kind tag status results).mode = s.mode
      ∧ (s.answer kind tag status results).timeBase = s.timeBase
      ∧ (s.answer kind tag status results).notices = s.notices
      ∧ (s.answer kind tag status results).active = s.active
      ∧ (s.answer kind tag status results).staging = s.staging
      ∧ (s.answer kind tag status results).store = s.store
      ∧ (s.answer kind tag status results).channels = s.channels
      ∧ (s.answer kind tag status results).roster = s.roster
      ∧ (s.answer kind tag status results).nextSerial = s.nextSerial
      ∧ (s.answer kind tag status results).trunks = s.trunks
      ∧ (s.answer kind tag status results).directives = s.directives := by
  simp [State.answer]

/-- `State.refuse` writes link only. -/
@[simp] theorem State.refuse_keeps (s : State) (kind tag : Byte) (status : Status) :
    (s.refuse kind tag status).pending = s.pending ∧ (s.refuse kind tag status).inReset = s.inReset
      ∧ (s.refuse kind tag status).holdLow = s.holdLow ∧ (s.refuse kind tag status).hcsIsHigh = s.hcsIsHigh
      ∧ (s.refuse kind tag status).attnLow = s.attnLow ∧ (s.refuse kind tag status).hostOut = s.hostOut
      ∧ (s.refuse kind tag status).mode = s.mode ∧ (s.refuse kind tag status).timeBase = s.timeBase
      ∧ (s.refuse kind tag status).notices = s.notices ∧ (s.refuse kind tag status).active = s.active
      ∧ (s.refuse kind tag status).staging = s.staging ∧ (s.refuse kind tag status).store = s.store
      ∧ (s.refuse kind tag status).channels = s.channels ∧ (s.refuse kind tag status).roster = s.roster
      ∧ (s.refuse kind tag status).nextSerial = s.nextSerial ∧ (s.refuse kind tag status).trunks = s.trunks
      ∧ (s.refuse kind tag status).directives = s.directives := by
  unfold State.refuse; split <;> simp

/-- `State.enter` writes link only. -/
@[simp] theorem State.enter_keeps (s : State) (kind tag : Byte) :
    (s.enter kind tag).pending = s.pending ∧ (s.enter kind tag).inReset = s.inReset
      ∧ (s.enter kind tag).holdLow = s.holdLow ∧ (s.enter kind tag).hcsIsHigh = s.hcsIsHigh
      ∧ (s.enter kind tag).attnLow = s.attnLow ∧ (s.enter kind tag).hostOut = s.hostOut
      ∧ (s.enter kind tag).mode = s.mode ∧ (s.enter kind tag).timeBase = s.timeBase
      ∧ (s.enter kind tag).notices = s.notices ∧ (s.enter kind tag).active = s.active
      ∧ (s.enter kind tag).staging = s.staging ∧ (s.enter kind tag).store = s.store
      ∧ (s.enter kind tag).channels = s.channels ∧ (s.enter kind tag).roster = s.roster
      ∧ (s.enter kind tag).nextSerial = s.nextSerial ∧ (s.enter kind tag).trunks = s.trunks
      ∧ (s.enter kind tag).directives = s.directives := by
  simp [State.enter]

/-- `State.transmit` writes link only. -/
@[simp] theorem State.transmit_keeps (s : State) (what : Outgoing) (wire : List Byte) (run : Nat) :
    (s.transmit what wire run).pending = s.pending ∧ (s.transmit what wire run).inReset = s.inReset
      ∧ (s.transmit what wire run).holdLow = s.holdLow ∧ (s.transmit what wire run).hcsIsHigh = s.hcsIsHigh
      ∧ (s.transmit what wire run).attnLow = s.attnLow ∧ (s.transmit what wire run).hostOut = s.hostOut
      ∧ (s.transmit what wire run).mode = s.mode ∧ (s.transmit what wire run).timeBase = s.timeBase
      ∧ (s.transmit what wire run).notices = s.notices ∧ (s.transmit what wire run).active = s.active
      ∧ (s.transmit what wire run).staging = s.staging ∧ (s.transmit what wire run).store = s.store
      ∧ (s.transmit what wire run).channels = s.channels ∧ (s.transmit what wire run).roster = s.roster
      ∧ (s.transmit what wire run).nextSerial = s.nextSerial ∧ (s.transmit what wire run).trunks = s.trunks
      ∧ (s.transmit what wire run).directives = s.directives := by
  simp [State.transmit]

/-- `State.evalMarks` writes notices, channels only. -/
@[simp] theorem State.evalMarks_keeps (s : State) (c : ChannelId) :
    (s.evalMarks c).pending = s.pending ∧ (s.evalMarks c).inReset = s.inReset
      ∧ (s.evalMarks c).holdLow = s.holdLow ∧ (s.evalMarks c).hcsIsHigh = s.hcsIsHigh
      ∧ (s.evalMarks c).attnLow = s.attnLow ∧ (s.evalMarks c).hostOut = s.hostOut
      ∧ (s.evalMarks c).mode = s.mode ∧ (s.evalMarks c).timeBase = s.timeBase ∧ (s.evalMarks c).link = s.link
      ∧ (s.evalMarks c).active = s.active ∧ (s.evalMarks c).staging = s.staging
      ∧ (s.evalMarks c).store = s.store ∧ (s.evalMarks c).roster = s.roster
      ∧ (s.evalMarks c).nextSerial = s.nextSerial ∧ (s.evalMarks c).trunks = s.trunks
      ∧ (s.evalMarks c).directives = s.directives := by
  unfold State.evalMarks; dsimp only; split <;> simp

/-- `State.evalHold` writes channels only. -/
@[simp] theorem State.evalHold_keeps (s : State) (c : ChannelId) :
    (s.evalHold c).pending = s.pending ∧ (s.evalHold c).inReset = s.inReset
      ∧ (s.evalHold c).holdLow = s.holdLow ∧ (s.evalHold c).hcsIsHigh = s.hcsIsHigh
      ∧ (s.evalHold c).attnLow = s.attnLow ∧ (s.evalHold c).hostOut = s.hostOut
      ∧ (s.evalHold c).mode = s.mode ∧ (s.evalHold c).timeBase = s.timeBase ∧ (s.evalHold c).link = s.link
      ∧ (s.evalHold c).notices = s.notices ∧ (s.evalHold c).active = s.active
      ∧ (s.evalHold c).staging = s.staging ∧ (s.evalHold c).store = s.store
      ∧ (s.evalHold c).roster = s.roster ∧ (s.evalHold c).nextSerial = s.nextSerial
      ∧ (s.evalHold c).trunks = s.trunks ∧ (s.evalHold c).directives = s.directives := by
  simp [State.evalHold]

/-- `State.evalReady` writes channels only. -/
@[simp] theorem State.evalReady_keeps (s : State) (c : ChannelId) :
    (s.evalReady c).pending = s.pending ∧ (s.evalReady c).inReset = s.inReset
      ∧ (s.evalReady c).holdLow = s.holdLow ∧ (s.evalReady c).hcsIsHigh = s.hcsIsHigh
      ∧ (s.evalReady c).attnLow = s.attnLow ∧ (s.evalReady c).hostOut = s.hostOut
      ∧ (s.evalReady c).mode = s.mode ∧ (s.evalReady c).timeBase = s.timeBase ∧ (s.evalReady c).link = s.link
      ∧ (s.evalReady c).notices = s.notices ∧ (s.evalReady c).active = s.active
      ∧ (s.evalReady c).staging = s.staging ∧ (s.evalReady c).store = s.store
      ∧ (s.evalReady c).roster = s.roster ∧ (s.evalReady c).nextSerial = s.nextSerial
      ∧ (s.evalReady c).trunks = s.trunks ∧ (s.evalReady c).directives = s.directives := by
  simp [State.evalReady]

/-- `State.evalChannel` writes notices, channels only. -/
@[simp] theorem State.evalChannel_keeps (s : State) (c : ChannelId) :
    (s.evalChannel c).pending = s.pending ∧ (s.evalChannel c).inReset = s.inReset
      ∧ (s.evalChannel c).holdLow = s.holdLow ∧ (s.evalChannel c).hcsIsHigh = s.hcsIsHigh
      ∧ (s.evalChannel c).attnLow = s.attnLow ∧ (s.evalChannel c).hostOut = s.hostOut
      ∧ (s.evalChannel c).mode = s.mode ∧ (s.evalChannel c).timeBase = s.timeBase
      ∧ (s.evalChannel c).link = s.link ∧ (s.evalChannel c).active = s.active
      ∧ (s.evalChannel c).staging = s.staging ∧ (s.evalChannel c).store = s.store
      ∧ (s.evalChannel c).roster = s.roster ∧ (s.evalChannel c).nextSerial = s.nextSerial
      ∧ (s.evalChannel c).trunks = s.trunks ∧ (s.evalChannel c).directives = s.directives := by
  simp [State.evalChannel]

/-- `State.flushQueue` writes store, channels only. -/
@[simp] theorem State.flushQueue_keeps (s : State) (c : ChannelId) :
    (s.flushQueue c).pending = s.pending ∧ (s.flushQueue c).inReset = s.inReset
      ∧ (s.flushQueue c).holdLow = s.holdLow ∧ (s.flushQueue c).hcsIsHigh = s.hcsIsHigh
      ∧ (s.flushQueue c).attnLow = s.attnLow ∧ (s.flushQueue c).hostOut = s.hostOut
      ∧ (s.flushQueue c).mode = s.mode ∧ (s.flushQueue c).timeBase = s.timeBase ∧ (s.flushQueue c).link = s.link
      ∧ (s.flushQueue c).notices = s.notices ∧ (s.flushQueue c).active = s.active
      ∧ (s.flushQueue c).staging = s.staging ∧ (s.flushQueue c).roster = s.roster
      ∧ (s.flushQueue c).nextSerial = s.nextSerial ∧ (s.flushQueue c).trunks = s.trunks
      ∧ (s.flushQueue c).directives = s.directives := by
  simp [State.flushQueue]

/-- `State.completeBatch` writes store, channels only. -/
@[simp] theorem State.completeBatch_keeps (s : State) (c : ChannelId) :
    (s.completeBatch c).pending = s.pending ∧ (s.completeBatch c).inReset = s.inReset
      ∧ (s.completeBatch c).holdLow = s.holdLow ∧ (s.completeBatch c).hcsIsHigh = s.hcsIsHigh
      ∧ (s.completeBatch c).attnLow = s.attnLow ∧ (s.completeBatch c).hostOut = s.hostOut
      ∧ (s.completeBatch c).mode = s.mode ∧ (s.completeBatch c).timeBase = s.timeBase
      ∧ (s.completeBatch c).link = s.link ∧ (s.completeBatch c).notices = s.notices
      ∧ (s.completeBatch c).active = s.active ∧ (s.completeBatch c).staging = s.staging
      ∧ (s.completeBatch c).roster = s.roster ∧ (s.completeBatch c).nextSerial = s.nextSerial
      ∧ (s.completeBatch c).trunks = s.trunks ∧ (s.completeBatch c).directives = s.directives := by
  simp [State.completeBatch]

/-- `State.sendReply` writes link only. -/
@[simp] theorem State.sendReply_keeps (s : State) (chained : Bool) (r : Reply) :
    (s.sendReply chained r).pending = s.pending ∧ (s.sendReply chained r).inReset = s.inReset
      ∧ (s.sendReply chained r).holdLow = s.holdLow ∧ (s.sendReply chained r).hcsIsHigh = s.hcsIsHigh
      ∧ (s.sendReply chained r).attnLow = s.attnLow ∧ (s.sendReply chained r).hostOut = s.hostOut
      ∧ (s.sendReply chained r).mode = s.mode ∧ (s.sendReply chained r).timeBase = s.timeBase
      ∧ (s.sendReply chained r).notices = s.notices ∧ (s.sendReply chained r).active = s.active
      ∧ (s.sendReply chained r).staging = s.staging ∧ (s.sendReply chained r).store = s.store
      ∧ (s.sendReply chained r).channels = s.channels ∧ (s.sendReply chained r).roster = s.roster
      ∧ (s.sendReply chained r).nextSerial = s.nextSerial ∧ (s.sendReply chained r).trunks = s.trunks
      ∧ (s.sendReply chained r).directives = s.directives := by
  simp [State.sendReply]

/-- `State.sendNotice` writes link, notices only. -/
@[simp] theorem State.sendNotice_keeps (s : State) (chained : Bool) (e : NoticeEntry) (rest : List NoticeEntry) :
    (s.sendNotice chained e rest).pending = s.pending ∧ (s.sendNotice chained e rest).inReset = s.inReset
      ∧ (s.sendNotice chained e rest).holdLow = s.holdLow
      ∧ (s.sendNotice chained e rest).hcsIsHigh = s.hcsIsHigh
      ∧ (s.sendNotice chained e rest).attnLow = s.attnLow ∧ (s.sendNotice chained e rest).hostOut = s.hostOut
      ∧ (s.sendNotice chained e rest).mode = s.mode ∧ (s.sendNotice chained e rest).timeBase = s.timeBase
      ∧ (s.sendNotice chained e rest).active = s.active ∧ (s.sendNotice chained e rest).staging = s.staging
      ∧ (s.sendNotice chained e rest).store = s.store ∧ (s.sendNotice chained e rest).channels = s.channels
      ∧ (s.sendNotice chained e rest).roster = s.roster
      ∧ (s.sendNotice chained e rest).nextSerial = s.nextSerial
      ∧ (s.sendNotice chained e rest).trunks = s.trunks
      ∧ (s.sendNotice chained e rest).directives = s.directives := by
  simp [State.sendNotice]

/-- `State.sendBatch` writes link, notices, channels only. -/
@[simp] theorem State.sendBatch_keeps (s : State) (chained : Bool) (c : ChannelId) :
    (s.sendBatch chained c).pending = s.pending ∧ (s.sendBatch chained c).inReset = s.inReset
      ∧ (s.sendBatch chained c).holdLow = s.holdLow ∧ (s.sendBatch chained c).hcsIsHigh = s.hcsIsHigh
      ∧ (s.sendBatch chained c).attnLow = s.attnLow ∧ (s.sendBatch chained c).hostOut = s.hostOut
      ∧ (s.sendBatch chained c).mode = s.mode ∧ (s.sendBatch chained c).timeBase = s.timeBase
      ∧ (s.sendBatch chained c).active = s.active ∧ (s.sendBatch chained c).staging = s.staging
      ∧ (s.sendBatch chained c).store = s.store ∧ (s.sendBatch chained c).roster = s.roster
      ∧ (s.sendBatch chained c).nextSerial = s.nextSerial ∧ (s.sendBatch chained c).trunks = s.trunks
      ∧ (s.sendBatch chained c).directives = s.directives := by
  simp [State.sendBatch]

/-- `State.withdrawOffer` writes channels only. -/
@[simp] theorem State.withdrawOffer_keeps (s : State) (c : ChannelId) :
    (s.withdrawOffer c).pending = s.pending ∧ (s.withdrawOffer c).inReset = s.inReset
      ∧ (s.withdrawOffer c).holdLow = s.holdLow ∧ (s.withdrawOffer c).hcsIsHigh = s.hcsIsHigh
      ∧ (s.withdrawOffer c).attnLow = s.attnLow ∧ (s.withdrawOffer c).hostOut = s.hostOut
      ∧ (s.withdrawOffer c).mode = s.mode ∧ (s.withdrawOffer c).timeBase = s.timeBase
      ∧ (s.withdrawOffer c).link = s.link ∧ (s.withdrawOffer c).notices = s.notices
      ∧ (s.withdrawOffer c).active = s.active ∧ (s.withdrawOffer c).staging = s.staging
      ∧ (s.withdrawOffer c).store = s.store ∧ (s.withdrawOffer c).roster = s.roster
      ∧ (s.withdrawOffer c).nextSerial = s.nextSerial ∧ (s.withdrawOffer c).trunks = s.trunks
      ∧ (s.withdrawOffer c).directives = s.directives := by
  simp [State.withdrawOffer]

/-- A pick writes the link, the notices and the channels only. -/
@[simp] theorem State.pick_keeps (chained : Bool) (fuel : Nat) : ∀ s : State,
    (State.pick chained fuel s).pending = s.pending
      ∧ (State.pick chained fuel s).inReset = s.inReset
      ∧ (State.pick chained fuel s).holdLow = s.holdLow
      ∧ (State.pick chained fuel s).hcsIsHigh = s.hcsIsHigh
      ∧ (State.pick chained fuel s).attnLow = s.attnLow
      ∧ (State.pick chained fuel s).hostOut = s.hostOut
      ∧ (State.pick chained fuel s).mode = s.mode
      ∧ (State.pick chained fuel s).timeBase = s.timeBase
      ∧ (State.pick chained fuel s).active = s.active
      ∧ (State.pick chained fuel s).staging = s.staging
      ∧ (State.pick chained fuel s).store = s.store
      ∧ (State.pick chained fuel s).roster = s.roster
      ∧ (State.pick chained fuel s).nextSerial = s.nextSerial
      ∧ (State.pick chained fuel s).trunks = s.trunks
      ∧ (State.pick chained fuel s).directives = s.directives := by
  induction fuel with
  | zero => intro s; simp [State.pick]
  | succ fuel ih =>
    intro s
    unfold State.pick
    dsimp only
    split <;> split <;> (try split) <;> (try split) <;> (try split) <;> simp [ih]

/-- `State.arbitrate` writes link, notices, channels only. -/
@[simp] theorem State.arbitrate_keeps (s : State) (chained : Bool) :
    (s.arbitrate chained).pending = s.pending ∧ (s.arbitrate chained).inReset = s.inReset
      ∧ (s.arbitrate chained).holdLow = s.holdLow ∧ (s.arbitrate chained).hcsIsHigh = s.hcsIsHigh
      ∧ (s.arbitrate chained).attnLow = s.attnLow ∧ (s.arbitrate chained).hostOut = s.hostOut
      ∧ (s.arbitrate chained).mode = s.mode ∧ (s.arbitrate chained).timeBase = s.timeBase
      ∧ (s.arbitrate chained).active = s.active ∧ (s.arbitrate chained).staging = s.staging
      ∧ (s.arbitrate chained).store = s.store ∧ (s.arbitrate chained).roster = s.roster
      ∧ (s.arbitrate chained).nextSerial = s.nextSerial ∧ (s.arbitrate chained).trunks = s.trunks
      ∧ (s.arbitrate chained).directives = s.directives := by
  unfold State.arbitrate; split <;> simp

/-- `State.finish` writes attnLow, hostOut, link, notices, channels only. -/
@[simp] theorem State.finish_keeps (s : State) (chained : Bool) :
    (s.finish chained).pending = s.pending ∧ (s.finish chained).inReset = s.inReset
      ∧ (s.finish chained).holdLow = s.holdLow ∧ (s.finish chained).hcsIsHigh = s.hcsIsHigh
      ∧ (s.finish chained).mode = s.mode ∧ (s.finish chained).timeBase = s.timeBase
      ∧ (s.finish chained).active = s.active ∧ (s.finish chained).staging = s.staging
      ∧ (s.finish chained).store = s.store ∧ (s.finish chained).roster = s.roster
      ∧ (s.finish chained).nextSerial = s.nextSerial ∧ (s.finish chained).trunks = s.trunks
      ∧ (s.finish chained).directives = s.directives := by
  simp [State.finish, State.drivePins]

/-- `State.setStage` writes trunks only. -/
@[simp] theorem State.setStage_keeps (s : State) (t : TrunkId) (turn : Turn) (stage : TurnStage) :
    (s.setStage t turn stage).pending = s.pending ∧ (s.setStage t turn stage).inReset = s.inReset
      ∧ (s.setStage t turn stage).holdLow = s.holdLow ∧ (s.setStage t turn stage).hcsIsHigh = s.hcsIsHigh
      ∧ (s.setStage t turn stage).attnLow = s.attnLow ∧ (s.setStage t turn stage).hostOut = s.hostOut
      ∧ (s.setStage t turn stage).mode = s.mode ∧ (s.setStage t turn stage).timeBase = s.timeBase
      ∧ (s.setStage t turn stage).link = s.link ∧ (s.setStage t turn stage).notices = s.notices
      ∧ (s.setStage t turn stage).active = s.active ∧ (s.setStage t turn stage).staging = s.staging
      ∧ (s.setStage t turn stage).store = s.store ∧ (s.setStage t turn stage).channels = s.channels
      ∧ (s.setStage t turn stage).roster = s.roster ∧ (s.setStage t turn stage).nextSerial = s.nextSerial
      ∧ (s.setStage t turn stage).directives = s.directives := by
  simp [State.setStage]

/-- `State.setPhase` writes trunks only. -/
@[simp] theorem State.setPhase_keeps (s : State) (t : TrunkId) (phase : Phase) :
    (s.setPhase t phase).pending = s.pending ∧ (s.setPhase t phase).inReset = s.inReset
      ∧ (s.setPhase t phase).holdLow = s.holdLow ∧ (s.setPhase t phase).hcsIsHigh = s.hcsIsHigh
      ∧ (s.setPhase t phase).attnLow = s.attnLow ∧ (s.setPhase t phase).hostOut = s.hostOut
      ∧ (s.setPhase t phase).mode = s.mode ∧ (s.setPhase t phase).timeBase = s.timeBase
      ∧ (s.setPhase t phase).link = s.link ∧ (s.setPhase t phase).notices = s.notices
      ∧ (s.setPhase t phase).active = s.active ∧ (s.setPhase t phase).staging = s.staging
      ∧ (s.setPhase t phase).store = s.store ∧ (s.setPhase t phase).channels = s.channels
      ∧ (s.setPhase t phase).roster = s.roster ∧ (s.setPhase t phase).nextSerial = s.nextSerial
      ∧ (s.setPhase t phase).directives = s.directives := by
  simp [State.setPhase]

/-- `State.beginSettling` writes trunks only. -/
@[simp] theorem State.beginSettling_keeps (s : State) (t : TrunkId) :
    (s.beginSettling t).pending = s.pending ∧ (s.beginSettling t).inReset = s.inReset
      ∧ (s.beginSettling t).holdLow = s.holdLow ∧ (s.beginSettling t).hcsIsHigh = s.hcsIsHigh
      ∧ (s.beginSettling t).attnLow = s.attnLow ∧ (s.beginSettling t).hostOut = s.hostOut
      ∧ (s.beginSettling t).mode = s.mode ∧ (s.beginSettling t).timeBase = s.timeBase
      ∧ (s.beginSettling t).link = s.link ∧ (s.beginSettling t).notices = s.notices
      ∧ (s.beginSettling t).active = s.active ∧ (s.beginSettling t).staging = s.staging
      ∧ (s.beginSettling t).store = s.store ∧ (s.beginSettling t).channels = s.channels
      ∧ (s.beginSettling t).roster = s.roster ∧ (s.beginSettling t).nextSerial = s.nextSerial
      ∧ (s.beginSettling t).directives = s.directives := by
  simp [State.beginSettling]

/-- `State.completeDirective` writes notices, directives only. -/
@[simp] theorem State.completeDirective_keeps (s : State) (d : Directive) (o : DirectiveOutcome) (r : Byte) (n : Nat) :
    (s.completeDirective d o r n).pending = s.pending ∧ (s.completeDirective d o r n).inReset = s.inReset
      ∧ (s.completeDirective d o r n).holdLow = s.holdLow
      ∧ (s.completeDirective d o r n).hcsIsHigh = s.hcsIsHigh
      ∧ (s.completeDirective d o r n).attnLow = s.attnLow ∧ (s.completeDirective d o r n).hostOut = s.hostOut
      ∧ (s.completeDirective d o r n).mode = s.mode ∧ (s.completeDirective d o r n).timeBase = s.timeBase
      ∧ (s.completeDirective d o r n).link = s.link ∧ (s.completeDirective d o r n).active = s.active
      ∧ (s.completeDirective d o r n).staging = s.staging ∧ (s.completeDirective d o r n).store = s.store
      ∧ (s.completeDirective d o r n).channels = s.channels ∧ (s.completeDirective d o r n).roster = s.roster
      ∧ (s.completeDirective d o r n).nextSerial = s.nextSerial
      ∧ (s.completeDirective d o r n).trunks = s.trunks := by
  simp [State.completeDirective]

/-- `State.unacknowledged` writes notices, directives only. -/
@[simp] theorem State.unacknowledged_keeps (s : State) (d : Directive) (mark : Bool) :
    (s.unacknowledged d mark).pending = s.pending ∧ (s.unacknowledged d mark).inReset = s.inReset
      ∧ (s.unacknowledged d mark).holdLow = s.holdLow ∧ (s.unacknowledged d mark).hcsIsHigh = s.hcsIsHigh
      ∧ (s.unacknowledged d mark).attnLow = s.attnLow ∧ (s.unacknowledged d mark).hostOut = s.hostOut
      ∧ (s.unacknowledged d mark).mode = s.mode ∧ (s.unacknowledged d mark).timeBase = s.timeBase
      ∧ (s.unacknowledged d mark).link = s.link ∧ (s.unacknowledged d mark).active = s.active
      ∧ (s.unacknowledged d mark).staging = s.staging ∧ (s.unacknowledged d mark).store = s.store
      ∧ (s.unacknowledged d mark).channels = s.channels ∧ (s.unacknowledged d mark).roster = s.roster
      ∧ (s.unacknowledged d mark).nextSerial = s.nextSerial ∧ (s.unacknowledged d mark).trunks = s.trunks := by
  unfold State.unacknowledged; split <;> (try split) <;> simp

/-- `State.settle` writes notices, directives only. -/
@[simp] theorem State.settle_keeps (s : State) (turn : Turn) (ack : Option (Byte × Byte)) :
    (s.settle turn ack).pending = s.pending ∧ (s.settle turn ack).inReset = s.inReset
      ∧ (s.settle turn ack).holdLow = s.holdLow ∧ (s.settle turn ack).hcsIsHigh = s.hcsIsHigh
      ∧ (s.settle turn ack).attnLow = s.attnLow ∧ (s.settle turn ack).hostOut = s.hostOut
      ∧ (s.settle turn ack).mode = s.mode ∧ (s.settle turn ack).timeBase = s.timeBase
      ∧ (s.settle turn ack).link = s.link ∧ (s.settle turn ack).active = s.active
      ∧ (s.settle turn ack).staging = s.staging ∧ (s.settle turn ack).store = s.store
      ∧ (s.settle turn ack).channels = s.channels ∧ (s.settle turn ack).roster = s.roster
      ∧ (s.settle turn ack).nextSerial = s.nextSerial ∧ (s.settle turn ack).trunks = s.trunks := by
  unfold State.settle; split <;> (try split) <;> (try split) <;> simp

/-- What a fold's every step keeps, the fold keeps. -/
theorem foldl_keeps {σ α β : Type} (g : σ → β) (f : σ → α → σ) (h : ∀ s a, g (f s a) = g s) (l : List α) :
    ∀ s, g (l.foldl f s) = g s := by
  induction l with
  | nil => intro s; rfl
  | cons a l ih => intro s; rw [List.foldl_cons, ih, h]

/-- `State.abortDirectives` writes notices, directives only. -/
@[simp] theorem State.abortDirectives_keeps (s : State) (i : StationId) :
    (s.abortDirectives i).pending = s.pending ∧ (s.abortDirectives i).inReset = s.inReset
      ∧ (s.abortDirectives i).holdLow = s.holdLow ∧ (s.abortDirectives i).hcsIsHigh = s.hcsIsHigh
      ∧ (s.abortDirectives i).attnLow = s.attnLow ∧ (s.abortDirectives i).hostOut = s.hostOut
      ∧ (s.abortDirectives i).mode = s.mode ∧ (s.abortDirectives i).timeBase = s.timeBase
      ∧ (s.abortDirectives i).link = s.link ∧ (s.abortDirectives i).active = s.active
      ∧ (s.abortDirectives i).staging = s.staging ∧ (s.abortDirectives i).store = s.store
      ∧ (s.abortDirectives i).channels = s.channels ∧ (s.abortDirectives i).roster = s.roster
      ∧ (s.abortDirectives i).nextSerial = s.nextSerial ∧ (s.abortDirectives i).trunks = s.trunks := by
  unfold State.abortDirectives
  refine ⟨?_, ?_, ?_, ?_, ?_, ?_, ?_, ?_, ?_, ?_, ?_, ?_, ?_, ?_, ?_, ?_⟩ <;> exact foldl_keeps _ _ (fun s a => by simp) _ s

/-- `State.freeStation` writes notices, roster, directives only. -/
@[simp] theorem State.freeStation_keeps (s : State) (i : StationId) :
    (s.freeStation i).pending = s.pending ∧ (s.freeStation i).inReset = s.inReset
      ∧ (s.freeStation i).holdLow = s.holdLow ∧ (s.freeStation i).hcsIsHigh = s.hcsIsHigh
      ∧ (s.freeStation i).attnLow = s.attnLow ∧ (s.freeStation i).hostOut = s.hostOut
      ∧ (s.freeStation i).mode = s.mode ∧ (s.freeStation i).timeBase = s.timeBase
      ∧ (s.freeStation i).link = s.link ∧ (s.freeStation i).active = s.active
      ∧ (s.freeStation i).staging = s.staging ∧ (s.freeStation i).store = s.store
      ∧ (s.freeStation i).channels = s.channels ∧ (s.freeStation i).nextSerial = s.nextSerial
      ∧ (s.freeStation i).trunks = s.trunks := by
  simp [State.freeStation]

/-- `State.completeRemoval` writes link, notices, roster, directives only. -/
@[simp] theorem State.completeRemoval_keeps (s : State) (i : StationId) (st : Station) :
    (s.completeRemoval i st).pending = s.pending ∧ (s.completeRemoval i st).inReset = s.inReset
      ∧ (s.completeRemoval i st).holdLow = s.holdLow ∧ (s.completeRemoval i st).hcsIsHigh = s.hcsIsHigh
      ∧ (s.completeRemoval i st).attnLow = s.attnLow ∧ (s.completeRemoval i st).hostOut = s.hostOut
      ∧ (s.completeRemoval i st).mode = s.mode ∧ (s.completeRemoval i st).timeBase = s.timeBase
      ∧ (s.completeRemoval i st).active = s.active ∧ (s.completeRemoval i st).staging = s.staging
      ∧ (s.completeRemoval i st).store = s.store ∧ (s.completeRemoval i st).channels = s.channels
      ∧ (s.completeRemoval i st).nextSerial = s.nextSerial ∧ (s.completeRemoval i st).trunks = s.trunks := by
  unfold State.completeRemoval; split <;> simp

/-- `State.groundStation` writes link, notices, roster, directives only. -/
@[simp] theorem State.groundStation_keeps (s : State) (t : TrunkId) (i : StationId) :
    (State.groundStation t s i).pending = s.pending ∧ (State.groundStation t s i).inReset = s.inReset
      ∧ (State.groundStation t s i).holdLow = s.holdLow ∧ (State.groundStation t s i).hcsIsHigh = s.hcsIsHigh
      ∧ (State.groundStation t s i).attnLow = s.attnLow ∧ (State.groundStation t s i).hostOut = s.hostOut
      ∧ (State.groundStation t s i).mode = s.mode ∧ (State.groundStation t s i).timeBase = s.timeBase
      ∧ (State.groundStation t s i).active = s.active ∧ (State.groundStation t s i).staging = s.staging
      ∧ (State.groundStation t s i).store = s.store ∧ (State.groundStation t s i).channels = s.channels
      ∧ (State.groundStation t s i).nextSerial = s.nextSerial ∧ (State.groundStation t s i).trunks = s.trunks := by
  unfold State.groundStation; split <;> (try split) <;> (try split) <;> simp

/-- `State.groundStations` writes link, notices, roster, directives only. -/
@[simp] theorem State.groundStations_keeps (s : State) (t : TrunkId) :
    (s.groundStations t).pending = s.pending ∧ (s.groundStations t).inReset = s.inReset
      ∧ (s.groundStations t).holdLow = s.holdLow ∧ (s.groundStations t).hcsIsHigh = s.hcsIsHigh
      ∧ (s.groundStations t).attnLow = s.attnLow ∧ (s.groundStations t).hostOut = s.hostOut
      ∧ (s.groundStations t).mode = s.mode ∧ (s.groundStations t).timeBase = s.timeBase
      ∧ (s.groundStations t).active = s.active ∧ (s.groundStations t).staging = s.staging
      ∧ (s.groundStations t).store = s.store ∧ (s.groundStations t).channels = s.channels
      ∧ (s.groundStations t).nextSerial = s.nextSerial ∧ (s.groundStations t).trunks = s.trunks := by
  unfold State.groundStations
  refine ⟨?_, ?_, ?_, ?_, ?_, ?_, ?_, ?_, ?_, ?_, ?_, ?_, ?_, ?_⟩ <;> exact foldl_keeps _ _ (fun s a => by simp) _ s

/-- `State.acceptRecord` writes notices, roster only. -/
@[simp] theorem State.acceptRecord_keeps (s : State) (i : StationId) (seq : Byte) (gap : Nat) :
    (s.acceptRecord i seq gap).pending = s.pending ∧ (s.acceptRecord i seq gap).inReset = s.inReset
      ∧ (s.acceptRecord i seq gap).holdLow = s.holdLow ∧ (s.acceptRecord i seq gap).hcsIsHigh = s.hcsIsHigh
      ∧ (s.acceptRecord i seq gap).attnLow = s.attnLow ∧ (s.acceptRecord i seq gap).hostOut = s.hostOut
      ∧ (s.acceptRecord i seq gap).mode = s.mode ∧ (s.acceptRecord i seq gap).timeBase = s.timeBase
      ∧ (s.acceptRecord i seq gap).link = s.link ∧ (s.acceptRecord i seq gap).active = s.active
      ∧ (s.acceptRecord i seq gap).staging = s.staging ∧ (s.acceptRecord i seq gap).store = s.store
      ∧ (s.acceptRecord i seq gap).channels = s.channels ∧ (s.acceptRecord i seq gap).nextSerial = s.nextSerial
      ∧ (s.acceptRecord i seq gap).trunks = s.trunks ∧ (s.acceptRecord i seq gap).directives = s.directives := by
  unfold State.acceptRecord; dsimp only; split <;> simp

/-- `State.outcome` writes active only. -/
@[simp] theorem State.outcome_keeps (s : State) (actedUpon : Bool) (generation : Nat) (applied : List RuleId) :
    (s.outcome actedUpon generation applied).pending = s.pending
      ∧ (s.outcome actedUpon generation applied).inReset = s.inReset
      ∧ (s.outcome actedUpon generation applied).holdLow = s.holdLow
      ∧ (s.outcome actedUpon generation applied).hcsIsHigh = s.hcsIsHigh
      ∧ (s.outcome actedUpon generation applied).attnLow = s.attnLow
      ∧ (s.outcome actedUpon generation applied).hostOut = s.hostOut
      ∧ (s.outcome actedUpon generation applied).mode = s.mode
      ∧ (s.outcome actedUpon generation applied).timeBase = s.timeBase
      ∧ (s.outcome actedUpon generation applied).link = s.link
      ∧ (s.outcome actedUpon generation applied).notices = s.notices
      ∧ (s.outcome actedUpon generation applied).staging = s.staging
      ∧ (s.outcome actedUpon generation applied).store = s.store
      ∧ (s.outcome actedUpon generation applied).channels = s.channels
      ∧ (s.outcome actedUpon generation applied).roster = s.roster
      ∧ (s.outcome actedUpon generation applied).nextSerial = s.nextSerial
      ∧ (s.outcome actedUpon generation applied).trunks = s.trunks
      ∧ (s.outcome actedUpon generation applied).directives = s.directives := by
  simp [State.outcome]

/-- `State.evictHead` writes store, channels only. -/
@[simp] theorem State.evictHead_keeps (s : State) (c : ChannelId) :
    (s.evictHead c).pending = s.pending ∧ (s.evictHead c).inReset = s.inReset
      ∧ (s.evictHead c).holdLow = s.holdLow ∧ (s.evictHead c).hcsIsHigh = s.hcsIsHigh
      ∧ (s.evictHead c).attnLow = s.attnLow ∧ (s.evictHead c).hostOut = s.hostOut
      ∧ (s.evictHead c).mode = s.mode ∧ (s.evictHead c).timeBase = s.timeBase ∧ (s.evictHead c).link = s.link
      ∧ (s.evictHead c).notices = s.notices ∧ (s.evictHead c).active = s.active
      ∧ (s.evictHead c).staging = s.staging ∧ (s.evictHead c).roster = s.roster
      ∧ (s.evictHead c).nextSerial = s.nextSerial ∧ (s.evictHead c).trunks = s.trunks
      ∧ (s.evictHead c).directives = s.directives := by
  unfold State.evictHead; split <;> simp

/-- `State.appendEntries` writes channels only. -/
@[simp] theorem State.appendEntries_keeps (s : State) (i : SlotId) (channels : List ChannelId) :
    (s.appendEntries i channels).pending = s.pending ∧ (s.appendEntries i channels).inReset = s.inReset
      ∧ (s.appendEntries i channels).holdLow = s.holdLow ∧ (s.appendEntries i channels).hcsIsHigh = s.hcsIsHigh
      ∧ (s.appendEntries i channels).attnLow = s.attnLow ∧ (s.appendEntries i channels).hostOut = s.hostOut
      ∧ (s.appendEntries i channels).mode = s.mode ∧ (s.appendEntries i channels).timeBase = s.timeBase
      ∧ (s.appendEntries i channels).link = s.link ∧ (s.appendEntries i channels).notices = s.notices
      ∧ (s.appendEntries i channels).active = s.active ∧ (s.appendEntries i channels).staging = s.staging
      ∧ (s.appendEntries i channels).store = s.store ∧ (s.appendEntries i channels).roster = s.roster
      ∧ (s.appendEntries i channels).nextSerial = s.nextSerial ∧ (s.appendEntries i channels).trunks = s.trunks
      ∧ (s.appendEntries i channels).directives = s.directives := by
  unfold State.appendEntries
  refine ⟨?_, ?_, ?_, ?_, ?_, ?_, ?_, ?_, ?_, ?_, ?_, ?_, ?_, ?_, ?_, ?_, ?_⟩ <;> exact foldl_keeps _ _ (fun s a => by simp) _ s

/-- `State.storeRecord` writes store, channels only. -/
@[simp] theorem State.storeRecord_keeps (s : State) (r : Record) (i : SlotId) (channels : List ChannelId) :
    (s.storeRecord r i channels).pending = s.pending ∧ (s.storeRecord r i channels).inReset = s.inReset
      ∧ (s.storeRecord r i channels).holdLow = s.holdLow ∧ (s.storeRecord r i channels).hcsIsHigh = s.hcsIsHigh
      ∧ (s.storeRecord r i channels).attnLow = s.attnLow ∧ (s.storeRecord r i channels).hostOut = s.hostOut
      ∧ (s.storeRecord r i channels).mode = s.mode ∧ (s.storeRecord r i channels).timeBase = s.timeBase
      ∧ (s.storeRecord r i channels).link = s.link ∧ (s.storeRecord r i channels).notices = s.notices
      ∧ (s.storeRecord r i channels).active = s.active ∧ (s.storeRecord r i channels).staging = s.staging
      ∧ (s.storeRecord r i channels).roster = s.roster ∧ (s.storeRecord r i channels).nextSerial = s.nextSerial
      ∧ (s.storeRecord r i channels).trunks = s.trunks ∧ (s.storeRecord r i channels).directives = s.directives := by
  simp [State.storeRecord]

/-- `State.reportLoss` writes notices, channels only. -/
@[simp] theorem State.reportLoss_keeps (s : State) (p : ChannelId × Loss) :
    (s.reportLoss p).pending = s.pending ∧ (s.reportLoss p).inReset = s.inReset
      ∧ (s.reportLoss p).holdLow = s.holdLow ∧ (s.reportLoss p).hcsIsHigh = s.hcsIsHigh
      ∧ (s.reportLoss p).attnLow = s.attnLow ∧ (s.reportLoss p).hostOut = s.hostOut
      ∧ (s.reportLoss p).mode = s.mode ∧ (s.reportLoss p).timeBase = s.timeBase ∧ (s.reportLoss p).link = s.link
      ∧ (s.reportLoss p).active = s.active ∧ (s.reportLoss p).staging = s.staging
      ∧ (s.reportLoss p).store = s.store ∧ (s.reportLoss p).roster = s.roster
      ∧ (s.reportLoss p).nextSerial = s.nextSerial ∧ (s.reportLoss p).trunks = s.trunks
      ∧ (s.reportLoss p).directives = s.directives := by
  unfold State.reportLoss; split <;> simp

/-- The full-queue step of an admission writes the store and the channels only. -/
theorem Admission.fullQueues_keeps (β : Type) (g : State → β) (h : ∀ s c, g (State.evictHead s c) = g s) :
    ∀ (cs : List ChannelId) (a : Admission), g (Admission.fullQueues cs a).state = g a.state
  | [], _ => rfl
  | c :: cs, a => by
    unfold Admission.fullQueues
    split
    · split <;> rw [Admission.fullQueues_keeps β g h cs]; exact h _ _
    · exact Admission.fullQueues_keeps β g h cs a

/-- The evictions for a slot write the store and the channels only. -/
theorem Admission.makeRoom_keeps (β : Type) (g : State → β) (h : ∀ s c, g (State.evictHead s c) = g s) :
    ∀ (fuel : Nat) (a : Admission), g (Admission.makeRoom fuel a).state = g a.state
  | 0, _ => rfl
  | fuel + 1, a => by
    unfold Admission.makeRoom
    split
    · rfl
    · split
      · rw [Admission.makeRoom_keeps β g h fuel]; exact h _ _
      · rfl

/-- What evictions, appended entries, losses and evaluations keep, an admission that is not deferred keeps. -/
theorem Admission.conclude_keeps (β : Type) (g : State → β) (h2 : ∀ s c, g (State.evalChannel s c) = g s)
    (h3 : ∀ s p, g (State.reportLoss s p) = g s) (a : Admission) (stored : Bool) :
    g (a.conclude stored) = g a.state := by
  unfold Admission.conclude
  rw [foldl_keeps g _ h2, foldl_keeps g _ h3]

/-- What the parts of an admission keep, the admission keeps. -/
theorem State.takeAdmission_keeps_of (β : Type) (g : State → β) (h1 : ∀ s c, g (State.evictHead s c) = g s)
    (h2 : ∀ s c, g (State.evalChannel s c) = g s) (h3 : ∀ s p, g (State.reportLoss s p) = g s)
    (h4 : ∀ s r i cs, g (State.storeRecord s r i cs) = g s) (h5 : ∀ s f, g (State.countLink s f) = g s)
    (s : State) (r : Record) (channels : List ChannelId) : g (s.takeAdmission r channels).2 = g s := by
  have hs : (s.beginAdmission channels).state = s := rfl
  have hp : ∀ a : Admission, g (a.place r).2.state = g a.state := by
    intro a; unfold Admission.place; split
    · exact h4 _ _ _ _
    · rfl
  unfold State.takeAdmission
  dsimp only
  split
  · rw [h5, Admission.conclude_keeps β g h2 h3, hs]
  · split
    · rfl
    · split
      · rw [Admission.conclude_keeps β g h2 h3, Admission.fullQueues_keeps β g h1, hs]
      · rw [Admission.conclude_keeps β g h2 h3, hp, Admission.makeRoom_keeps β g h1,
          Admission.fullQueues_keeps β g h1, hs]

/-- `State.takeAdmission` writes link, notices, store, channels only. -/
@[simp] theorem State.takeAdmission_keeps (s : State) (r : Record) (channels : List ChannelId) :
    ((s.takeAdmission r channels).2).pending = s.pending ∧ ((s.takeAdmission r channels).2).inReset = s.inReset
      ∧ ((s.takeAdmission r channels).2).holdLow = s.holdLow
      ∧ ((s.takeAdmission r channels).2).hcsIsHigh = s.hcsIsHigh
      ∧ ((s.takeAdmission r channels).2).attnLow = s.attnLow
      ∧ ((s.takeAdmission r channels).2).hostOut = s.hostOut ∧ ((s.takeAdmission r channels).2).mode = s.mode
      ∧ ((s.takeAdmission r channels).2).timeBase = s.timeBase
      ∧ ((s.takeAdmission r channels).2).active = s.active
      ∧ ((s.takeAdmission r channels).2).staging = s.staging
      ∧ ((s.takeAdmission r channels).2).roster = s.roster
      ∧ ((s.takeAdmission r channels).2).nextSerial = s.nextSerial
      ∧ ((s.takeAdmission r channels).2).trunks = s.trunks
      ∧ ((s.takeAdmission r channels).2).directives = s.directives := by
  refine ⟨?_, ?_, ?_, ?_, ?_, ?_, ?_, ?_, ?_, ?_, ?_, ?_, ?_, ?_⟩ <;>
    exact State.takeAdmission_keeps_of _ _ (by simp) (by simp) (by simp) (by simp) (by simp) s r channels

/-- `State.startRound` writes trunks only. -/
@[simp] theorem State.startRound_keeps (s : State) (t : TrunkId) :
    (s.startRound t).pending = s.pending ∧ (s.startRound t).inReset = s.inReset
      ∧ (s.startRound t).holdLow = s.holdLow ∧ (s.startRound t).hcsIsHigh = s.hcsIsHigh
      ∧ (s.startRound t).attnLow = s.attnLow ∧ (s.startRound t).hostOut = s.hostOut
      ∧ (s.startRound t).mode = s.mode ∧ (s.startRound t).timeBase = s.timeBase ∧ (s.startRound t).link = s.link
      ∧ (s.startRound t).notices = s.notices ∧ (s.startRound t).active = s.active
      ∧ (s.startRound t).staging = s.staging ∧ (s.startRound t).store = s.store
      ∧ (s.startRound t).channels = s.channels ∧ (s.startRound t).roster = s.roster
      ∧ (s.startRound t).nextSerial = s.nextSerial ∧ (s.startRound t).directives = s.directives := by
  simp [State.startRound]

/-- `State.endRound` writes trunks only. -/
@[simp] theorem State.endRound_keeps (s : State) (t : TrunkId) (turned : Bool) :
    (s.endRound t turned).pending = s.pending ∧ (s.endRound t turned).inReset = s.inReset
      ∧ (s.endRound t turned).holdLow = s.holdLow ∧ (s.endRound t turned).hcsIsHigh = s.hcsIsHigh
      ∧ (s.endRound t turned).attnLow = s.attnLow ∧ (s.endRound t turned).hostOut = s.hostOut
      ∧ (s.endRound t turned).mode = s.mode ∧ (s.endRound t turned).timeBase = s.timeBase
      ∧ (s.endRound t turned).link = s.link ∧ (s.endRound t turned).notices = s.notices
      ∧ (s.endRound t turned).active = s.active ∧ (s.endRound t turned).staging = s.staging
      ∧ (s.endRound t turned).store = s.store ∧ (s.endRound t turned).channels = s.channels
      ∧ (s.endRound t turned).roster = s.roster ∧ (s.endRound t turned).nextSerial = s.nextSerial
      ∧ (s.endRound t turned).directives = s.directives := by
  simp [State.endRound]

/-- `State.endRoundIfDone` writes trunks only. -/
@[simp] theorem State.endRoundIfDone_keeps (s : State) (t : TrunkId) :
    (s.endRoundIfDone t).pending = s.pending ∧ (s.endRoundIfDone t).inReset = s.inReset
      ∧ (s.endRoundIfDone t).holdLow = s.holdLow ∧ (s.endRoundIfDone t).hcsIsHigh = s.hcsIsHigh
      ∧ (s.endRoundIfDone t).attnLow = s.attnLow ∧ (s.endRoundIfDone t).hostOut = s.hostOut
      ∧ (s.endRoundIfDone t).mode = s.mode ∧ (s.endRoundIfDone t).timeBase = s.timeBase
      ∧ (s.endRoundIfDone t).link = s.link ∧ (s.endRoundIfDone t).notices = s.notices
      ∧ (s.endRoundIfDone t).active = s.active ∧ (s.endRoundIfDone t).staging = s.staging
      ∧ (s.endRoundIfDone t).store = s.store ∧ (s.endRoundIfDone t).channels = s.channels
      ∧ (s.endRoundIfDone t).roster = s.roster ∧ (s.endRoundIfDone t).nextSerial = s.nextSerial
      ∧ (s.endRoundIfDone t).directives = s.directives := by
  unfold State.endRoundIfDone; split <;> (try split) <;> simp

/-- `State.answerStop` writes link only. -/
@[simp] theorem State.answerStop_keeps (s : State) (tag : Option Byte) (state : TrunkState) :
    (s.answerStop tag state).pending = s.pending ∧ (s.answerStop tag state).inReset = s.inReset
      ∧ (s.answerStop tag state).holdLow = s.holdLow ∧ (s.answerStop tag state).hcsIsHigh = s.hcsIsHigh
      ∧ (s.answerStop tag state).attnLow = s.attnLow ∧ (s.answerStop tag state).hostOut = s.hostOut
      ∧ (s.answerStop tag state).mode = s.mode ∧ (s.answerStop tag state).timeBase = s.timeBase
      ∧ (s.answerStop tag state).notices = s.notices ∧ (s.answerStop tag state).active = s.active
      ∧ (s.answerStop tag state).staging = s.staging ∧ (s.answerStop tag state).store = s.store
      ∧ (s.answerStop tag state).channels = s.channels ∧ (s.answerStop tag state).roster = s.roster
      ∧ (s.answerStop tag state).nextSerial = s.nextSerial ∧ (s.answerStop tag state).trunks = s.trunks
      ∧ (s.answerStop tag state).directives = s.directives := by
  unfold State.answerStop; split <;> simp

/-- `State.completeStop` writes link, notices, roster, trunks, directives only. -/
@[simp] theorem State.completeStop_keeps (s : State) (t : TrunkId) :
    (s.completeStop t).pending = s.pending ∧ (s.completeStop t).inReset = s.inReset
      ∧ (s.completeStop t).holdLow = s.holdLow ∧ (s.completeStop t).hcsIsHigh = s.hcsIsHigh
      ∧ (s.completeStop t).attnLow = s.attnLow ∧ (s.completeStop t).hostOut = s.hostOut
      ∧ (s.completeStop t).mode = s.mode ∧ (s.completeStop t).timeBase = s.timeBase
      ∧ (s.completeStop t).active = s.active ∧ (s.completeStop t).staging = s.staging
      ∧ (s.completeStop t).store = s.store ∧ (s.completeStop t).channels = s.channels
      ∧ (s.completeStop t).nextSerial = s.nextSerial := by
  simp [State.completeStop]

/-- `State.abandonStation` writes link, notices, roster, directives only. -/
@[simp] theorem State.abandonStation_keeps (s : State) (turn : Turn) :
    (s.abandonStation turn).pending = s.pending ∧ (s.abandonStation turn).inReset = s.inReset
      ∧ (s.abandonStation turn).holdLow = s.holdLow ∧ (s.abandonStation turn).hcsIsHigh = s.hcsIsHigh
      ∧ (s.abandonStation turn).attnLow = s.attnLow ∧ (s.abandonStation turn).hostOut = s.hostOut
      ∧ (s.abandonStation turn).mode = s.mode ∧ (s.abandonStation turn).timeBase = s.timeBase
      ∧ (s.abandonStation turn).active = s.active ∧ (s.abandonStation turn).staging = s.staging
      ∧ (s.abandonStation turn).store = s.store ∧ (s.abandonStation turn).channels = s.channels
      ∧ (s.abandonStation turn).nextSerial = s.nextSerial ∧ (s.abandonStation turn).trunks = s.trunks := by
  unfold State.abandonStation; split <;> (try split) <;> (try split) <;> simp

/-- `State.abandonTurn` writes link, notices, roster, directives only. -/
@[simp] theorem State.abandonTurn_keeps (s : State) (turn : Option Turn) :
    (s.abandonTurn turn).pending = s.pending ∧ (s.abandonTurn turn).inReset = s.inReset
      ∧ (s.abandonTurn turn).holdLow = s.holdLow ∧ (s.abandonTurn turn).hcsIsHigh = s.hcsIsHigh
      ∧ (s.abandonTurn turn).attnLow = s.attnLow ∧ (s.abandonTurn turn).hostOut = s.hostOut
      ∧ (s.abandonTurn turn).mode = s.mode ∧ (s.abandonTurn turn).timeBase = s.timeBase
      ∧ (s.abandonTurn turn).active = s.active ∧ (s.abandonTurn turn).staging = s.staging
      ∧ (s.abandonTurn turn).store = s.store ∧ (s.abandonTurn turn).channels = s.channels
      ∧ (s.abandonTurn turn).nextSerial = s.nextSerial ∧ (s.abandonTurn turn).trunks = s.trunks := by
  unfold State.abandonTurn; split <;> simp

/-- `State.stopFaulted` writes notices, trunks only. -/
@[simp] theorem State.stopFaulted_keeps (s : State) (t : TrunkId) :
    (s.stopFaulted t).pending = s.pending ∧ (s.stopFaulted t).inReset = s.inReset
      ∧ (s.stopFaulted t).holdLow = s.holdLow ∧ (s.stopFaulted t).hcsIsHigh = s.hcsIsHigh
      ∧ (s.stopFaulted t).attnLow = s.attnLow ∧ (s.stopFaulted t).hostOut = s.hostOut
      ∧ (s.stopFaulted t).mode = s.mode ∧ (s.stopFaulted t).timeBase = s.timeBase
      ∧ (s.stopFaulted t).link = s.link ∧ (s.stopFaulted t).active = s.active
      ∧ (s.stopFaulted t).staging = s.staging ∧ (s.stopFaulted t).store = s.store
      ∧ (s.stopFaulted t).channels = s.channels ∧ (s.stopFaulted t).roster = s.roster
      ∧ (s.stopFaulted t).nextSerial = s.nextSerial ∧ (s.stopFaulted t).directives = s.directives := by
  simp [State.stopFaulted]

/-- `State.faultTrunk` writes link, notices, roster, trunks, directives only. -/
@[simp] theorem State.faultTrunk_keeps (s : State) (t : TrunkId) :
    (s.faultTrunk t).pending = s.pending ∧ (s.faultTrunk t).inReset = s.inReset
      ∧ (s.faultTrunk t).holdLow = s.holdLow ∧ (s.faultTrunk t).hcsIsHigh = s.hcsIsHigh
      ∧ (s.faultTrunk t).attnLow = s.attnLow ∧ (s.faultTrunk t).hostOut = s.hostOut
      ∧ (s.faultTrunk t).mode = s.mode ∧ (s.faultTrunk t).timeBase = s.timeBase
      ∧ (s.faultTrunk t).active = s.active ∧ (s.faultTrunk t).staging = s.staging
      ∧ (s.faultTrunk t).store = s.store ∧ (s.faultTrunk t).channels = s.channels
      ∧ (s.faultTrunk t).nextSerial = s.nextSerial := by
  unfold State.faultTrunk; dsimp only; split <;> simp

end Sys2Proof.Machine
end

