-- ==== Sys2Proof/Laws/Ops.lean ====
section
/-! SUPPORT. What the shared operations do, said once: operand reading, acceptance and replies, notices, the
arbiter's choice, the evaluations of a channel, the checks of a roster slot, and fresh ids. -/

namespace Sys2Proof.Machine

/-! ### Operands -/

/-- A byte that equals an index reads as that index. -/
theorem index?_eq {n : Nat} {b : Byte} {i : Fin n} (h : b.toNat = i.1) : index? n b = some i := by
  simp [index?, h]

/-- A byte at or above the bound reads as no index. -/
theorem index?_none {n : Nat} {b : Byte} (h : n ≤ b.toNat) : index? n b = none := by
  simp [index?]; omega

/-- The index a byte reads as equals it. -/
theorem index?_some {n : Nat} {b : Byte} {i : Fin n} (h : index? n b = some i) : b.toNat = i.1 := by
  unfold index? at h; split at h <;> simp at h; subst h; rfl

/-- Reading after a replacement, with the indices as they are written in the model. -/
theorem get_setAt {α : Type} {n : Nat} (v : Vector α n) (i j : Fin n) (a : α) :
    (setAt v i a)[j] = if i = j then a else v[j] := getElem_setAt v i j a

/-- Reading a channel after one has been replaced. -/
theorem State.setChannel_read (s : State) (c d : ChannelId) (x : Channel) :
    (s.setChannel c x).channels[d] = if c = d then x else s.channels[d] := get_setAt s.channels c d x

/-! ### Acceptance and replies (R134, R136) -/

/-- A request that passes every check goes to its owner with its slot of the table taken. -/
theorem takeFrame_accepted {s : State} {kind tag : Byte} {body : List Byte} (lens : List Nat)
    (owner : State → State) (h : TakesRequest s tag) (hl : Config.bodyLengths kind = some lens)
    (hb : body.length ∈ lens) : takeFrame kind tag body owner s = owner (s.enter kind tag) := by
  obtain ⟨h1, h2, h3, h4, h5, h6⟩ := h
  have : (s.link.requests.any fun r => r.tag == tag) = false := by simpa using h5
  simp [takeFrame, h2, State.acceptance, h4, hl, hb, State.sessionCheck, h3, State.tableCheck, this,
    Config.maxOutstanding, Nat.not_le.2 h6]

/-- The outcome of such a request. -/
theorem perform_accepted {s : State} {kind tag : Byte} {body : List Byte} (lens : List Nat)
    (owner : State → State) (h : TakesRequest s tag) (hl : Config.bodyLengths kind = some lens)
    (hb : body.length ∈ lens) :
    perform (takeFrame kind tag body owner) s = .next ((owner (s.enter kind tag)).finish false) := by
  unfold perform
  rw [if_neg (by simp [h.1]), takeFrame_accepted lens owner h hl hb]

/-- Marking a tag that no request holds changes nothing. -/
theorem markAnswered_self {tag : Byte} {rs : List Request} (h : ∀ r ∈ rs, r.tag ≠ tag) :
    markAnswered tag rs = rs := by
  unfold markAnswered
  conv_rhs => rw [← List.map_id rs]
  exact List.map_congr_left (fun r hr => by simp [h r hr])

/-- An update that leaves the link, between a request's entry and its reply: the reply is queued beside it. -/
theorem State.answer_entered {s u : State} {tag : Byte} (h : ∀ r ∈ s.link.requests, r.tag ≠ tag)
    (kind : Byte) (status : Status) (results : List Byte) (hu : u.link = (s.enter kind tag).link) :
    u.answer kind tag status results =
      ({ u with link := s.link } : State).replied kind tag status results := by
  have := markAnswered_self h
  simp only [markAnswered] at this
  simp [State.answer, State.enter, State.replied, State.setLink, markAnswered, acceptedReply, this, hu]

/-- A request answered at its entry. -/
theorem State.answer_enter {s : State} {tag : Byte} (h : ∀ r ∈ s.link.requests, r.tag ≠ tag)
    (kind : Byte) (status : Status) (results : List Byte) :
    (s.enter kind tag).answer kind tag status results = s.replied kind tag status results :=
  State.answer_entered (s := s) h kind status results rfl

/-! ### Notices (R146, R147) -/

/-- Raising a notice changes the notice queue at most. -/
theorem State.raise_frame (s : State) (n : Notice) :
    s.raise n = { s with notices := (s.raise n).notices } := by
  unfold State.raise; split <;> rfl

/-- A raised notice is dropped by the filters, or the queue takes it. -/
theorem State.raise_cases (s : State) (n : Notice) :
    s.raise n = s ∨ (s.link.session = .opened ∧ s.notices.enables n = true
      ∧ s.raise n = s.setNotices (s.notices.take s.timeBase n)) := by
  unfold State.raise
  by_cases h : s.link.session = .opened ∧ s.notices.enables n
  · right; simp [h]
  · left; simp [h]

/-- There is no merge exactly when no entry is a partner. -/
theorem mergeNotice_none {n : Notice} : ∀ {es : List NoticeEntry},
    mergeNotice n es = none ↔ ∀ e ∈ es, e.merged n = none
  | [] => by simp [mergeNotice]
  | e :: es => by
    unfold mergeNotice
    cases h : e.merged n with
    | some m => simp [h]
    | none => simp [h, mergeNotice_none]

/-- A merge goes into the first partner, in place. -/
theorem mergeNotice_some {n : Notice} : ∀ {es fs : List NoticeEntry}, mergeNotice n es = some fs →
    ∃ before e after m, es = before ++ e :: after ∧ (∀ b ∈ before, b.merged n = none)
      ∧ e.merged n = some m ∧ fs = before ++ { e with notice := m } :: after
  | [], _, h => by simp [mergeNotice] at h
  | e :: es, fs, h => by
    unfold mergeNotice at h
    cases hm : e.merged n with
    | some m => simp [hm] at h; exact ⟨[], e, es, m, by simp, by simp, hm, by simp [h]⟩
    | none =>
      simp [hm] at h
      obtain ⟨gs, hg, rfl⟩ := h
      obtain ⟨b, e', a, m, rfl, hb, hm', rfl⟩ := mergeNotice_some hg
      exact ⟨e :: b, e', a, m, rfl, by simpa [hm] using hb, hm', rfl⟩

/-- A merge keeps an entry's kind among the ordinary ones or out of them. -/
theorem NoticeEntry.merged_ordinary {e : NoticeEntry} {n m : Notice} (h : e.merged n = some m) :
    m.ordinary = e.notice.ordinary := by
  unfold NoticeEntry.merged at h
  split at h <;> (try split at h) <;> simp_all [Notice.ordinary] <;> (subst h; simp_all [Notice.ordinary])

/-! ### The arbiter's choice (R138, R153) -/

/-- The first of a list that may be taken is there unless the list is empty. -/
theorem takeFirst_all_none {α : Type} {l : List α} (h : takeFirst (fun _ => true) l = none) : l = [] := by
  cases l with
  | nil => rfl
  | cons a l => simp [takeFirst] at h

/-- A queue that holds an entry offers one. -/
theorem NoticeQueue.offer_none {q : NoticeQueue} (h : q.offer = none) : q.entries = [] := by
  unfold NoticeQueue.offer at h
  split at h
  · simp at h
  · exact takeFirst_all_none h

/-- Something is offered when some channel is. -/
theorem State.anyOffered_iff (s : State) :
    s.anyOffered = true ↔ ∃ c : ChannelId, (s.channels[c]).offered = true := by
  unfold State.anyOffered
  rw [List.any_eq_true]
  constructor
  · rintro ⟨x, hx, h⟩
    obtain ⟨i, hi, hh⟩ := Vector.mem_iff_getElem.1 (Vector.mem_toList_iff.1 hx)
    exact ⟨⟨i, hi⟩, by simpa [hh] using h⟩
  · rintro ⟨c, h⟩
    exact ⟨s.channels[c], by simp, h⟩

/-- The rotation finds a channel whenever one is offered. -/
theorem State.nextOffered_none {s : State} (h : s.nextOffered = none) : s.anyOffered = false := by
  unfold State.nextOffered at h
  rw [List.find?_eq_none] at h
  by_contra hc
  simp at hc
  obtain ⟨c, hc⟩ := s.anyOffered_iff.1 hc
  apply h c _ hc
  simp
  exact ⟨c - (s.link.lastServed + 1), add_sub_cancel _ _⟩

/-- The channel the rotation finds is offered. -/
theorem State.nextOffered_some {s : State} {c : ChannelId} (h : s.nextOffered = some c) :
    (s.channels[c]).offered = true :=
  List.find?_some (p := fun c : ChannelId => (s.channels[c]).offered) h

/-- What readiness says (R53). -/
theorem Channel.ready_fields {x : Channel} (h : x.ready = true) :
    x.enabled = true ∧ x.inflight = [] ∧ 1 ≤ x.credit ∧ x.queue ≠ [] := by
  unfold Channel.ready at h; simp at h; exact ⟨h.1.1.1.1, h.1.2, h.1.1.1.2, h.1.1.2⟩

/-! ### The evaluations of a channel (R49, R54, R58) -/

/-- The mark evaluation writes the channel's level and nothing else of any channel. -/
theorem State.evalMarks_get (s : State) (c d : ChannelId) :
    (s.evalMarks c).channels[d] =
      if c = d then { s.channels[c] with level := (s.channels[c]).markedLevel } else s.channels[d] := by
  by_cases h : (s.channels[c]).markedLevel = (s.channels[c]).level
  · have e : s.evalMarks c = s := by unfold State.evalMarks; exact if_pos h
    rw [e]
    by_cases hd : c = d
    · subst hd; rw [if_pos rfl]; exact h ▸ rfl
    · rw [if_neg hd]
  · have e : (s.evalMarks c).channels =
        (s.setChannel c { s.channels[c] with level := (s.channels[c]).markedLevel }).channels := by
      unfold State.evalMarks; dsimp only; rw [if_neg h]; simp
    rw [e]; exact s.setChannel_read c d _

/-- The readiness evaluation writes the channel's offer. -/
theorem State.evalReady_get (s : State) (c d : ChannelId) :
    (s.evalReady c).channels[d] =
      if c = d then { s.channels[c] with offered := (s.channels[c]).ready } else s.channels[d] :=
  s.setChannel_read c d _

/-- What the hold evaluation makes of a queue that is not empty: a flag that has run out stays, another follows the
head's wait (R52). -/
theorem Channel.evalHold_cons {x : Channel} {e : QueueEntry} {rest : List QueueEntry} (now : Time)
    (h : x.queue = e :: rest) :
    x.evalHold now =
      if x.holdRunOut = true ∨ x.config.hold * 1000 ≤ (now - e.time).toNat then
        { x with holdRunOut := true, holdDue := none }
      else { x with holdRunOut := false, holdDue := some (e.time + BitVec.ofNat 32 (x.config.hold * 1000)) } := by
  unfold Channel.evalHold; rw [h]; rfl

/-- What it makes of an empty queue (R52). -/
theorem Channel.evalHold_nil {x : Channel} (now : Time) (h : x.queue = []) :
    x.evalHold now = { x with holdRunOut := false, holdDue := none } := by
  unfold Channel.evalHold; rw [h]

/-- The hold evaluation writes the hold flag and the armed expiry. -/
theorem Channel.evalHold_fields (x : Channel) (now : Time) :
    ∃ b d, x.evalHold now = { x with holdRunOut := b, holdDue := d } := by
  unfold Channel.evalHold
  split
  · exact ⟨_, _, rfl⟩
  · split <;> exact ⟨_, _, rfl⟩

/-- The hold evaluation of a channel of the part. -/
theorem State.evalHold_get (s : State) (c d : ChannelId) :
    (s.evalHold c).channels[d] = if c = d then (s.channels[c]).evalHold s.timeBase else s.channels[d] :=
  s.setChannel_read c d _

/-- The three evaluations together. -/
theorem State.evalChannel_get (s : State) (c d : ChannelId) :
    (s.evalChannel c).channels[d] =
      if c = d then
        let x := (s.channels[c]).evalHold s.timeBase
        { x with level := x.markedLevel, offered := x.ready }
      else s.channels[d] := by
  have hh : (s.evalHold c).channels[c] = (s.channels[c]).evalHold s.timeBase := by rw [s.evalHold_get c c, if_pos rfl]
  have e : ((s.evalHold c).evalMarks c).channels[c] =
      { (s.evalHold c).channels[c] with level := ((s.evalHold c).channels[c]).markedLevel } := by
    rw [(s.evalHold c).evalMarks_get c c, if_pos rfl]
  have r : (((s.evalHold c).evalMarks c).channels[c]).ready = ((s.evalHold c).channels[c]).ready := by rw [e]; rfl
  have h := ((s.evalHold c).evalMarks c).evalReady_get c d
  unfold State.evalChannel
  rw [h]
  by_cases hd : c = d
  · rw [if_pos hd, if_pos hd, r, e, hh]
  · rw [if_neg hd, if_neg hd, (s.evalHold c).evalMarks_get c d, if_neg hd, s.evalHold_get c d, if_neg hd]

/-! ### The checks of a roster slot (R66) -/

/-- What a roster slot that passes its checks holds. -/
theorem State.rosterCheck_ok {s : State} {b : Byte} {i : StationId} {st : Station}
    (h : s.rosterCheck b = .ok (i, st)) : s.roster[i] = some st ∧ b.toNat = i.1 ∧ st.state ≠ .removing := by
  unfold State.rosterCheck at h
  split at h
  · simp at h
  · rename_i j hj
    split at h
    · simp at h
    · split at h
      · simp at h
      · simp at h; obtain ⟨rfl, rfl⟩ := h; exact ⟨‹_›, index?_some hj, ‹_›⟩

/-! ### Fresh ids and numbers (R112) -/

/-- The search ends at an unused value, unless it ran out of fuel over used ones. -/
theorem firstUnused_spec (next : Nat → Nat) (used : List Nat) : ∀ (fuel v : Nat),
    (∀ k < fuel, (next^[k] v) ∈ used) ∨ firstUnused next used fuel v ∉ used
  | 0, v => .inl (by simp)
  | fuel + 1, v => by
    unfold firstUnused
    by_cases h : v ∈ used
    · rw [if_pos (by simpa using h)]
      rcases firstUnused_spec next used fuel (next v) with h' | h'
      · left; intro k hk
        cases k with
        | zero => simpa using h
        | succ k => simpa [Function.iterate_succ_apply] using h' k (by omega)
      · exact .inr h'
    · rw [if_neg (by simpa using h)]; exact .inr h

/-- The search ends on the walk, after used values only. -/
theorem firstUnused_walk (next : Nat → Nat) (used : List Nat) : ∀ (fuel v : Nat),
    ∃ k, firstUnused next used fuel v = next^[k] v ∧ ∀ j < k, next^[j] v ∈ used
  | 0, _ => ⟨0, rfl, fun _ h => absurd h (Nat.not_lt_zero _)⟩
  | fuel + 1, v => by
    unfold firstUnused
    by_cases h : v ∈ used
    · rw [if_pos (by simpa using h)]
      obtain ⟨k, hk, hu⟩ := firstUnused_walk next used fuel (next v)
      refine ⟨k + 1, hk, fun j hj => ?_⟩
      cases j with
      | zero => exact h
      | succ j => exact hu j (by omega)
    · rw [if_neg (by simpa using h)]; exact ⟨0, rfl, fun _ h => absurd h (Nat.not_lt_zero _)⟩

/-- A wrapping search that starts in its cycle stays in it. -/
theorem wrapping_range {m : Nat} {next : Nat → Nat} (hn : ∀ v, next v = if v = m then 1 else v + 1) {v : Nat}
    (h1 : 1 ≤ v) (hm : v ≤ m) : ∀ k, 1 ≤ next^[k] v ∧ next^[k] v ≤ m
  | 0 => ⟨h1, hm⟩
  | k + 1 => by
    have ih := wrapping_range hn h1 hm k
    rw [Function.iterate_succ_apply', hn]
    split <;> omega

/-- The values a wrapping search visits. -/
theorem wrapping_iterate {m : Nat} {next : Nat → Nat} (hn : ∀ v, next v = if v = m then 1 else v + 1) (v : Nat) :
    ∀ k, k ≤ m → next^[k] v = if v + k ≤ m ∨ m < v then v + k else v + k - m := by
  intro k
  induction k with
  | zero => intro _; simp
  | succ k ih =>
    intro hk
    rw [Function.iterate_succ_apply', ih (by omega), hn]
    repeat' split
    all_goals omega

/-- With fewer values used than there are, the search ends at an unused one. -/
theorem unused_fresh {m : Nat} {next : Nat → Nat} (hm : 0 < m) (hn : ∀ v, next v = if v = m then 1 else v + 1)
    (used : List Nat) (v : Nat) (hu : used.length < m) : firstUnused next used (used.length + 1) v ∉ used := by
  rcases firstUnused_spec next used (used.length + 1) v with h | h
  · exfalso
    have hs : (List.range (used.length+1)).map (fun k => next^[k] v) ⊆ used := by
      intro x hx; obtain ⟨k, hk, rfl⟩ := List.mem_map.1 hx; exact h k (by simpa using hk)
    have hd : ((List.range (used.length+1)).map (fun k => next^[k] v)).Nodup := by
      rw [List.nodup_map_iff_inj_on List.nodup_range]
      intro a ha b hb hab
      simp at ha hb
      rw [wrapping_iterate hn v a (by omega), wrapping_iterate hn v b (by omega)] at hab
      split at hab <;> split at hab <;> omega
    have := (hd.subperm hs).length_le
    simp at this
  · exact h

end Sys2Proof.Machine
end

