-- ==== Sys2Proof/Laws/PerInstr.lean ====
section
/-! SUPPORT. What holds of every command as syntax, one lemma for each constructor. -/

namespace Sys2Proof.Laws

open Sys2Proof.Machine

/-- A frame's content is six bytes longer than its body (R131). -/
theorem frameContent_length (kind tag : Byte) (body : List Byte) :
    (frameContent kind tag body).length = body.length + 6 := by
  simp [frameContent, frameHead, le16, crcBytes]

/-- A well-formed command stands for no host frame, or for one that fits the frame receiver: a body of at most
528 bytes, a content of at most 534 (R131), and a kind that is a request kind exactly when the command is not a
frame of no request kind (R136). -/
def FrameFits.Statement (i : Instr) : Prop :=
  WellFormed i = true → ∀ kind tag body, frameOf i = some (kind, tag, body) →
    body.length ≤ 528 ∧ (frameContent kind tag body).length ≤ 534
      ∧ ((Config.bodyLengths kind).isSome ↔ i ≠ .unknownKindFrame kind tag body)

/-- A command that stands for no frame. -/
theorem FrameFits.of_none {i : Instr} (h : frameOf i = none) : FrameFits.Statement i := by
  intro _ kind tag body e; rw [h] at e; cases e

/-- A command that stands for the frame of a request. -/
theorem FrameFits.of_request {i : Instr} {k t : Byte} {b : List Byte} (hf : frameOf i = some (k, t, b))
    (hb : WellFormed i = true → wfBody b = true) (hk : (Config.bodyLengths k).isSome = true)
    (hn : i ≠ .unknownKindFrame k t b) : FrameFits.Statement i := by
  intro hw kind tag body e
  rw [hf] at e
  cases e
  have := of_decide_eq_true (hb hw)
  rw [frameContent_length]
  simp only [Config.maxBody] at this
  exact ⟨this, by omega, iff_of_true hk hn⟩

theorem FrameFits.resetAssert :
    FrameFits.Statement (.resetAssert) := FrameFits.of_none rfl

theorem FrameFits.resetRelease (mode1 : Bool) (mode0 : Bool) :
    FrameFits.Statement (.resetRelease mode1 mode0) := FrameFits.of_none rfl

theorem FrameFits.holdRelease :
    FrameFits.Statement (.holdRelease) := FrameFits.of_none rfl

theorem FrameFits.inboundByte (dt : Nat) (value : Byte) (mark : Bool) :
    FrameFits.Statement (.inboundByte dt value mark) := FrameFits.of_none rfl

/-- The frames of no request kind. -/
theorem FrameFits.unknownKindFrame (kind tag : Byte) (body : List Byte) :
    FrameFits.Statement (.unknownKindFrame kind tag body) := by
  intro hw k t b e
  cases e
  simp only [WellFormed, Bool.and_eq_true] at hw
  have := of_decide_eq_true hw.2
  rw [frameContent_length]
  simp only [Config.maxBody] at this
  exact ⟨this, by omega, by simpa using hw.1⟩

theorem FrameFits.linkOpen (tag : Byte) (body : List Byte) : FrameFits.Statement (.linkOpen tag body) :=
  FrameFits.of_request rfl (fun h => h) rfl (by simp)

theorem FrameFits.linkClose (tag : Byte) (body : List Byte) : FrameFits.Statement (.linkClose tag body) :=
  FrameFits.of_request rfl (fun h => h) rfl (by simp)

theorem FrameFits.partReset (tag : Byte) (body : List Byte) : FrameFits.Statement (.partReset tag body) :=
  FrameFits.of_request rfl (fun h => h) rfl (by simp)

theorem FrameFits.noticeMask (tag : Byte) (body : List Byte) : FrameFits.Statement (.noticeMask tag body) :=
  FrameFits.of_request rfl (fun h => h) rfl (by simp)

theorem FrameFits.countersRead (tag : Byte) (body : List Byte) : FrameFits.Statement (.countersRead tag body) :=
  FrameFits.of_request rfl (fun h => h) rfl (by simp)

theorem FrameFits.ruleWrite (tag : Byte) (body : List Byte) : FrameFits.Statement (.ruleWrite tag body) :=
  FrameFits.of_request rfl (fun h => h) rfl (by simp)

theorem FrameFits.ruleErase (tag : Byte) (body : List Byte) : FrameFits.Statement (.ruleErase tag body) :=
  FrameFits.of_request rfl (fun h => h) rfl (by simp)

theorem FrameFits.setWrite (tag : Byte) (body : List Byte) : FrameFits.Statement (.setWrite tag body) :=
  FrameFits.of_request rfl (fun h => h) rfl (by simp)

theorem FrameFits.defaultWrite (tag : Byte) (body : List Byte) : FrameFits.Statement (.defaultWrite tag body) :=
  FrameFits.of_request rfl (fun h => h) rfl (by simp)

theorem FrameFits.stageLoad (tag : Byte) (body : List Byte) : FrameFits.Statement (.stageLoad tag body) :=
  FrameFits.of_request rfl (fun h => h) rfl (by simp)

theorem FrameFits.ruleCommit (tag : Byte) (body : List Byte) : FrameFits.Statement (.ruleCommit tag body) :=
  FrameFits.of_request rfl (fun h => h) rfl (by simp)

theorem FrameFits.ruleRead (tag : Byte) (body : List Byte) : FrameFits.Statement (.ruleRead tag body) :=
  FrameFits.of_request rfl (fun h => h) rfl (by simp)

theorem FrameFits.channelConfigEnable (tag : Byte) (body : List Byte) : FrameFits.Statement (.channelConfigEnable tag body) :=
  FrameFits.of_request rfl (fun h => (Bool.and_eq_true _ _ ▸ h).2) rfl (by simp)

theorem FrameFits.channelConfigDisable (tag : Byte) (body : List Byte) : FrameFits.Statement (.channelConfigDisable tag body) :=
  FrameFits.of_request rfl (fun h => (Bool.and_eq_true _ _ ▸ h).2) rfl (by simp)

theorem FrameFits.channelCredit (tag : Byte) (body : List Byte) : FrameFits.Statement (.channelCredit tag body) :=
  FrameFits.of_request rfl (fun h => h) rfl (by simp)

theorem FrameFits.channelFlush (tag : Byte) (body : List Byte) : FrameFits.Statement (.channelFlush tag body) :=
  FrameFits.of_request rfl (fun h => h) rfl (by simp)

theorem FrameFits.channelQuery (tag : Byte) (body : List Byte) : FrameFits.Statement (.channelQuery tag body) :=
  FrameFits.of_request rfl (fun h => h) rfl (by simp)

theorem FrameFits.stationAdd (tag : Byte) (body : List Byte) : FrameFits.Statement (.stationAdd tag body) :=
  FrameFits.of_request rfl (fun h => h) rfl (by simp)

theorem FrameFits.stationSet (tag : Byte) (body : List Byte) : FrameFits.Statement (.stationSet tag body) :=
  FrameFits.of_request rfl (fun h => h) rfl (by simp)

theorem FrameFits.stationQuery (tag : Byte) (body : List Byte) : FrameFits.Statement (.stationQuery tag body) :=
  FrameFits.of_request rfl (fun h => h) rfl (by simp)

theorem FrameFits.stationList (tag : Byte) (body : List Byte) : FrameFits.Statement (.stationList tag body) :=
  FrameFits.of_request rfl (fun h => h) rfl (by simp)

theorem FrameFits.stationSuspend (tag : Byte) (body : List Byte) : FrameFits.Statement (.stationSuspend tag body) :=
  FrameFits.of_request rfl (fun h => h) rfl (by simp)

theorem FrameFits.stationResume (tag : Byte) (body : List Byte) : FrameFits.Statement (.stationResume tag body) :=
  FrameFits.of_request rfl (fun h => h) rfl (by simp)

theorem FrameFits.stationRemove (tag : Byte) (body : List Byte) : FrameFits.Statement (.stationRemove tag body) :=
  FrameFits.of_request rfl (fun h => h) rfl (by simp)

theorem FrameFits.trunkConfig (tag : Byte) (body : List Byte) : FrameFits.Statement (.trunkConfig tag body) :=
  FrameFits.of_request rfl (fun h => h) rfl (by simp)

theorem FrameFits.trunkStart (tag : Byte) (body : List Byte) : FrameFits.Statement (.trunkStart tag body) :=
  FrameFits.of_request rfl (fun h => h) rfl (by simp)

theorem FrameFits.trunkStop (tag : Byte) (body : List Byte) : FrameFits.Statement (.trunkStop tag body) :=
  FrameFits.of_request rfl (fun h => h) rfl (by simp)

theorem FrameFits.trunkQuery (tag : Byte) (body : List Byte) : FrameFits.Statement (.trunkQuery tag body) :=
  FrameFits.of_request rfl (fun h => h) rfl (by simp)

theorem FrameFits.directiveSubmit (tag : Byte) (body : List Byte) : FrameFits.Statement (.directiveSubmit tag body) :=
  FrameFits.of_request rfl (fun h => h) rfl (by simp)

theorem FrameFits.directiveCancel (tag : Byte) (body : List Byte) : FrameFits.Statement (.directiveCancel tag body) :=
  FrameFits.of_request rfl (fun h => h) rfl (by simp)

theorem FrameFits.directiveQuery (tag : Byte) (body : List Byte) : FrameFits.Statement (.directiveQuery tag body) :=
  FrameFits.of_request rfl (fun h => h) rfl (by simp)

theorem FrameFits.messageCompletion (dt : Nat) :
    FrameFits.Statement (.messageCompletion dt) := FrameFits.of_none rfl

theorem FrameFits.closeEnd :
    FrameFits.Statement (.closeEnd) := FrameFits.of_none rfl

theorem FrameFits.closeStopStep :
    FrameFits.Statement (.closeStopStep) := FrameFits.of_none rfl

theorem FrameFits.closeDirectiveStep :
    FrameFits.Statement (.closeDirectiveStep) := FrameFits.of_none rfl

theorem FrameFits.idleComplete (trunk : TrunkId) :
    FrameFits.Statement (.idleComplete trunk) := FrameFits.of_none rfl

theorem FrameFits.startLimitExpiry (trunk : TrunkId) :
    FrameFits.Statement (.startLimitExpiry trunk) := FrameFits.of_none rfl

theorem FrameFits.lineLow (trunk : TrunkId) (dt : Nat) (lowFor : Nat) :
    FrameFits.Statement (.lineLow trunk dt lowFor) := FrameFits.of_none rfl

theorem FrameFits.roundStart (trunk : TrunkId) :
    FrameFits.Statement (.roundStart trunk) := FrameFits.of_none rfl

theorem FrameFits.turnBegin (trunk : TrunkId) :
    FrameFits.Statement (.turnBegin trunk) := FrameFits.of_none rfl

theorem FrameFits.echoCharacter (trunk : TrunkId) (dt : Nat) (value : Byte) (framingError : Bool) :
    FrameFits.Statement (.echoCharacter trunk dt value framingError) := FrameFits.of_none rfl

theorem FrameFits.echoDeadlineExpiry (trunk : TrunkId) :
    FrameFits.Statement (.echoDeadlineExpiry trunk) := FrameFits.of_none rfl

theorem FrameFits.replyStart (trunk : TrunkId) (dt : Nat) :
    FrameFits.Statement (.replyStart trunk dt) := FrameFits.of_none rfl

theorem FrameFits.replyTimeout (trunk : TrunkId) :
    FrameFits.Statement (.replyTimeout trunk) := FrameFits.of_none rfl

theorem FrameFits.replyCharacter (trunk : TrunkId) (dt : Nat) (value : Byte) (framingError : Bool) :
    FrameFits.Statement (.replyCharacter trunk dt value framingError) := FrameFits.of_none rfl

theorem FrameFits.gapExpiry (trunk : TrunkId) :
    FrameFits.Statement (.gapExpiry trunk) := FrameFits.of_none rfl

theorem FrameFits.strayByte (trunk : TrunkId) (dt : Nat) (value : Byte) (framingError : Bool) :
    FrameFits.Statement (.strayByte trunk dt value framingError) := FrameFits.of_none rfl

theorem FrameFits.settleEnd (trunk : TrunkId) :
    FrameFits.Statement (.settleEnd trunk) := FrameFits.of_none rfl

theorem FrameFits.sequenceCheck (trunk : TrunkId) :
    FrameFits.Statement (.sequenceCheck trunk) := FrameFits.of_none rfl

theorem FrameFits.admission (trunk : TrunkId) :
    FrameFits.Statement (.admission trunk) := FrameFits.of_none rfl

theorem FrameFits.turnClose (trunk : TrunkId) :
    FrameFits.Statement (.turnClose trunk) := FrameFits.of_none rfl

theorem FrameFits.holdExpiry (channel : ChannelId) :
    FrameFits.Statement (.holdExpiry channel) := FrameFits.of_none rfl

theorem FrameFits.holdAssert (begun : Nat) :
    FrameFits.Statement (.holdAssert begun) := FrameFits.of_none rfl

theorem FrameFits.hcsHigh :
    FrameFits.Statement (.hcsHigh) := FrameFits.of_none rfl

end Sys2Proof.Laws
end

