-- ==== Sys2Proof/Laws/Roster.lean ====
section
/-! SUPPORT. What the roster's shared operations do: the abort of a station's directives, the freeing of an entry, the
completion of a removal and the group move, each as the claims' words in Safety.lean have it. -/

namespace Sys2Proof.Machine

/-- Writing what a slot holds changes nothing. -/
theorem State.setStation_self (s : State) (i : StationId) : s.setStation i s.roster[i] = s := by
  have : setAt s.roster i s.roster[i] = s.roster := by
    apply Vector.ext; intro j hj
    unfold setAt
    rw [Vector.getElem_set]
    split
    · subst ‹_›; rfl
    · rfl
  unfold State.setStation; rw [this]

/-- A raised notice changes the notice queue only. -/
theorem State.raise_shape (s : State) (n : Notice) : ∃ q, s.raise n = { s with notices := q } :=
  ⟨_, s.raise_frame n⟩

/-- Raising a notice does not look at the directives. -/
theorem State.raise_directives (s : State) (n : Notice) (q : DirectiveQueue) :
    ({ s with directives := q } : State).raise n = { s.raise n with directives := q } := by
  unfold State.raise; dsimp only; split <;> rfl

/-- The ABORTED notices of a list of entries, in order (R123). -/
abbrev State.reportAborted (s : State) (i : StationId) (ds : List Directive) : State :=
  ds.foldl (fun u d => u.raise (.directiveDone d.id i .aborted 0#8 d.attempts)) s

theorem State.reportAborted_shape (i : StationId) :
    ∀ (ds : List Directive) (s : State), ∃ q, s.reportAborted i ds = { s with notices := q }
  | [], s => ⟨s.notices, rfl⟩
  | d :: ds, s => by
    obtain ⟨q, h⟩ := s.raise_shape (.directiveDone d.id i .aborted 0#8 d.attempts)
    obtain ⟨r, h'⟩ := State.reportAborted_shape i ds { s with notices := q }
    exact ⟨r, by rw [State.reportAborted, List.foldl_cons, h]; exact h'⟩

theorem State.reportAborted_directives (i : StationId) : ∀ (ds : List Directive) (s : State) (q : DirectiveQueue),
    ({ s with directives := q } : State).reportAborted i ds = { s.reportAborted i ds with directives := q }
  | [], _, _ => rfl
  | d :: ds, s, q => by
    rw [State.reportAborted, List.foldl_cons, State.raise_directives]
    exact State.reportAborted_directives i ds _ q

/-- The entries of one station complete ABORTED one by one: the entries that hold their ids leave. -/
theorem State.completeAborted (i : StationId) : ∀ (ds : List Directive) (s : State), (∀ d ∈ ds, d.slot = i) →
    ds.foldl (fun s d => s.completeDirective d .aborted 0#8 d.attempts) s =
      { s.reportAborted i ds with
        directives := { s.directives with
          entries := s.directives.entries.filter fun e => decide (e.id ∉ ds.map Directive.id) } }
  | [], s, _ => by simp
  | d :: ds, s, h => by
    rw [List.foldl_cons, State.completeAborted i ds _ fun e he => h e (by simp [he])]
    unfold State.completeDirective State.setDirectives
    rw [h d (by simp), State.raise_directives, State.reportAborted_directives]
    dsimp only [DirectiveQueue.without]
    rw [List.filter_filter, State.reportAborted, State.reportAborted, List.foldl_cons]
    congr 2
    apply List.filter_congr
    intro e _
    rw [List.map_cons, Bool.eq_iff_iff]
    simp only [Bool.and_eq_true, decide_eq_true_eq, List.mem_cons, not_or]
    exact ⟨fun h => ⟨h.2, h.1⟩, fun h => ⟨h.2, h.1⟩⟩

/-- With distinct ids, the abort of a station's directives takes out exactly its entries, oldest first (R123). -/
theorem State.abortDirectives_eq (s : State) (i : StationId) (h : (s.directives.entries.map Directive.id).Nodup) :
    s.abortDirectives i =
      { s.reportAborted i (s.directives.entries.filter fun d => decide (d.slot = i)) with
        directives := { s.directives with entries := s.directives.entries.filter fun d => decide (d.slot ≠ i) } } := by
  unfold State.abortDirectives DirectiveQueue.ofStation
  rw [State.completeAborted i _ s (by intro d hd; simpa using (List.mem_filter.mp hd).2)]
  have key : (s.directives.entries.filter fun e =>
        decide (e.id ∉ (s.directives.entries.filter fun d => decide (d.slot = i)).map Directive.id)) =
      s.directives.entries.filter fun d => decide (d.slot ≠ i) := by
    apply List.filter_congr
    intro e he
    simp only [decide_eq_decide]
    refine ⟨fun hne hs => hne (List.mem_map.mpr ⟨e, List.mem_filter.mpr ⟨he, by simpa using hs⟩, rfl⟩), fun hs hm => ?_⟩
    obtain ⟨d, hd, hde⟩ := List.mem_map.mp hm
    have hd' := List.mem_filter.mp hd
    obtain rfl : d = e := List.inj_on_of_nodup_map h hd'.1 he hde
    exact hs (by simpa using hd'.2)
  rw [key]

/-- The freeing of an entry (R86, R123, R148). -/
theorem State.freeStation_eq (s : State) (i : StationId) (h : (s.directives.entries.map Directive.id).Nodup) :
    s.freeStation i = s.stationFreed i := by
  unfold State.freeStation State.stationFreed
  dsimp only
  rw [s.abortDirectives_eq i h]
  obtain ⟨q, hq⟩ := State.reportAborted_shape i (s.directives.entries.filter fun d => decide (d.slot = i)) s
  unfold State.reportAborted at hq ⊢
  rw [hq]; rfl

/-- The completion of a removal (R87). -/
theorem State.completeRemoval_eq (s : State) (i : StationId) (st : Station)
    (h : (s.directives.entries.map Directive.id).Nodup) : s.completeRemoval i st = s.removalDone i st := by
  unfold State.completeRemoval State.removalDone
  rw [s.freeStation_eq i h]
  cases st.removeTag <;> rfl

/-- A completed removal leaves the ids distinct. -/
theorem State.removalDone_ids (s : State) (i : StationId) (st : Station)
    (h : (s.directives.entries.map Directive.id).Nodup) :
    ((s.removalDone i st).directives.entries.map Directive.id).Nodup := by
  have : (s.removalDone i st).directives.entries = s.directives.entries.filter fun d => decide (d.slot ≠ i) := by
    unfold State.removalDone; cases st.removeTag <;> rfl
  rw [this]; exact (List.filter_sublist.map _).nodup h

/-- The move of one slot, which leaves the ids distinct (R87, R89). -/
theorem State.groundStation_eq (s : State) (t : TrunkId) (i : StationId)
    (h : (s.directives.entries.map Directive.id).Nodup) :
    State.groundStation t s i = State.groundedAt t s i
      ∧ ((State.groundedAt t s i).directives.entries.map Directive.id).Nodup := by
  unfold State.groundStation State.groundedAt
  cases hs : s.roster[i] with
  | none => exact ⟨rfl, h⟩
  | some st =>
    dsimp only
    by_cases ht : st.trunk = t
    · rw [if_pos ht, if_neg (not_not.mpr ht)]
      by_cases hr : st.state = .removing
      · rw [if_pos hr, if_pos hr]
        exact ⟨s.completeRemoval_eq i st h, s.removalDone_ids i st h⟩
      · rw [if_neg hr, if_neg hr]
        refine ⟨?_, by split <;> exact h⟩
        have put : ∀ p : Bool, s.setStation i (some (if p = true then { st with state := .idle, missCount := 0 } else st)) =
            if p = true then
              ({ s with roster := setAt s.roster i (some { st with state := .idle, missCount := 0 }) } : State)
            else s := by
          intro p; cases p
          · simp only [Bool.false_eq_true, if_false]; rw [← hs]; exact s.setStation_self i
          · rfl
        unfold Station.grounded
        rw [put]
        cases hst : st.state <;> simp [StationState.pollable]
    · rw [if_neg ht, if_pos ht]; exact ⟨rfl, h⟩

/-- The group move of a trunk's stations (R87, R89, R96). -/
theorem State.groundStations_eq (s : State) (t : TrunkId) (h : (s.directives.entries.map Directive.id).Nodup) :
    s.groundStations t = s.grounded t := by
  unfold State.groundStations State.grounded
  generalize List.finRange 64 = l
  induction l generalizing s with
  | nil => rfl
  | cons i l ih =>
    rw [List.foldl_cons, List.foldl_cons, (s.groundStation_eq t i h).1]
    exact ih _ (s.groundStation_eq t i h).2

end Sys2Proof.Machine
end

