-- ==== Sys2Proof/Laws/Step.lean ====
section
/-! SUPPORT. What a step can do, said once: a relation that the effect of every command keeps, and the end of a step
with it, holds between the states before and after a step. -/

namespace Sys2Proof.Machine

/-- The end of a command out of reset is `finish`; in reset it drives the pins; a command that is not taken changes
nothing. -/
theorem exec_shape {i : Instr} {s t : State} (h : exec i s = .next t) :
    t = s ∨ (∃ (u : State) (chained : Bool), t = u.finish chained) ∨ ∃ u : State, u.inReset = true ∧ t = u.drivePins := by
  have hp : ∀ f, perform f s = .next t → t = s ∨ (∃ (u : State) (chained : Bool), t = u.finish chained) := by
    intro f h
    unfold perform at h
    split at h <;> simp at h
    · exact .inl h.symm
    · exact .inr ⟨_, _, h.symm⟩
  have hq : ∀ f, performPin f s = .next t →
      (∃ (u : State) (chained : Bool), t = u.finish chained) ∨ ∃ u : State, u.inReset = true ∧ t = u.drivePins := by
    intro f h
    unfold performPin at h
    split at h <;> simp at h
    · exact .inr ⟨_, ‹_›, h.symm⟩
    · exact .inl ⟨_, _, h.symm⟩
  cases i <;> (try simp only [exec, execInboundByte, execResetAssert, execResetRelease, execHoldAssert, execHoldRelease,
    execHcsHigh] at h) <;> first
    | exact (hp _ h).elim .inl fun h => .inr (.inl h)
    | exact .inr (hq _ h)
    | ((try simp only [execMessageCompletion] at h)
       split at h <;> simp at h
       · exact .inl h.symm
       · exact .inr (.inl ⟨_, _, h.symm⟩))

/-- All that can be taken before an event on a trunk's line: nothing, the trunk's expiry, or an end of its idle watch. -/
theorem State.expireBefore_cases (s : State) (t : TrunkId) (low now : Time) :
    s.expireBefore t low now = s ∨ s.expireBefore t low now = echoDeadline t s
      ∨ s.expireBefore t low now = replyTimeout t s ∨ s.expireBefore t low now = gapExpiry t s
      ∨ ∃ w, (s.trunks[t]).state = .starting ∧ (s.trunks[t]).watch = some w
        ∧ ((∃ due, s.expireBefore t low now = s.runTrunk t w due) ∨ s.expireBefore t low now = s.failStart t w) := by
  have hw : ∀ w, s.watchTo t w low now = s ∨ (∃ due, s.watchTo t w low now = s.runTrunk t w due)
      ∨ s.watchTo t w low now = s.failStart t w := by
    intro w
    generalize hv : s.watchTo t w low now = v
    unfold State.watchTo at hv
    split at hv
    · split at hv
      · exact .inr (.inl ⟨_, hv.symm⟩)
      · split at hv
        · exact .inr (.inr hv.symm)
        · exact .inl hv.symm
    · split at hv
      · exact .inr (.inr hv.symm)
      · exact .inl hv.symm
  generalize hu : s.expireBefore t low now = u
  unfold State.expireBefore at hu
  dsimp only at hu
  split at hu
  · split at hu
    · exact .inr (.inl hu.symm)
    · exact .inl hu.symm
  · split at hu
    · exact .inr (.inr (.inl hu.symm))
    · exact .inl hu.symm
  · split at hu
    · exact .inr (.inr (.inr (.inl hu.symm)))
    · exact .inl hu.symm
  · exact .inl hu.symm
  · exact .inl hu.symm
  · split at hu
    · rename_i w hst hwt
      rcases hw w with h | ⟨due, h⟩ | h
      · exact .inl (hu.symm.trans h)
      · exact .inr (.inr (.inr (.inr ⟨w, hst, hwt, .inl ⟨due, hu.symm.trans h⟩⟩)))
      · exact .inr (.inr (.inr (.inr ⟨w, hst, hwt, .inr (hu.symm.trans h)⟩)))
    · exact .inl hu.symm

/-- The expiry before an event on a trunk's line does not touch RESET#. -/
theorem State.expireBefore_inReset (s : State) (t : TrunkId) (low now : Time) :
    (s.expireBefore t low now).inReset = s.inReset := by
  have hf : ∀ u turn, (State.failAttempt u t turn).inReset = u.inReset := by
    intro u turn; unfold State.failAttempt State.endAsMiss; dsimp only; split <;> simp
  have he : ∀ u : State, (u.echoFault t).inReset = u.inReset := by
    intro u; unfold State.echoFault; dsimp only; split <;> simp
  rcases s.expireBefore_cases t low now with h | h | h | h | ⟨w, -, -, ⟨due, h⟩ | h⟩ <;> rw [h]
  · unfold echoDeadline; dsimp only; split <;> simp [he]
  · unfold replyTimeout; split <;> simp [hf]
  · unfold gapExpiry State.breakReply; split <;> simp [hf]
  · simp [State.runTrunk, State.wakeStations]
  · simp [State.failStart]

/-- Nor does the passing of time on a line. -/
theorem State.lineTo_inReset (s : State) (t : TrunkId) (low now : Time) : (s.lineTo t low now).inReset = s.inReset :=
  s.expireBefore_inReset t low now

/-- A relation between states that every part of a step keeps: the passing of time, the end of the step, the pins and
resets, the frame receiver, acceptance, each request at its owner once it is accepted, and each event. -/
structure Effects (Q : State → State → Prop) : Prop where
  refl : ∀ s, Q s s
  trans : ∀ s t u, Q s t → Q t u → Q s u
  elapse : ∀ s dt, s.inReset = false → Q s (s.elapse dt)
  comeTo : ∀ s now, s.inReset = false → Q s (s.comeTo now)
  finish : ∀ s chained, Q s (s.finish chained)
  drivePins : ∀ s, Q s s.drivePins
  resetAssert : ∀ s, Q s (resetAssert s)
  resetRelease : ∀ s a b, Q s (resetRelease a b s)
  holdAssert : ∀ s begun, Q s (holdAssert begun s)
  holdRelease : ∀ s, Q s (holdRelease s)
  hcsHigh : ∀ s, Q s (hcsHigh s)
  exchange : ∀ s mark, s.inReset = false → Q s (s.exchange mark)
  receive : ∀ s r, s.inReset = false → Q s (s.setLink { s.link with receiver := r })
  countLink : ∀ s f, s.inReset = false → Q s (s.countLink f)
  refuse : ∀ s kind tag status, s.inReset = false → Q s (s.refuse kind tag status)
  linkOpen : ∀ s tag body, s.inReset = false → (∀ stage t, s.link.session ≠ .closing stage t) →
    s.tableCheck tag = none → Q s (linkOpen tag body (s.enter 0x01#8 tag))
  partReset : ∀ s tag, s.inReset = false → s.tableCheck tag = none → Q s (partReset tag (s.enter 0x03#8 tag))
  noticeMask : ∀ s tag body, s.inReset = false → s.link.session = .opened → s.tableCheck tag = none →
    Q s (noticeMask tag body (s.enter 0x04#8 tag))
  countersRead : ∀ s tag body, s.inReset = false → s.link.session = .opened → s.tableCheck tag = none →
    Q s (countersRead tag body (s.enter 0x05#8 tag))
  ruleWrite : ∀ s tag body, s.inReset = false → s.link.session = .opened → s.tableCheck tag = none →
    Q s (ruleWrite tag body (s.enter 0x10#8 tag))
  ruleErase : ∀ s tag body, s.inReset = false → s.link.session = .opened → s.tableCheck tag = none →
    Q s (ruleErase tag body (s.enter 0x11#8 tag))
  setWrite : ∀ s tag body, s.inReset = false → s.link.session = .opened → s.tableCheck tag = none →
    Q s (setWrite tag body (s.enter 0x12#8 tag))
  defaultWrite : ∀ s tag body, s.inReset = false → s.link.session = .opened → s.tableCheck tag = none →
    Q s (defaultWrite tag body (s.enter 0x13#8 tag))
  stageLoad : ∀ s tag, s.inReset = false → s.link.session = .opened → s.tableCheck tag = none →
    Q s (stageLoad tag (s.enter 0x14#8 tag))
  ruleCommit : ∀ s tag body, s.inReset = false → s.link.session = .opened → s.tableCheck tag = none →
    Q s (ruleCommit tag body (s.enter 0x15#8 tag))
  ruleRead : ∀ s tag body, s.inReset = false → s.link.session = .opened → s.tableCheck tag = none →
    Q s (ruleRead tag body (s.enter 0x16#8 tag))
  channelConfigEnable : ∀ s tag body, s.inReset = false → s.link.session = .opened → s.tableCheck tag = none →
    Q s (channelEnable tag body (s.enter 0x18#8 tag))
  channelConfigDisable : ∀ s tag body, s.inReset = false → s.link.session = .opened → s.tableCheck tag = none →
    Q s (channelDisable tag body (s.enter 0x18#8 tag))
  channelCredit : ∀ s tag body, s.inReset = false → s.link.session = .opened → s.tableCheck tag = none →
    Q s (channelCredit tag body (s.enter 0x19#8 tag))
  channelFlush : ∀ s tag body, s.inReset = false → s.link.session = .opened → s.tableCheck tag = none →
    Q s (channelFlush tag body (s.enter 0x1A#8 tag))
  channelQuery : ∀ s tag body, s.inReset = false → s.link.session = .opened → s.tableCheck tag = none →
    Q s (channelQuery tag body (s.enter 0x1B#8 tag))
  stationAdd : ∀ s tag body, s.inReset = false → s.link.session = .opened → s.tableCheck tag = none →
    Q s (stationAdd tag body (s.enter 0x20#8 tag))
  stationSet : ∀ s tag body, s.inReset = false → s.link.session = .opened → s.tableCheck tag = none →
    Q s (stationSet tag body (s.enter 0x21#8 tag))
  stationQuery : ∀ s tag body, s.inReset = false → s.link.session = .opened → s.tableCheck tag = none →
    Q s (stationQuery tag body (s.enter 0x22#8 tag))
  stationList : ∀ s tag, s.inReset = false → s.link.session = .opened → s.tableCheck tag = none →
    Q s (stationList tag (s.enter 0x23#8 tag))
  stationSuspend : ∀ s tag body, s.inReset = false → s.link.session = .opened → s.tableCheck tag = none →
    Q s (stationSuspend tag body (s.enter 0x24#8 tag))
  stationResume : ∀ s tag body, s.inReset = false → s.link.session = .opened → s.tableCheck tag = none →
    Q s (stationResume tag body (s.enter 0x25#8 tag))
  stationRemove : ∀ s tag body, s.inReset = false → s.link.session = .opened → s.tableCheck tag = none →
    Q s (stationRemove tag body (s.enter 0x26#8 tag))
  trunkConfig : ∀ s tag body, s.inReset = false → s.link.session = .opened → s.tableCheck tag = none →
    Q s (trunkConfig tag body (s.enter 0x28#8 tag))
  trunkStart : ∀ s tag body, s.inReset = false → s.link.session = .opened → s.tableCheck tag = none →
    Q s (trunkStart tag body (s.enter 0x29#8 tag))
  trunkStop : ∀ s tag body, s.inReset = false → s.link.session = .opened → s.tableCheck tag = none →
    Q s (trunkStop tag body (s.enter 0x2A#8 tag))
  trunkQuery : ∀ s tag body, s.inReset = false → s.link.session = .opened → s.tableCheck tag = none →
    Q s (trunkQuery tag body (s.enter 0x2B#8 tag))
  directiveSubmit : ∀ s tag body, s.inReset = false → s.link.session = .opened → s.tableCheck tag = none →
    Q s (directiveSubmit tag body (s.enter 0x30#8 tag))
  directiveCancel : ∀ s tag body, s.inReset = false → s.link.session = .opened → s.tableCheck tag = none →
    Q s (directiveCancel tag body (s.enter 0x31#8 tag))
  directiveQuery : ∀ s tag body, s.inReset = false → s.link.session = .opened → s.tableCheck tag = none →
    Q s (directiveQuery tag body (s.enter 0x32#8 tag))
  linkClose : ∀ s tag, s.inReset = false → s.link.session = .opened → s.tableCheck tag = none →
    Q s (linkClose tag (s.enter 0x02#8 tag))
  closeEnd : ∀ (s : State), s.inReset = false → Q s (closeEnd s)
  closeStopStep : ∀ (s : State), s.inReset = false → Q s (closeStopStep s)
  closeDirectiveStep : ∀ (s : State), s.inReset = false → Q s (closeDirectiveStep s)
  runTrunk : ∀ (s : State) (k : TrunkId) (w : StartWatch) (due : Time), s.inReset = false →
    (s.trunks[k]).state = .starting → (s.trunks[k]).watch = some w → Q s (s.runTrunk k w due)
  failStart : ∀ (s : State) (k : TrunkId) (w : StartWatch), s.inReset = false →
    (s.trunks[k]).state = .starting → (s.trunks[k]).watch = some w → Q s (s.failStart k w)
  lineWentLow : ∀ (s : State) (k : TrunkId) (lowFor : Nat), s.inReset = false → Q s (lineWentLow k lowFor s)
  roundStart : ∀ (s : State) (k : TrunkId), s.inReset = false → Q s (roundStart k s)
  turnBegin : ∀ (s : State) (k : TrunkId), s.inReset = false → Q s (turnBegin k s)
  echoTaken : ∀ (s : State) (k : TrunkId) (b : Byte) (fe : Bool), s.inReset = false → Q s (echoTaken k b fe s)
  echoDeadline : ∀ (s : State) (k : TrunkId), s.inReset = false → Q s (echoDeadline k s)
  replyStarted : ∀ (s : State) (k : TrunkId), s.inReset = false → Q s (replyStarted k s)
  replyTimeout : ∀ (s : State) (k : TrunkId), s.inReset = false → Q s (replyTimeout k s)
  replyTaken : ∀ (s : State) (k : TrunkId) (b : Byte) (fe : Bool), s.inReset = false → Q s (replyTaken k b fe s)
  gapExpiry : ∀ (s : State) (k : TrunkId), s.inReset = false → Q s (gapExpiry k s)
  strayTaken : ∀ (s : State) (k : TrunkId) (b : Byte) (fe : Bool), s.inReset = false → Q s (strayTaken k b fe s)
  settleEnd : ∀ (s : State) (k : TrunkId), s.inReset = false → Q s (settleEnd k s)
  sequenceCheck : ∀ (s : State) (k : TrunkId), s.inReset = false → Q s (sequenceCheck k s)
  admissionStep : ∀ (s : State) (k : TrunkId), s.inReset = false → Q s (admissionStep k s)
  turnClose : ∀ (s : State) (k : TrunkId), s.inReset = false → Q s (turnClose k s)
  holdExpiry : ∀ (s : State) (c : ChannelId), s.inReset = false → Q s (holdExpiry c s)
  clockedOut : ∀ (s : State), s.inReset = false → Q s s.clockedOut
  messageSent : ∀ (s : State) (m : Transmission), s.link.tx = some m → Q s (s.messageSent m)

namespace Effects
variable {Q : State → State → Prop} (E : Effects Q)
include E

/-- An accepted frame of a kind that is taken only in an OPEN session. -/
theorem takeFrame {s : State} {kind tag : Byte} {body : List Byte} {owner : State → State} (hr : s.inReset = false)
    (h1 : kind ≠ 0x01#8) (h3 : kind ≠ 0x03#8)
    (ho : s.link.session = .opened → s.tableCheck tag = none → Q s (owner (s.enter kind tag))) :
    Q s (takeFrame kind tag body owner s) := by
  unfold Machine.takeFrame
  split
  · exact E.refl s
  · split
    · exact E.refuse _ _ _ _ hr
    · rename_i ha
      unfold State.acceptance at ha
      split at ha
      · simp at ha
      · split at ha
        · simp at ha
        · split at ha
          · unfold State.sessionCheck at ha
            split at ha
            · simp [h1, h3] at ha
            · simp [h3] at ha
            · exact ho ‹_› ha
          · simp at ha

/-- A frame that is taken in a CLOSED session too. -/
theorem takeFrameClosed {s : State} {kind tag : Byte} {body : List Byte} {owner : State → State} (hr : s.inReset = false)
    (ho : (kind ≠ 0x03#8 → ∀ stage t, s.link.session ≠ .closing stage t) → s.tableCheck tag = none →
      Q s (owner (s.enter kind tag))) :
    Q s (Machine.takeFrame kind tag body owner s) := by
  unfold Machine.takeFrame
  split
  · exact E.refl s
  · split
    · exact E.refuse _ _ _ _ hr
    · rename_i ha
      unfold State.acceptance at ha
      split at ha
      · simp at ha
      · split at ha
        · simp at ha
        · split at ha
          · unfold State.sessionCheck at ha
            split at ha
            · split at ha
              · refine ho (fun _ stage t hc => ?_) ha
                simp_all
              · simp at ha
            · split at ha
              · exact ho (fun hk => absurd ‹_› hk) ha
              · simp at ha
            · refine ho (fun _ stage t hc => ?_) ha
              simp_all
          · simp at ha

theorem takeLinkOpen {s : State} (tag : Byte) (body : List Byte) (hr : s.inReset = false) :
    Q s (takeLinkOpen tag body s) :=
  E.takeFrameClosed hr fun hc ht => E.linkOpen s tag body hr (hc (by decide)) ht

theorem takePartReset {s : State} (tag : Byte) (body : List Byte) (hr : s.inReset = false) :
    Q s (takePartReset tag body s) :=
  E.takeFrameClosed hr fun _ ht => E.partReset s tag hr ht
theorem takeNoticeMask {s : State} (tag : Byte) (body : List Byte) (hr : s.inReset = false) :
    Q s (takeNoticeMask tag body s) :=
  E.takeFrame hr (by decide) (by decide) fun ho ht => E.noticeMask s tag body hr ho ht
theorem takeCountersRead {s : State} (tag : Byte) (body : List Byte) (hr : s.inReset = false) :
    Q s (takeCountersRead tag body s) :=
  E.takeFrame hr (by decide) (by decide) fun ho ht => E.countersRead s tag body hr ho ht
theorem takeRuleWrite {s : State} (tag : Byte) (body : List Byte) (hr : s.inReset = false) :
    Q s (takeRuleWrite tag body s) :=
  E.takeFrame hr (by decide) (by decide) fun ho ht => E.ruleWrite s tag body hr ho ht
theorem takeRuleErase {s : State} (tag : Byte) (body : List Byte) (hr : s.inReset = false) :
    Q s (takeRuleErase tag body s) :=
  E.takeFrame hr (by decide) (by decide) fun ho ht => E.ruleErase s tag body hr ho ht
theorem takeSetWrite {s : State} (tag : Byte) (body : List Byte) (hr : s.inReset = false) :
    Q s (takeSetWrite tag body s) :=
  E.takeFrame hr (by decide) (by decide) fun ho ht => E.setWrite s tag body hr ho ht
theorem takeDefaultWrite {s : State} (tag : Byte) (body : List Byte) (hr : s.inReset = false) :
    Q s (takeDefaultWrite tag body s) :=
  E.takeFrame hr (by decide) (by decide) fun ho ht => E.defaultWrite s tag body hr ho ht
theorem takeStageLoad {s : State} (tag : Byte) (body : List Byte) (hr : s.inReset = false) :
    Q s (takeStageLoad tag body s) :=
  E.takeFrame hr (by decide) (by decide) fun ho ht => E.stageLoad s tag hr ho ht
theorem takeRuleCommit {s : State} (tag : Byte) (body : List Byte) (hr : s.inReset = false) :
    Q s (takeRuleCommit tag body s) :=
  E.takeFrame hr (by decide) (by decide) fun ho ht => E.ruleCommit s tag body hr ho ht
theorem takeRuleRead {s : State} (tag : Byte) (body : List Byte) (hr : s.inReset = false) :
    Q s (takeRuleRead tag body s) :=
  E.takeFrame hr (by decide) (by decide) fun ho ht => E.ruleRead s tag body hr ho ht
theorem takeChannelConfigEnable {s : State} (tag : Byte) (body : List Byte) (hr : s.inReset = false) :
    Q s (takeChannelConfigEnable tag body s) :=
  E.takeFrame hr (by decide) (by decide) fun ho ht => E.channelConfigEnable s tag body hr ho ht
theorem takeChannelConfigDisable {s : State} (tag : Byte) (body : List Byte) (hr : s.inReset = false) :
    Q s (takeChannelConfigDisable tag body s) :=
  E.takeFrame hr (by decide) (by decide) fun ho ht => E.channelConfigDisable s tag body hr ho ht
theorem takeChannelCredit {s : State} (tag : Byte) (body : List Byte) (hr : s.inReset = false) :
    Q s (takeChannelCredit tag body s) :=
  E.takeFrame hr (by decide) (by decide) fun ho ht => E.channelCredit s tag body hr ho ht
theorem takeChannelFlush {s : State} (tag : Byte) (body : List Byte) (hr : s.inReset = false) :
    Q s (takeChannelFlush tag body s) :=
  E.takeFrame hr (by decide) (by decide) fun ho ht => E.channelFlush s tag body hr ho ht
theorem takeChannelQuery {s : State} (tag : Byte) (body : List Byte) (hr : s.inReset = false) :
    Q s (takeChannelQuery tag body s) :=
  E.takeFrame hr (by decide) (by decide) fun ho ht => E.channelQuery s tag body hr ho ht
theorem takeStationAdd {s : State} (tag : Byte) (body : List Byte) (hr : s.inReset = false) :
    Q s (takeStationAdd tag body s) :=
  E.takeFrame hr (by decide) (by decide) fun ho ht => E.stationAdd s tag body hr ho ht
theorem takeStationSet {s : State} (tag : Byte) (body : List Byte) (hr : s.inReset = false) :
    Q s (takeStationSet tag body s) :=
  E.takeFrame hr (by decide) (by decide) fun ho ht => E.stationSet s tag body hr ho ht
theorem takeStationQuery {s : State} (tag : Byte) (body : List Byte) (hr : s.inReset = false) :
    Q s (takeStationQuery tag body s) :=
  E.takeFrame hr (by decide) (by decide) fun ho ht => E.stationQuery s tag body hr ho ht
theorem takeStationList {s : State} (tag : Byte) (body : List Byte) (hr : s.inReset = false) :
    Q s (takeStationList tag body s) :=
  E.takeFrame hr (by decide) (by decide) fun ho ht => E.stationList s tag hr ho ht
theorem takeStationSuspend {s : State} (tag : Byte) (body : List Byte) (hr : s.inReset = false) :
    Q s (takeStationSuspend tag body s) :=
  E.takeFrame hr (by decide) (by decide) fun ho ht => E.stationSuspend s tag body hr ho ht
theorem takeStationResume {s : State} (tag : Byte) (body : List Byte) (hr : s.inReset = false) :
    Q s (takeStationResume tag body s) :=
  E.takeFrame hr (by decide) (by decide) fun ho ht => E.stationResume s tag body hr ho ht
theorem takeStationRemove {s : State} (tag : Byte) (body : List Byte) (hr : s.inReset = false) :
    Q s (takeStationRemove tag body s) :=
  E.takeFrame hr (by decide) (by decide) fun ho ht => E.stationRemove s tag body hr ho ht
theorem takeTrunkConfig {s : State} (tag : Byte) (body : List Byte) (hr : s.inReset = false) :
    Q s (takeTrunkConfig tag body s) :=
  E.takeFrame hr (by decide) (by decide) fun ho ht => E.trunkConfig s tag body hr ho ht
theorem takeTrunkStart {s : State} (tag : Byte) (body : List Byte) (hr : s.inReset = false) :
    Q s (takeTrunkStart tag body s) :=
  E.takeFrame hr (by decide) (by decide) fun ho ht => E.trunkStart s tag body hr ho ht
theorem takeTrunkStop {s : State} (tag : Byte) (body : List Byte) (hr : s.inReset = false) :
    Q s (takeTrunkStop tag body s) :=
  E.takeFrame hr (by decide) (by decide) fun ho ht => E.trunkStop s tag body hr ho ht
theorem takeTrunkQuery {s : State} (tag : Byte) (body : List Byte) (hr : s.inReset = false) :
    Q s (takeTrunkQuery tag body s) :=
  E.takeFrame hr (by decide) (by decide) fun ho ht => E.trunkQuery s tag body hr ho ht
theorem takeDirectiveSubmit {s : State} (tag : Byte) (body : List Byte) (hr : s.inReset = false) :
    Q s (takeDirectiveSubmit tag body s) :=
  E.takeFrame hr (by decide) (by decide) fun ho ht => E.directiveSubmit s tag body hr ho ht
theorem takeDirectiveCancel {s : State} (tag : Byte) (body : List Byte) (hr : s.inReset = false) :
    Q s (takeDirectiveCancel tag body s) :=
  E.takeFrame hr (by decide) (by decide) fun ho ht => E.directiveCancel s tag body hr ho ht
theorem takeDirectiveQuery {s : State} (tag : Byte) (body : List Byte) (hr : s.inReset = false) :
    Q s (takeDirectiveQuery tag body s) :=
  E.takeFrame hr (by decide) (by decide) fun ho ht => E.directiveQuery s tag body hr ho ht
theorem takeLinkClose {s : State} (tag : Byte) (body : List Byte) (hr : s.inReset = false) :
    Q s (takeLinkClose tag body s) :=
  E.takeFrame hr (by decide) (by decide) fun ho ht => E.linkClose s tag hr ho ht
theorem takeUnknownKind {s : State} (kind tag : Byte) (body : List Byte) (hr : s.inReset = false) :
    Q s (takeUnknownKind kind tag body s) := by
  unfold Machine.takeUnknownKind
  split
  · rename_i hk
    unfold Machine.takeFrame
    split
    · exact E.refl s
    · split
      · exact E.refuse _ _ _ _ hr
      · rename_i ha
        unfold State.acceptance at ha
        split at ha <;> simp_all
  · exact E.refl s

/-- A good frame at acceptance. -/
theorem deliver {s : State} (kind tag : Byte) (body : List Byte) (hr : s.inReset = false) :
    Q s (deliver kind tag body s) := by
  generalize hf : Machine.deliver kind tag body = f
  unfold Machine.deliver at hf
  split at hf
  · subst hf; exact E.takeLinkOpen _ _ hr
  · subst hf; exact E.takeLinkClose _ _ hr
  · subst hf; exact E.takePartReset _ _ hr
  · subst hf; exact E.takeNoticeMask _ _ hr
  · subst hf; exact E.takeCountersRead _ _ hr
  · subst hf; exact E.takeRuleWrite _ _ hr
  · subst hf; exact E.takeRuleErase _ _ hr
  · subst hf; exact E.takeSetWrite _ _ hr
  · subst hf; exact E.takeDefaultWrite _ _ hr
  · subst hf; exact E.takeStageLoad _ _ hr
  · subst hf; exact E.takeRuleCommit _ _ hr
  · subst hf; exact E.takeRuleRead _ _ hr
  · split at hf <;> subst hf
    · exact E.takeChannelConfigDisable _ _ hr
    · exact E.takeChannelConfigEnable _ _ hr
  · subst hf; exact E.takeChannelCredit _ _ hr
  · subst hf; exact E.takeChannelFlush _ _ hr
  · subst hf; exact E.takeChannelQuery _ _ hr
  · subst hf; exact E.takeStationAdd _ _ hr
  · subst hf; exact E.takeStationSet _ _ hr
  · subst hf; exact E.takeStationQuery _ _ hr
  · subst hf; exact E.takeStationList _ _ hr
  · subst hf; exact E.takeStationSuspend _ _ hr
  · subst hf; exact E.takeStationResume _ _ hr
  · subst hf; exact E.takeStationRemove _ _ hr
  · subst hf; exact E.takeTrunkConfig _ _ hr
  · subst hf; exact E.takeTrunkStart _ _ hr
  · subst hf; exact E.takeTrunkStop _ _ hr
  · subst hf; exact E.takeTrunkQuery _ _ hr
  · subst hf; exact E.takeDirectiveSubmit _ _ hr
  · subst hf; exact E.takeDirectiveCancel _ _ hr
  · subst hf; exact E.takeDirectiveQuery _ _ hr
  · subst hf; exact E.takeUnknownKind _ _ _ hr

/-- The message in transmission has been sent. -/
theorem txSent (s : State) : Q s s.txSent := by
  unfold State.txSent
  split
  · exact E.messageSent s _ ‹_›
  · exact E.refl s

/-- One inbound byte. -/
theorem inboundByte {s : State} (b : Byte) (fe : Bool) (hr : s.inReset = false) :
    Q s (inboundByte b fe s) := by
  have hx : (s.exchange fe).inReset = false := by
    unfold State.exchange; split
    · exact hr
    · split <;> exact hr
  have hq : ∀ u, Q s u → Q s (if s.closesMessage fe then u.txSent else u) := by
    intro u hu
    split
    · exact E.trans _ _ _ hu (E.txSent u)
    · exact hu
  unfold Machine.inboundByte
  refine hq _ (E.trans _ _ _ (E.exchange s fe hr) (E.trans _ _ _
    (E.receive (s.exchange fe) (s.link.receiver.take b (fe && s.mode.isUart)).1 hx) ?_))
  unfold State.receiverEvent
  split
  · exact E.refl _
  · exact E.countLink _ _ hx
  · exact E.countLink _ _ hx
  · unfold State.frameEnded
    split
    · exact E.refl _
    · exact E.countLink _ _ hx
    · exact E.countLink _ _ hx
    · exact E.deliver _ _ _ hx

/-- The completion of a message. -/
theorem messageCompletion {s : State} (hr : s.inReset = false) : Q s (messageCompletion s) := by
  unfold Machine.messageCompletion
  split
  · exact E.refl s
  · rename_i m hm
    split
    · exact E.refl s
    · exact E.trans _ _ _ (E.clockedOut s hr) (E.messageSent _ m (by rw [← hm]; unfold State.clockedOut; split <;> rfl))

/-- The idle run is complete. -/
theorem idleComplete {s : State} (k : TrunkId) (hr : s.inReset = false) : Q s (idleComplete k s) := by
  unfold Machine.idleComplete
  repeat' split
  all_goals first | exact E.refl s | exact E.runTrunk s k _ _ hr ‹_› ‹_›

/-- The start limit expires. -/
theorem startLimitExpiry {s : State} (k : TrunkId) (hr : s.inReset = false) : Q s (startLimitExpiry k s) := by
  unfold Machine.startLimitExpiry
  repeat' split
  all_goals first | exact E.refl s | exact E.failStart s k _ hr ‹_› ‹_›

/-- The expiry that falls before an event on a trunk's line. -/
theorem expireBefore {s : State} (k : TrunkId) (low now : Time) (hr : s.inReset = false) :
    Q s (s.expireBefore k low now) := by
  rcases s.expireBefore_cases k low now with h | h | h | h | ⟨w, hst, hw, ⟨due, h⟩ | h⟩ <;> rw [h]
  · exact E.refl s
  · exact E.echoDeadline s k hr
  · exact E.replyTimeout s k hr
  · exact E.gapExpiry s k hr
  · exact E.runTrunk s k w due hr hst hw
  · exact E.failStart s k w hr hst hw

/-- Time comes to an event on a trunk's line. -/
theorem lineTo {s : State} (k : TrunkId) (low now : Time) (hr : s.inReset = false) : Q s (s.lineTo k low now) :=
  E.trans _ _ _ (E.expireBefore k low now hr) (E.comeTo _ now (by rw [s.expireBefore_inReset]; exact hr))

/-- A character comes on a trunk's line. -/
theorem character {s : State} (k : TrunkId) (dt : Nat) (b : Byte) (fe : Bool) (hr : s.inReset = false) :
    Q s (s.character k dt b fe) := by
  have hl : ∀ low now, (s.lineTo k low now).inReset = false := fun low now => by
    rw [s.lineTo_inReset]; exact hr
  unfold State.character
  generalize hu : s.lineTo k (s.charStart k (later s.timeBase dt)) (later s.timeBase dt) = u
  have hur : u.inReset = false := hu ▸ hl _ _
  refine E.trans _ u _ (hu ▸ E.lineTo k _ _ hr) ?_
  generalize hv : characterTaken k b fe u = v
  unfold characterTaken at hv
  split at hv <;> subst hv
  · exact E.echoTaken u k b fe hur
  · exact E.replyTaken u k b fe hur
  all_goals exact E.strayTaken u k b fe hur

theorem echoCharacter {s : State} (k : TrunkId) (dt : Nat) (b : Byte) (fe : Bool) (hr : s.inReset = false) :
    Q s (echoCharacter k dt b fe s) := by
  unfold Machine.echoCharacter
  split
  · exact E.character k dt b fe hr
  · exact E.elapse s dt hr

theorem replyStart {s : State} (k : TrunkId) (dt : Nat) (hr : s.inReset = false) : Q s (replyStart k dt s) := by
  unfold Machine.replyStart
  split
  · exact E.trans _ _ _ (E.lineTo k _ _ hr) (E.replyStarted _ k (by rw [s.lineTo_inReset]; exact hr))
  · exact E.elapse s dt hr

theorem replyCharacter {s : State} (k : TrunkId) (dt : Nat) (b : Byte) (fe : Bool) (hr : s.inReset = false) :
    Q s (replyCharacter k dt b fe s) := by
  unfold Machine.replyCharacter
  split
  · exact E.character k dt b fe hr
  · exact E.elapse s dt hr

theorem strayByte {s : State} (k : TrunkId) (dt : Nat) (b : Byte) (fe : Bool) (hr : s.inReset = false) :
    Q s (strayByte k dt b fe s) := by
  unfold Machine.strayByte
  split
  · exact E.character k dt b fe hr
  · exact E.elapse s dt hr

theorem lineLow {s : State} (k : TrunkId) (dt lowFor : Nat) (hr : s.inReset = false) :
    Q s (lineLow k dt lowFor s) := by
  unfold Machine.lineLow
  split
  · exact E.trans _ _ _ (E.lineTo k _ _ hr) (E.lineWentLow _ k lowFor (by rw [s.lineTo_inReset]; exact hr))
  · exact E.elapse s dt hr

/-- A command out of reset. -/
theorem perform {s t : State} {f : State → State}
    (hq : s.inReset = false → Q s (f s)) (h : perform f s = .next t) : Q s t := by
  unfold Machine.perform at h
  cases hs : s.inReset with
  | true => simp [hs] at h; subst h; exact E.refl s
  | false =>
    simp [hs] at h; subst h
    exact E.trans _ _ _ (hq hs) (E.finish _ _)

/-- A change of a pin from outside. -/
theorem performPin {s t : State} {f : State → State} (hq : Q s (f s)) (h : performPin f s = .next t) : Q s t := by
  unfold Machine.performPin at h
  split at h <;> simp at h <;> subst h
  · exact E.trans _ _ _ hq (E.drivePins _)
  · exact E.trans _ _ _ hq (E.finish _ _)

/-- The relation holds across every command. -/
theorem exec {i : Instr} {s t : State} (h : exec i s = .next t) : Q s t := by
  have el : ∀ dt, s.inReset = false → (s.elapse dt).inReset = false := fun _ h => h
  cases i with
  | resetAssert => exact E.performPin (E.resetAssert s) h
  | resetRelease a b => exact E.performPin (E.resetRelease s a b) h
  | holdAssert n => exact E.performPin (E.holdAssert s n) h
  | holdRelease => exact E.performPin (E.holdRelease s) h
  | hcsHigh => exact E.performPin (E.hcsHigh s) h
  | inboundByte dt b fe =>
    simp only [Machine.exec, execInboundByte] at h
    cases hs : s.inReset with
    | true => simp [hs] at h; subst h; exact E.refl s
    | false =>
      simp [hs] at h; subst h
      exact E.trans _ _ _ (E.elapse s dt hs) (E.trans _ _ _ (E.inboundByte b fe (el dt hs)) (E.finish _ _))
  | unknownKindFrame kind tag body => exact E.perform (fun hr => E.takeUnknownKind kind tag body hr) h
  | messageCompletion dt =>
    simp only [Machine.exec, execMessageCompletion] at h
    cases hs : s.inReset with
    | true => simp [hs] at h; subst h; exact E.refl s
    | false =>
      simp [hs] at h; subst h
      exact E.trans _ _ _ (E.elapse s dt hs) (E.trans _ _ _ (E.messageCompletion (el dt hs)) (E.finish _ _))
  | linkOpen tag body => exact E.perform (fun hr => E.takeLinkOpen tag body hr) h
  | partReset tag body => exact E.perform (fun hr => E.takePartReset tag body hr) h
  | noticeMask tag body => exact E.perform (fun hr => E.takeNoticeMask tag body hr) h
  | countersRead tag body => exact E.perform (fun hr => E.takeCountersRead tag body hr) h
  | ruleWrite tag body => exact E.perform (fun hr => E.takeRuleWrite tag body hr) h
  | ruleErase tag body => exact E.perform (fun hr => E.takeRuleErase tag body hr) h
  | setWrite tag body => exact E.perform (fun hr => E.takeSetWrite tag body hr) h
  | defaultWrite tag body => exact E.perform (fun hr => E.takeDefaultWrite tag body hr) h
  | stageLoad tag body => exact E.perform (fun hr => E.takeStageLoad tag body hr) h
  | ruleCommit tag body => exact E.perform (fun hr => E.takeRuleCommit tag body hr) h
  | ruleRead tag body => exact E.perform (fun hr => E.takeRuleRead tag body hr) h
  | channelConfigEnable tag body => exact E.perform (fun hr => E.takeChannelConfigEnable tag body hr) h
  | channelConfigDisable tag body => exact E.perform (fun hr => E.takeChannelConfigDisable tag body hr) h
  | channelCredit tag body => exact E.perform (fun hr => E.takeChannelCredit tag body hr) h
  | channelFlush tag body => exact E.perform (fun hr => E.takeChannelFlush tag body hr) h
  | channelQuery tag body => exact E.perform (fun hr => E.takeChannelQuery tag body hr) h
  | stationAdd tag body => exact E.perform (fun hr => E.takeStationAdd tag body hr) h
  | stationSet tag body => exact E.perform (fun hr => E.takeStationSet tag body hr) h
  | stationQuery tag body => exact E.perform (fun hr => E.takeStationQuery tag body hr) h
  | stationList tag body => exact E.perform (fun hr => E.takeStationList tag body hr) h
  | stationSuspend tag body => exact E.perform (fun hr => E.takeStationSuspend tag body hr) h
  | stationResume tag body => exact E.perform (fun hr => E.takeStationResume tag body hr) h
  | stationRemove tag body => exact E.perform (fun hr => E.takeStationRemove tag body hr) h
  | trunkConfig tag body => exact E.perform (fun hr => E.takeTrunkConfig tag body hr) h
  | trunkStart tag body => exact E.perform (fun hr => E.takeTrunkStart tag body hr) h
  | trunkStop tag body => exact E.perform (fun hr => E.takeTrunkStop tag body hr) h
  | trunkQuery tag body => exact E.perform (fun hr => E.takeTrunkQuery tag body hr) h
  | directiveSubmit tag body => exact E.perform (fun hr => E.takeDirectiveSubmit tag body hr) h
  | directiveCancel tag body => exact E.perform (fun hr => E.takeDirectiveCancel tag body hr) h
  | directiveQuery tag body => exact E.perform (fun hr => E.takeDirectiveQuery tag body hr) h
  | linkClose tag body => exact E.perform (fun hr => E.takeLinkClose tag body hr) h
  | closeEnd => exact E.perform (fun hr => E.closeEnd s hr) h
  | closeStopStep => exact E.perform (fun hr => E.closeStopStep s hr) h
  | closeDirectiveStep => exact E.perform (fun hr => E.closeDirectiveStep s hr) h
  | idleComplete k => exact E.perform (fun hr => E.idleComplete k hr) h
  | startLimitExpiry k => exact E.perform (fun hr => E.startLimitExpiry k hr) h
  | lineLow k dt n => exact E.perform (fun hr => E.lineLow k dt n hr) h
  | roundStart k => exact E.perform (fun hr => E.roundStart s k hr) h
  | turnBegin k => exact E.perform (fun hr => E.turnBegin s k hr) h
  | echoCharacter k dt b fe => exact E.perform (fun hr => E.echoCharacter k dt b fe hr) h
  | echoDeadlineExpiry k => exact E.perform (fun hr => E.echoDeadline s k hr) h
  | replyStart k dt => exact E.perform (fun hr => E.replyStart k dt hr) h
  | replyTimeout k => exact E.perform (fun hr => E.replyTimeout s k hr) h
  | replyCharacter k dt b fe => exact E.perform (fun hr => E.replyCharacter k dt b fe hr) h
  | gapExpiry k => exact E.perform (fun hr => E.gapExpiry s k hr) h
  | strayByte k dt b fe => exact E.perform (fun hr => E.strayByte k dt b fe hr) h
  | settleEnd k => exact E.perform (fun hr => E.settleEnd s k hr) h
  | sequenceCheck k => exact E.perform (fun hr => E.sequenceCheck s k hr) h
  | admission k => exact E.perform (fun hr => E.admissionStep s k hr) h
  | turnClose k => exact E.perform (fun hr => E.turnClose s k hr) h
  | holdExpiry k => exact E.perform (fun hr => E.holdExpiry s k hr) h

/-- The relation holds across every step, taken from the state without the command in front. -/
theorem step {s t : State} (hp : ∀ s q, Q s { s with pending := q }) (h : step s = .next t) : Q s t := by
  unfold Machine.step at h
  split at h
  · simp at h
    subst h
    unfold State.tick
    split
    · exact E.refl s
    · exact E.elapse s 1 (by simpa using ‹¬s.inReset = true›)
  · exact E.trans _ _ _ (hp s _) (E.exec h)

end Effects
end Sys2Proof.Machine
end

