-- ==== Sys2Proof/Tests/Slice0.lean ====
section
/-! SUPPORT. Tests of the model. Expected values come from the spec's worked examples and tables, or from hand
calculation on them; the last part shows for each statement a state and operands that meet its hypotheses. -/

namespace Sys2Proof.Tests

-- Each test runs to its end before the next: their kernel evaluations side by side exhaust the thread stacks.
set_option Elab.async false

open Sys2Proof Sys2Proof.Machine

/-! ### Ill-formed commands are refused, one for each check of `WellFormed` -/

theorem test_wf_unknownKind_is_no_request : WellFormed (.unknownKindFrame 0x01#8 1#8 []) = false := by decide
theorem test_wf_unknownKind_body : WellFormed (.unknownKindFrame 0x7F#8 1#8 (List.replicate 529 0#8)) = false := by
  decide +kernel
theorem test_wf_enable_flag : WellFormed (.channelConfigEnable 1#8 [0, 0, 16, 0, 0, 1, 0, 0, 12, 4]) = false := by
  decide
theorem test_wf_enable_body : WellFormed (.channelConfigEnable 1#8 (List.replicate 529 1#8)) = false := by
  decide +kernel
theorem test_wf_disable_flag : WellFormed (.channelConfigDisable 1#8 [0, 1, 16, 0, 0, 1, 0, 0, 12, 4]) = false := by
  decide
theorem test_wf_disable_body : WellFormed (.channelConfigDisable 1#8 (List.replicate 529 0#8)) = false := by
  decide +kernel
theorem test_wf_request_body : WellFormed (.linkOpen 1#8 (List.replicate 529 0#8)) = false
    ∧ WellFormed (.linkOpen 1#8 (List.replicate 528 0#8)) = true := by decide +kernel
theorem test_wf_delay : WellFormed (.inboundByte 2147483648 0#8 false) = false
    ∧ WellFormed (.messageCompletion 2147483647) = true := by decide +kernel
theorem test_wf_lineLow_delay : WellFormed (.lineLow 0 2147483648 0) = false := by decide +kernel
theorem test_wf_lineLow_time : WellFormed (.lineLow 0 0 100001) = false := by decide +kernel
theorem test_wf_hold : WellFormed (.holdAssert 1071) = false ∧ WellFormed (.holdAssert 1070) = true := by
  decide +kernel

/-! ### The table gives no word a command -/

theorem test_no_word : decodeTableWord 32 0xA5 = none := rfl
theorem test_withFetchWord : State.reset.withFetchWord 32 0xA5 = State.reset := rfl

/-! ### Check words, byte times, codes and layouts -/

/-- The published check value of this CRC-16 over the ASCII digits 1 to 9. -/
theorem test_crc : crc16 [0x31, 0x32, 0x33, 0x34, 0x35, 0x36, 0x37, 0x38, 0x39] = 0x29B1#16 := by decide +kernel

/-- Table 5-1. -/
theorem test_byteTimes_table :
    (List.finRange 8).map (fun r => [1, 2, 3, 32].map (byteTimes r)) =
      [[1042, 2084, 3125, 33334], [521, 1042, 1563, 16667], [261, 521, 782, 8334], [174, 348, 521, 5556],
        [87, 174, 261, 2778], [40, 80, 120, 1280], [20, 40, 60, 640], [10, 20, 30, 320]] := by decide +kernel

/-- Chapter 7, Worked example: stuffing a request. -/
theorem test_stuff : stuff [0x01, 0xA5, 0x02, 0x00, 0x03, 0xA6] =
    [0x01, 0xA6, 0x85, 0x02, 0x00, 0x03, 0xA6, 0x86] := by decide +kernel

/-- Chapter 11.2: a POLL with no baseline and no directive is 9 bytes, flags 0, acknowledgement 0. -/
theorem test_poll : (pollBytes 21#8 none none).take 7 = [0x3C, 21, 4, 0, 0, 0, 0]
    ∧ (pollBytes 21#8 none none).length = 9 := by decide +kernel

/-- A record with a payload of `n` bytes. -/
def record (n : Nat) : Record :=
  { trunk := 1, address := 40#8, station := 3, kind := 7#8, seq := 1#8, stamp := 258#32
    payload := List.replicate n 9#8 }

/-- Chapter 10, Worked example: sizes of one batch. -/
theorem test_batch_size : (batchBody 3 [record 6, record 0]).length = 26
    ∧ (frameContent 0x81#8 0#8 (batchBody 3 [record 6, record 0])).length = 32
    ∧ (frameWire false 0x81#8 0#8 (batchBody 3 [record 6, record 0])).length = 34 := by decide +kernel

/-- Table 10-12, field by field: bit 7 of byte 0 the trunk, bits 5 to 0 the slot; the stamp low byte first. -/
theorem test_record_bytes : (record 1).bytes = [0x83, 40, 7, 1, 2, 1, 0, 0, 1, 9] := by decide +kernel

/-- R171: the body lengths of the seven notice kinds. -/
theorem test_notice_lengths :
    [Notice.stationState 0 0 1#8 .idle .active 1, .sequence 0 1 0, .directiveDone 1 0 .delivered 0#8 1,
      .channelLevel 0 .filling 1, .channelLoss 0 Loss.zero, .trunkState 0 .starting .running .request,
      .noticeLost 1].map (fun n => ((NoticeEntry.mk 0#32 true n).body).length) = [12, 10, 11, 9, 14, 9, 7] := by
  decide +kernel

/-- Table 10-10 read by hand: window at 0 of width 2, sum at 4 of span 3 with target 288, a NOT_IN term on set 1
at 5, DELIVER 2; enabled, trunk 1, addresses 32 to 47, kinds 16 to 31, lengths 2 to 56. -/
theorem test_decodeRule :
    decodeRule ([0x0F, 1, 32, 240, 16, 31, 2, 56, 0, 2, 0x01, 0x80, 0, 0, 0, 0, 0, 0,
      0xFF, 0x80, 0, 0, 0, 0, 0, 0, 4, 3, 0x20, 0x01, 0, 1, 5, 1, 0, 2] : List Byte) =
      some { enabled := true, trunk := .only 1, addrValue := 32#8, addrMask := 240#8, kindLow := 16#8
             kindHigh := 31#8, lenMin := 2, lenMax := 56
             window := some { offset := 0, width := 2, value := [0x01, 0x80], mask := [0xFF, 0x80] }
             sum := some { offset := 4, span := 3, target := 288, equal := true }
             set := some { bins := 1, offset := 5, member := false }, action := .deliver 2 } := by decide +kernel

/-- R20: kind low above kind high is refused, and a reserved flag bit is. -/
theorem test_decodeRule_refuses :
    decodeRule ([0x01, 2, 0, 0, 9, 8, 0, 56] ++ List.replicate 28 (0 : Byte)) = none
    ∧ decodeRule ([0x11, 2, 0, 0, 8, 9, 0, 56] ++ List.replicate 28 (0 : Byte)) = none
    ∧ (decodeRule ([0x01, 2, 0, 0, 8, 9, 0, 56] ++ List.replicate 28 (0 : Byte))).isSome = true := by
  decide +kernel

/-- Table 10-11: bin 8b + j is bit j of byte b. -/
theorem test_decodeBins : decodeBins [0, 0, 0, 0, 0x04, 0, 0, 0x80] = (1#64 <<< 34) ||| (1#64 <<< 63) := by
  decide +kernel

/-! ### Screening, from the worked examples of chapter 1 -/

theorem test_masks : maskedEqual 240#8 40#8 32#8 = true ∧ maskedEqual 240#8 48#8 32#8 = false
    ∧ maskedEqual 1#8 239#8 1#8 = true ∧ maskedEqual 1#8 238#8 1#8 = false := by decide +kernel

theorem test_window :
    let w : WindowTerm := { offset := 0, width := 2, value := [0x01, 0x80], mask := [0xFF, 0x80] }
    w.holds [0x01, 0x93, 0x00] = true ∧ w.holds [0x01, 0x7F, 0x00] = false ∧ w.holds [0x02, 0x93] = false
      ∧ w.holds [0x01] = false := by decide +kernel

theorem test_sum :
    let t : SumTerm := { offset := 4, span := 3, target := 288, equal := true }
    let p : List Byte := [0, 0, 0, 0, 0x10, 0x20, 0xF0, 0x55]
    t.holds p = true ∧ ({ t with equal := false } : SumTerm).holds p = false ∧ t.holds (p.take 6) = false
      ∧ ({ t with equal := false } : SumTerm).holds (p.take 6) = false := by decide +kernel

theorem test_bins : binOf 0x12#8 0x34#8 = 34 ∧ binOf 0xFF#8 0xFF#8 = 32 := by decide +kernel

/-- A rule that any record matches. -/
def anyRule (a : Action) : Rule :=
  { enabled := true, trunk := .either, addrValue := 0#8, addrMask := 0#8, kindLow := 0#8, kindHigh := 255#8
    lenMin := 0, lenMax := 56, window := none, sum := none, set := none, action := a }

/-- The table of the worked example of four records. -/
def fourTable : RuleTable :=
  { RuleTable.empty with
    defaultAction := .deliver 0
    slots := setAt (setAt (setAt (setAt (setAt RuleTable.empty.slots 2 (some (anyRule .count)))
      5 (some { anyRule (.tee 6) with kindLow := 16#8, kindHigh := 31#8 }))
      9 (some { anyRule .discard with lenMin := 0, lenMax := 0 }))
      12 (some { anyRule (.deliver 1) with trunk := .only 0 }))
      20 (some { anyRule (.tee 7) with addrValue := 32#8, addrMask := 240#8 }) }

/-- One of the four records. -/
def fourRecord (t : TrunkId) (address kind : Byte) (n : Nat) : Record :=
  { record n with trunk := t, address := address, kind := kind }

theorem test_walk_A : (fourTable.walk (fourRecord 0 5#8 3#8 8)).applied = [2, 12]
    ∧ (fourTable.walk (fourRecord 0 5#8 3#8 8)).deliverySet = [1] := by decide +kernel
theorem test_walk_B : (fourTable.walk (fourRecord 1 40#8 20#8 4)).applied = [2, 5, 20]
    ∧ (fourTable.walk (fourRecord 1 40#8 20#8 4)).deliverySet = [0, 6] := by decide +kernel
theorem test_walk_C : (fourTable.walk (fourRecord 0 33#8 17#8 0)).applied = [2, 5, 9]
    ∧ (fourTable.walk (fourRecord 0 33#8 17#8 0)).deliverySet = [6] := by decide +kernel
theorem test_walk_D : (fourTable.walk (fourRecord 1 7#8 200#8 0)).applied = [2, 9]
    ∧ (fourTable.walk (fourRecord 1 7#8 200#8 0)).deliverySet = [] := by decide +kernel

/-! ### The quota test, from the worked example of chapter 2 -/

/-- A channel with this reserve and usage. -/
def quotaChannel (reserve usage : Nat) : Channel :=
  { Channel.reset with enabled := true, usage := usage, config := { ChannelConfig.default with reserve := reserve } }

/-- The state of the quota example: F = 8, U = 10. -/
def quota : State :=
  { State.reset with
    store := { Store.reset with free := 8 }
    channels := #v[quotaChannel 40 38, quotaChannel 16 20, quotaChannel 0 50, quotaChannel 0 50, quotaChannel 0 50,
      quotaChannel 8 0, quotaChannel 0 50, { quotaChannel 0 0 with enabled := false }] }

theorem test_quota : quota.unmetReserve = 10 ∧ quota.obtainable [2] = false ∧ quota.obtainable [1] = false
    ∧ quota.obtainable [0] = true ∧ quota.obtainable [2, 5] = true := by decide +kernel

/-! ### One step of each command -/

/-- The state after a command; every command has a next state. -/
def after (i : Instr) (s : State) : State :=
  match exec i s with
  | .next t => t
  | .fault _ => s
  | .refused _ => s

/-- Right after reset, with the session OPEN. -/
def opened : State := { State.reset with link := { Link.reset with session := .opened } }

/-- The reply in transmission: its kind, status and results. -/
def sent (s : State) : Option (Byte × Status × List Byte) :=
  match s.link.tx with
  | some m =>
    match m.what with
    | .reply r => some (r.kind, r.status, r.results)
    | _ => none
  | none => none

/-- A PROBING station of trunk 0 at address 21, with baseline 17. -/
def station : Station := { Station.fresh 0 21#8 0 true 3 with baseline := some 17#8 }

/-- The opened part with that station in slot 5 and the trunk given. -/
def withTrunk (x : Trunk) : State := (opened.setStation 5 (some station)).setTrunk 0 x

/-- Slot 5's turn, at its first attempt. -/
def turn : Turn :=
  { slot := 5, attempt := 1, directive := none, mark := false, startState := .probing, stage := .polling }

/-- A RUNNING trunk in a phase of slot 5's turn, its round with no place left. -/
def running (phase : Phase) (turn : Option Turn) : Trunk :=
  { Trunk.reset with state := .running, phase := phase, turn := turn, round := some { places := [], turned := true }
                     de := phase.isSending, txMark := !phase.isSending }

/-- A STARTING trunk. -/
def starting : Trunk :=
  { Trunk.reset with state := .starting, watch := some { idleFrom := some 0, limit := 100000, tag := 7#8 } }

/-- Channel 3 of the opened part, ENABLED with credit and one entry that names slot 9. -/
def withChannel (f : Channel → Channel) : State :=
  opened.setChannel 3 (f { Channel.reset with
    enabled := true, credit := 2, queue := [{ slot := 9, time := 0 }], usage := 1, offered := true })

/-- R140, Table 10-6: revision 1, mode 0, 64 stations, 48 rules, 4 bin sets, 256 slots, 8 channels, 32 directives, 4 of
one station, 8 requests, 12 replies, 32 notices, time base 0. -/
theorem test_linkOpen : sent (after (.linkOpen 1#8 [1]) State.reset) =
    some (0x01#8, .ok, [1, 0, 64, 48, 4, 0, 1, 8, 32, 4, 8, 12, 32, 0, 0, 0, 0])
    ∧ (after (.linkOpen 1#8 [1]) State.reset).link.session = .opened := by decide +kernel
theorem test_linkOpen_notOpen : sent (after (.stationList 1#8 []) State.reset) = some (0x23#8, .notOpen, []) := by
  decide +kernel
/-- Log entry 25: in an OPEN session the revision is checked first. -/
theorem test_linkOpen_again : sent (after (.linkOpen 1#8 [2]) opened) = some (0x01#8, .badArg, [])
    ∧ sent (after (.linkOpen 1#8 [1]) opened) = some (0x01#8, .wrongState, []) := by decide +kernel
theorem test_linkClose : (after (.linkClose 9#8 []) opened).link.session = .closing .answers 9#8
    ∧ sent (after (.linkClose 9#8 []) opened) = none := by decide +kernel
theorem test_partReset : (after (.partReset 9#8 []) opened).link.resetPending = true
    ∧ sent (after (.partReset 9#8 []) opened) = some (0x03#8, .ok, []) := by decide +kernel
theorem test_partReset_taken : (after (.messageCompletion 0) (after (.partReset 9#8 []) opened)).link.session = .closed
    ∧ (after (.messageCompletion 0) (after (.partReset 9#8 []) opened)).link.resetPending = false := by decide +kernel
theorem test_noticeMask : sent (after (.noticeMask 1#8 [0x21]) opened) = some (0x04#8, .ok, [0x21, 0, 0])
    ∧ (after (.noticeMask 1#8 [0x21]) opened).notices.mask = 0x21#8 := by decide +kernel
theorem test_noticeMask_reserved : sent (after (.noticeMask 1#8 [0x40]) opened) = some (0x04#8, .badArg, []) := by
  decide +kernel
theorem test_unknownKind : sent (after (.unknownKindFrame 0x7F#8 1#8 [1, 2]) opened) =
    some (0x7F#8, .unknownKind, []) := by decide +kernel
/-- R159 with the clear flag, on the CHANNEL group: seven counters, then the time base. -/
theorem test_countersRead :
    let s := withChannel fun c => { c with offered := false, queue := []
                                           counters := { ChannelCounters.zero with sent := 258, evictions := 1 } }
    sent (after (.countersRead 1#8 [2, 3, 1]) s) = some (0x05#8, .ok,
      [2, 3, 1, 7, 0, 0, 0, 0, 2, 1, 0, 0, 0, 0, 0, 0, 0, 0, 0, 0, 1, 0, 0, 0, 0, 0, 0, 0, 0, 0, 0, 0, 0, 0, 0, 0])
      ∧ ((after (.countersRead 1#8 [2, 3, 1]) s).channels[3]).counters = .zero := by decide +kernel

/-- The 36 bytes of an enabled rule with only kind 3 to 4 and TEE 6. -/
def ruleBytes : List Byte := [1, 2, 0, 0, 3, 4, 0, 56] ++ List.replicate 26 0#8 ++ [1, 6]

theorem test_ruleWrite : ((after (.ruleWrite 1#8 (47 :: ruleBytes)) opened).staging.slots[47]) =
    some { anyRule (.tee 6) with kindLow := 3#8, kindHigh := 4#8 } := by decide +kernel
theorem test_ruleWrite_slot : sent (after (.ruleWrite 1#8 (48 :: ruleBytes)) opened) = some (0x10#8, .badArg, []) := by
  decide +kernel
theorem test_ruleErase : sent (after (.ruleErase 1#8 [2]) { opened with staging := fourTable }) = some (0x11#8, .ok, [1])
    ∧ (after (.ruleErase 1#8 [2]) { opened with staging := fourTable }).staging.slots[2] = none
    ∧ sent (after (.ruleErase 1#8 [3]) { opened with staging := fourTable }) = some (0x11#8, .ok, [0]) := by
  decide +kernel
theorem test_setWrite : (after (.setWrite 1#8 [3, 1, 0, 0, 0, 0, 0, 0, 0x80]) opened).staging.bins[3] =
    0x8000000000000001#64 := by decide +kernel
theorem test_defaultWrite : (after (.defaultWrite 1#8 [0, 7]) opened).staging.defaultAction = .deliver 7
    ∧ sent (after (.defaultWrite 1#8 [3, 1]) opened) = some (0x13#8, .badArg, []) := by decide +kernel
theorem test_stageLoad :
    let s := { opened with active := { ActiveTable.reset with table := fourTable, generation := 258 } }
    (after (.stageLoad 1#8 []) s).staging = fourTable ∧ sent (after (.stageLoad 1#8 []) s) = some (0x14#8, .ok, [2, 1]) := by
  decide +kernel
/-- R24: generation 65,535 is followed by 1, and the hit counts return to 0. -/
theorem test_ruleCommit :
    let s := { opened with staging := fourTable
                           active := { ActiveTable.reset with generation := 65535, hits := Vector.replicate 48 5 } }
    sent (after (.ruleCommit 1#8 []) s) = some (0x15#8, .ok, [1, 0])
      ∧ (after (.ruleCommit 1#8 []) s).active.table = fourTable ∧ (after (.ruleCommit 1#8 []) s).active.hits[2] = 0 := by
  decide +kernel
/-- Chapter 11.5: a commit with expected generation 4 against generation 5. -/
theorem test_ruleCommit_conflict :
    sent (after (.ruleCommit 1#8 [4, 0]) { opened with active := { ActiveTable.reset with generation := 5 } }) =
      some (0x15#8, .conflict, [5, 0]) := by decide +kernel
theorem test_ruleRead :
    let s := { opened with active := { ActiveTable.reset with table := fourTable, generation := 7
                                                              hits := Vector.replicate 48 260 } }
    sent (after (.ruleRead 1#8 [0, 0, 9]) s) = some (0x16#8, .ok,
      [0, 0, 9, 0, 0, 7, 0, 1] ++ [1, 2, 0, 0, 0, 255, 0, 0] ++ List.replicate 26 0#8 ++ [3, 0, 4, 1, 0, 0]) := by
  decide +kernel

/-- The settings of Table 3-1's defaults but for depth 8, reserve 4 and hold 258 ms. -/
def settings : List Byte := [3, 1, 8, 4, 2, 1, 2, 1, 8, 7]

theorem test_channelEnable : ((after (.channelConfigEnable 1#8 settings) opened).channels[3]).config =
    { depth := 8, reserve := 4, policy := .defer, trigger := 1, hold := 258, high := 8, low := 7 }
    ∧ ((after (.channelConfigEnable 1#8 settings) opened).channels[3]).enabled = true
    ∧ sent (after (.channelConfigEnable 1#8 [3, 2, 16, 0, 0, 1, 0, 0, 12, 4]) opened) = some (0x18#8, .badArg, []) := by
  decide +kernel
theorem test_channelEnable_busy :
    sent (after (.channelConfigEnable 1#8 settings) (withChannel fun c => { c with offered := false, credit := 0 })) =
      some (0x18#8, .busy, []) := by decide +kernel
/-- R43, R47: the only reference to slot 9 ends, so the slot is free. -/
theorem test_channelDisable :
    let s := { withChannel id with
      store := { slots := setAt Store.reset.slots 9 (some { record := record 0, refs := 1 }), free := 255 } }
    let t := after (.channelConfigDisable 1#8 [3, 0, 0, 0, 0, 0, 0, 0, 0, 0]) s
    (t.channels[3]).queue = [] ∧ (t.channels[3]).credit = 0 ∧ t.store.free = 256
      ∧ sent t = some (0x18#8, .ok, [1]) := by decide +kernel
theorem test_channelCredit : sent (after (.channelCredit 1#8 [3, 255]) (withChannel fun c => { c with queue := [] })) =
    some (0x19#8, .ok, [255]) := by decide +kernel
theorem test_channelCredit_makes_ready :
    let t := after (.channelCredit 1#8 [3, 1]) (withChannel fun c => { c with credit := 0, offered := false })
    (t.channels[3]).offered = true ∧ t.attnLow = true := by decide +kernel
theorem test_channelFlush : sent (after (.channelFlush 1#8 [3]) (withChannel id)) = some (0x1A#8, .ok, [1])
    ∧ ((after (.channelFlush 1#8 [3]) (withChannel id)).channels[3]).credit = 2 := by decide +kernel
theorem test_channelQuery : sent (after (.channelQuery 1#8 [3]) (withChannel fun c => { c with offered := false })) =
    some (0x1B#8, .ok, [3, 1, 16, 0, 0, 1, 0, 0, 12, 4, 2, 1, 1, 0, 0]) := by decide +kernel
/-- R52, R53: the hold flag runs out at 50,000, and the channel below its trigger becomes ready. -/
theorem test_holdExpiry :
    let s := withChannel fun c => { c with holdDue := some 50000, offered := false
                                           config := { c.config with trigger := 4, hold := 50 } }
    (after (.holdExpiry 3) s).timeBase = 50000#32
      ∧ ((after (.holdExpiry 3) s).channels[3]).inflight = [9] ∧ ((after (.holdExpiry 3) s).channels[3]).credit = 1 := by
  decide +kernel

theorem test_stationAdd : sent (after (.stationAdd 6#8 [0, 21, 0]) opened) = some (0x20#8, .ok, [0])
    ∧ ((after (.stationAdd 6#8 [0, 21, 0]) opened).roster[0]).map Station.state = some .idle := by decide +kernel
theorem test_stationAdd_conflict : sent (after (.stationAdd 6#8 [0, 21, 3]) (withTrunk .reset)) =
    some (0x20#8, .conflict, []) := by decide +kernel
theorem test_stationSet : ((after (.stationSet 6#8 [5, 3]) (withTrunk .reset)).roster[5]).map Station.pollClass =
    some 3 := by decide +kernel
theorem test_stationQuery : sent (after (.stationQuery 6#8 [5]) (withTrunk .reset)) =
    some (0x22#8, .ok, [5, 0, 21, 1, 0, 0, 1, 17, 1, 0, 0, 0, 0]) := by decide +kernel
theorem test_stationList : sent (after (.stationList 6#8 []) (withTrunk .reset)) =
    some (0x23#8, .ok, [1, 5, 0, 21, 1]) := by decide +kernel
theorem test_stationSuspend : ((after (.stationSuspend 6#8 [5]) (withTrunk .reset)).roster[5]).map Station.state =
    some .suspended := by decide +kernel
theorem test_stationSuspend_pending :
    ((after (.stationSuspend 6#8 [5]) (withTrunk (running (.waiting 9) (some turn)))).roster[5]).map
      Station.suspendPending = some true := by decide +kernel
theorem test_stationResume :
    ((after (.stationResume 6#8 [5]) ((withTrunk .reset).setStation 5 (some { station with state := .suspended }))).roster[5]).map
      Station.state = some .idle := by decide +kernel
theorem test_stationRemove : sent (after (.stationRemove 6#8 [5]) (withTrunk .reset)) = some (0x26#8, .ok, [0])
    ∧ (after (.stationRemove 6#8 [5]) (withTrunk .reset)).roster[5] = none := by decide +kernel
theorem test_stationRemove_deferred :
    let t := after (.stationRemove 6#8 [5]) (withTrunk (running (.waiting 9) (some turn)))
    (t.roster[5]).map Station.state = some .removing ∧ sent t = none ∧ t.link.requests.length = 1 := by decide +kernel

theorem test_trunkConfig : ((after (.trunkConfig 6#8 [1, 7, 100, 0, 3, 15, 0xE8, 3]) opened).trunks[1]).config =
    { rate := 7, timeout := 100, retries := 3, missLimit := 15, period := 1000 } := by decide +kernel
theorem test_trunkConfig_timeout : sent (after (.trunkConfig 6#8 [1, 7, 99, 0, 3, 15, 0, 0]) opened) =
    some (0x28#8, .badArg, []) := by decide +kernel
theorem test_trunkStart : ((after (.trunkStart 7#8 [0]) opened).trunks[0]).watch =
    some { idleFrom := some 0, limit := 100000, tag := 7#8 } ∧ sent (after (.trunkStart 7#8 [0]) opened) = none
    ∧ ((after (.trunkStart 7#8 [0]) (withTrunk { Trunk.reset with roundCounter := 6 })).trunks[0]).roundCounter = 0 := by
  decide +kernel
theorem test_trunkStop : sent (after (.trunkStop 7#8 [0]) (withTrunk (running .idle none))) = some (0x2A#8, .ok, [0])
    ∧ ((after (.trunkStop 7#8 [0]) (withTrunk (running .idle none))).roster[5]).map Station.state = some .idle := by
  decide +kernel
theorem test_trunkStop_deferred :
    let t := after (.trunkStop 7#8 [0]) (withTrunk (running (.waiting 9) (some turn)))
    (t.trunks[0]).state = .stopping ∧ (t.trunks[0]).stopTag = some 7#8 ∧ sent t = none := by decide +kernel
theorem test_trunkQuery : sent (after (.trunkQuery 7#8 [0]) (withTrunk (running (.waiting 9) (some turn)))) =
    some (0x2B#8, .ok, [0, 2, 0, 4, 0xD0, 7, 1, 3, 100, 0, 0, 0, 2, 5, 1, 0]) := by decide +kernel
/-- Chapter 11.2: the idle run reaches 2,778 us, and round 0 starts with the due list (5). -/
theorem test_idleComplete :
    let s := (withTrunk starting).setStation 5 (some { station with state := .idle })
    let t := after (.idleComplete 0) s
    t.timeBase = 2778#32 ∧ (t.trunks[0]).state = .running
      ∧ (t.trunks[0]).round = some { places := [{ slot := 5, serial := 3 }], turned := false }
      ∧ (t.trunks[0]).counters.rounds = 1 ∧ (t.roster[5]).map Station.state = some .probing
      ∧ sent t = some (0x29#8, .ok, []) := by decide +kernel
/-- A STARTING trunk whose idle run counts from `f`. -/
def startingFrom (f : Option Time) : Trunk :=
  { starting with watch := some { idleFrom := f, limit := 100000, tag := 7#8 } }

/-- R94: a line that never rose is busy at the limit, and one whose run would be complete only after the limit is. -/
theorem test_startLimit :
    let t := after (.startLimitExpiry 0) (withTrunk (startingFrom none))
    (t.trunks[0]).cause = .lineBusy ∧ t.timeBase = 100000#32 ∧ sent t = some (0x29#8, .lineBusy, [])
      ∧ ((after (.startLimitExpiry 0) (withTrunk (startingFrom (some 97223)))).trunks[0]).state = .faulted
      ∧ ((after (.idleComplete 0) (withTrunk (startingFrom (some 97223)))).trunks[0]).state = .starting := by
  decide +kernel
/-- R94: a run complete before the limit comes first. -/
theorem test_startLimit_late : ((after (.startLimitExpiry 0) (withTrunk starting)).trunks[0]).state = .starting
    ∧ ((after (.lineLow 0 2779 5) (withTrunk starting)).trunks[0]).state = .running := by decide +kernel
theorem test_lineLow : ((after (.lineLow 0 10 5) (withTrunk starting)).trunks[0]).watch =
    some { idleFrom := some 15, limit := 100000, tag := 7#8 } := by decide +kernel
/-- After a framing error RXD is low, so no idle run counts; a rise that LINE_LOW has told of is kept (R94). -/
theorem test_strayByte :
    let x := (after (.strayByte 0 100 0#8 true) (withTrunk starting)).trunks[0]
    x.counters.strayBytes = 1 ∧ x.watch.map StartWatch.idleFrom = some none
      ∧ ((after (.strayByte 0 100 0#8 true) (withTrunk (startingFrom (some 150)))).trunks[0]).watch.map
          StartWatch.idleFrom = some (some 150)
      ∧ ((after (.strayByte 0 100 0#8 true) (withTrunk .reset)).trunks[0]).counters.strayBytes = 0 := by decide +kernel
/-- 0xF0 ends with four ones and the stop bit: five bit times at 115,200 bit/s are 43.4 us. -/
theorem test_strayByte_rise : ((after (.strayByte 0 100 0xF0#8 false) (withTrunk starting)).trunks[0]).watch.map
    StartWatch.idleFrom = some (some 57) := by decide +kernel
/-- Chapter 11.3: round 6 started at 400,000 and its period is 100 ms, so round 7 is armed for 500,000. -/
theorem test_round_pacing :
    (({ running .idle none with roundStart := 400000, roundCounter := 6 } : Trunk).roundEnded 450000 true).nextRound =
      some 500000
    ∧ (({ running .idle none with roundStart := 400000, roundCounter := 6 } : Trunk).roundEnded 450000 true).roundCounter
      = 7 := by decide +kernel
theorem test_roundStart :
    let s := withTrunk { running .idle none with round := none, nextRound := some 500000, roundCounter := 7 }
    (after (.roundStart 0) s).timeBase = 500000#32
      ∧ ((after (.roundStart 0) s).trunks[0]).round = some { places := [{ slot := 5, serial := 3 }], turned := false } := by
  decide +kernel
/-- R71: a place whose slot has a new occupant is skipped, and the round ends with it. -/
theorem test_turnBegin_skips :
    let s := withTrunk { running .idle none with round := some { places := [{ slot := 5, serial := 2 }], turned := false } }
    ((after (.turnBegin 0) s).trunks[0]).turn = none ∧ ((after (.turnBegin 0) s).trunks[0]).roundCounter = 1
      ∧ ((after (.turnBegin 0) s).trunks[0]).nextRound = some 100000 := by decide +kernel
/-- R101, R172: the POLL acknowledges the baseline, and DE goes high. -/
theorem test_turnBegin :
    let s := withTrunk { running .idle none with round := some { places := [{ slot := 5, serial := 3 }], turned := false } }
    let x := (after (.turnBegin 0) s).trunks[0]
    x.de = true ∧ x.turn = some turn ∧ x.phase = .sending (pollBytes 21#8 (some 17#8) none) 0 0
      ∧ (pollBytes 21#8 (some 17#8) none).take 7 = [0x3C, 21, 4, 1, 17, 0, 0] := by decide +kernel

/-- A trunk that has sent the first two of three bytes of a POLL. -/
def sending : Trunk := running (.sending [0x3C, 21, 4] 0 2) (some turn)

theorem test_echo : ((after (.echoCharacter 0 260 4#8 false) (withTrunk sending)).trunks[0]).phase = .waiting 2260
    ∧ ((after (.echoCharacter 0 260 4#8 false) (withTrunk sending)).trunks[0]).de = false
    ∧ ((after (.echoCharacter 0 260 5#8 false) (withTrunk sending)).trunks[0]).phase = .settling 521
    ∧ ((after (.echoCharacter 0 260 5#8 false) (withTrunk sending)).trunks[0]).echoRun = 1 := by decide +kernel
/-- R102: an echo before its stop bit has been sent is a fault; one after the deadline, a fault then and a stray byte. -/
theorem test_echo_window : ((after (.echoCharacter 0 259 4#8 false) (withTrunk sending)).trunks[0]).phase = .settling 520
    ∧ ((after (.echoCharacter 0 347 4#8 false) (withTrunk sending)).trunks[0]).phase = .waiting 2347
    ∧ (let x := (after (.echoCharacter 0 348 4#8 false) (withTrunk sending)).trunks[0]
       x.phase = .settling 608 ∧ x.counters.echoFaults = 1 ∧ x.counters.strayBytes = 1) := by decide +kernel
/-- R102: byte 3's stop bit is read to end at 260, and its echo is due within 87 us of that. -/
theorem test_echoDeadline : (after (.echoDeadlineExpiry 0) (withTrunk sending)).timeBase = 347#32
    ∧ ((after (.echoDeadlineExpiry 0) (withTrunk sending)).trunks[0]).counters.echoFaults = 1 := by decide +kernel
/-- R97, R89; R87: a REMOVING station goes, and its STATION_REMOVE is answered with the records discarded. -/
theorem test_third_echo_fault :
    let s := withTrunk { sending with echoRun := 2 }
    let t := after (.echoDeadlineExpiry 0) s
    let u := after (.echoDeadlineExpiry 0) (s.setStation 5 (some { station with
      state := .removing, removeTag := some 2#8, counters := { StationCounters.zero with discarded := 3 } }))
    ((t.trunks[0]).state = .faulted ∧ (t.trunks[0]).cause = .echo ∧ (t.roster[5]).map Station.state = some .idle)
      ∧ u.roster[5] = none ∧ sent u = some (0x26#8, .ok, [3]) := by decide +kernel
theorem test_replyStart : ((after (.replyStart 0 3) (withTrunk (running (.waiting 9) (some turn)))).trunks[0]).phase =
    .receiving [] none := by decide +kernel
/-- R103: a character that starts after the timeout is not of this attempt. -/
theorem test_replyStart_late :
    let x := (after (.replyStart 0 10) (withTrunk (running (.waiting 9) (some turn)))).trunks[0]
    x.phase = .settling 270 ∧ x.counters.timeouts = 1 := by decide +kernel
theorem test_replyTimeout :
    let x := (after (.replyTimeout 0) (withTrunk (running (.waiting 2260) (some turn)))).trunks[0]
    x.phase = .settling 2521 ∧ x.turn = some { turn with attempt := 2 } ∧ x.counters.timeouts = 1 := by decide +kernel
theorem test_replyTimeout_miss :
    let s := withTrunk (running (.waiting 2260) (some { turn with attempt := 2 }))
    ((after (.replyTimeout 0) s).trunks[0]).turn = some { turn with attempt := 2, stage := .missed }
      ∧ ((after (.replyTimeout 0) s).roster[5]).map (fun st => st.counters.misses) = some 1 := by decide +kernel

/-- The characters of a REPLY of station 21, less the last: acknowledgement 0, no restart, record 17 and record 19
of kind 5 with no payload. Its check word, 0x8F0C, was computed outside the model. -/
def replyChars : List Byte := [0x3E, 21, 10, 0, 0, 0, 2, 5, 17, 0, 5, 19, 0, 0x8F]

/-- The stage after that REPLY, taken at time 9. -/
def walked (todo : List ReplyRecord) (screened : Option Screened) : Turn :=
  { turn with stage := .replied 9 todo screened }

theorem test_replyCharacter :
    let t := after (.replyCharacter 0 9 0x0C#8 false) (withTrunk (running (.receiving replyChars (some 99)) (some turn)))
    (t.trunks[0]).turn = some (walked [⟨5#8, 17#8, []⟩, ⟨5#8, 19#8, []⟩] none)
      ∧ (t.trunks[0]).phase = .settling 270 ∧ (t.roster[5]).map Station.lastHit = some (some 9)
      ∧ ((after (.replyCharacter 0 9 0x0D#8 false)
      (withTrunk (running (.receiving replyChars (some 99)) (some turn)))).trunks[0]).counters.crcFailures = 1 := by
  decide +kernel
/-- R104: at 115,200 bit/s a character taken at 261 started at 174, one taken at 262 after the gap expiry. -/
theorem test_replyCharacter_late :
    let x (dt : Nat) := (after (.replyCharacter 0 dt 21#8 false)
      (withTrunk (running (.receiving [0x3E] (some 174)) (some turn)))).trunks[0]
    (x 261).phase = .receiving [0x3E, 21] (some 435) ∧ (x 262).phase = .settling 435
      ∧ (x 262).counters.broken = 1 ∧ (x 262).counters.strayBytes = 1 := by decide +kernel
theorem test_gapExpiry :
    let x := (after (.gapExpiry 0) (withTrunk (running (.receiving [0x3E] (some 174)) (some turn)))).trunks[0]
    x.phase = .settling 435 ∧ x.counters.broken = 1 := by decide +kernel
theorem test_settleEnd_retry :
    let x := (after (.settleEnd 0) (withTrunk (running (.settling 435) (some { turn with attempt := 2 })))).trunks[0]
    x.phase = .sending (pollBytes 21#8 (some 17#8) none) 435 0 ∧ x.de = true := by decide +kernel
theorem test_settleEnd_rest :
    ((after (.settleEnd 0) (withTrunk (running (.settling 435) none))).trunks[0]).phase = .idle := by decide +kernel
/-- R79: record 17 repeats the baseline 17. -/
theorem test_sequence_duplicate :
    let t := after (.sequenceCheck 0) (withTrunk (running .idle (some (walked [⟨5#8, 17#8, []⟩] none))))
    (t.roster[5]).map (fun st => st.counters.duplicates) = some 1 ∧ t.link.counters.screened = 0 := by decide +kernel
/-- R79, R81: record 19 is two ahead of 17, a gap of one; the empty table discards it by its default action. -/
theorem test_sequence_gap :
    let t := after (.sequenceCheck 0) (withTrunk (running .idle (some (walked [⟨5#8, 19#8, []⟩] none))))
    (t.roster[5]).map Station.baseline = some (some 19#8) ∧ (t.roster[5]).map (fun st => st.counters.gapLost) = some 1
      ∧ t.link.counters.discarded = 1 := by decide +kernel

/-- A record on its way to channel 3. -/
def screened : Screened := { record := record 0, gap := 0, channels := [3], applied := [2], generation := 0 }

/-- Chapter 11.2: an admission to an empty channel with credit; the batch is picked in the same event. R49, R52: an
admission behind an entry that has waited its hold time of 1 ms finds the flag run out, and one behind an entry that has
waited 999 us does not. -/
theorem test_admission :
    let s := withTrunk (running .idle (some (walked [] (some screened))))
    let t := after (.admission 0) (s.setChannel 3 { Channel.reset with enabled := true, credit := 8 })
    let x := { Channel.reset with enabled := true, config := { ChannelConfig.default with trigger := 4, hold := 1 }
                                  queue := [{ slot := 9, time := 0 }], usage := 1, holdDue := some 1000 }
    let behind (now : Time) : Channel := (after (.admission 0) { s.setChannel 3 x with timeBase := now }).channels[3]
    t.store.free = 255 ∧ (t.channels[3]).inflight = [0] ∧ (t.channels[3]).credit = 7 ∧ (t.channels[3]).usage = 1
      ∧ (t.roster[5]).map Station.baseline = some (some 1#8) ∧ t.active.hits[2] = 1 ∧ t.active.hits[3] = 0
      ∧ ((behind 1000).queue.length = 2 ∧ (behind 1000).holdRunOut = true ∧ (behind 1000).holdDue = none)
      ∧ (behind 999).holdRunOut = false ∧ (behind 999).holdDue = some 1000 := by decide +kernel
/-- Chapter 11.4: no slot for a DEFER channel. -/
theorem test_admission_deferred :
    let s := (withTrunk (running .idle (some (walked [⟨5#8, 12#8, []⟩] (some screened))))).setChannel 3
      { Channel.reset with enabled := true, config := { ChannelConfig.default with policy := .defer } }
    let t := after (.admission 0) { s with store := { Store.reset with free := 0 } }
    (t.trunks[0]).turn = some (walked [] none) ∧ (t.roster[5]).map Station.baseline = some (some 17#8)
      ∧ (t.roster[5]).map (fun st => st.counters.deferrals) = some 1 := by decide +kernel
/-- Table 4-3: a HIT makes a PROBING station ACTIVE, its third MISS makes it LOST. -/
theorem test_turnClose :
    ((after (.turnClose 0) (withTrunk (running .idle (some (walked [] none))))).roster[5]).map Station.state =
      some .active
    ∧ (let s := (withTrunk (running .idle (some { turn with stage := .missed }))).setStation 5
         (some { station with missCount := 2 })
       ((after (.turnClose 0) s).roster[5]).map Station.state = some .lost) := by decide +kernel
/-- R96: a STOPPING trunk stops with its turn, its stations IDLE, the TRUNK_STOP answered; R87: a REMOVING station goes, its
STATION_REMOVE answered. -/
theorem test_turnClose_ends :
    (let t := after (.turnClose 0) (withTrunk { running .idle (some { turn with stage := .missed }) with
       state := .stopping, round := none, stopTag := some 4#8 })
     (t.trunks[0]).state = .stopped ∧ (t.roster[5]).map Station.state = some .idle ∧ sent t = some (0x2A#8, .ok, [0]))
    ∧ (let t := after (.turnClose 0) ((withTrunk (running .idle (some { turn with stage := .missed }))).setStation 5
         (some { station with state := .removing, removeTag := some 2#8
                              counters := { StationCounters.zero with discarded := 3 } }))
       t.roster[5] = none ∧ sent t = some (0x26#8, .ok, [3])) := by decide +kernel

/-- Directive 41 of slot 5, number 13, limit 2, one attempt made (chapter 11.6). -/
def directive (state : DirectiveState) : Directive :=
  { id := 41, slot := 5, number := 13, payload := [9], limit := 2, attempts := 1, state := state }

/-- The part with that directive and slot 5 occupied. -/
def withDirective (state : DirectiveState) : State := (withTrunk .reset).setDirectives [directive state]

theorem test_directiveSubmit : sent (after (.directiveSubmit 1#8 ([5, 0, 1, 9] ++ List.replicate 15 0#8)) (withTrunk .reset)) =
    some (0x30#8, .ok, [1, 0, 1])
    ∧ ((after (.directiveSubmit 1#8 ([5, 0, 1, 9] ++ List.replicate 15 0#8)) (withTrunk .reset)).directives.entries).map
      Directive.limit = [4] := by decide +kernel
theorem test_directiveSubmit_tail :
    sent (after (.directiveSubmit 1#8 ([5, 0, 1, 9, 1] ++ List.replicate 14 0#8)) (withTrunk .reset)) =
      some (0x30#8, .badArg, []) := by decide +kernel
/-- Chapter 11.6: an AWAITING directive is WITHDRAWN. -/
theorem test_directiveCancel : sent (after (.directiveCancel 1#8 [41, 0]) (withDirective .awaiting)) =
    some (0x31#8, .ok, [4, 1]) := by decide +kernel
theorem test_directiveCancel_attached : sent (after (.directiveCancel 1#8 [41, 0]) (withDirective (.attached true))) =
    some (0x31#8, .tooLate, []) := by decide +kernel
theorem test_directiveQuery : sent (after (.directiveQuery 1#8 [41, 0]) (withDirective (.attached true))) =
    some (0x32#8, .ok, [41, 0, 5, 13, 2, 1, 1, 2, 1, 1, 9] ++ List.replicate 15 0#8) := by decide +kernel
/-- Chapter 11.6: acknowledgement 0 on the last attempt exhausts the directive. -/
theorem test_settle_exhausted :
    (((withDirective (.attached true)).settle { turn with directive := some 41, mark := true } (some (0#8, 0#8))).notices.entries).map
      NoticeEntry.notice = [.directiveDone 41 5 .exhausted 0#8 2] := by decide +kernel

/-- A delimiter, and the end of a STATION_LIST frame, tag 1, whose check word, 0x1F62, was computed outside the model. -/
theorem test_inbound : (after (.inboundByte 5 0xA5#8 false) opened).link.receiver = .collecting []
    ∧ (after (.inboundByte 5 0xA5#8 false) opened).timeBase = 5#32
    ∧ sent (after (.inboundByte 0 0xA5#8 false) { opened with
      link := { opened.link with receiver := .collecting [0x23, 1, 0, 0, 0x1F, 0x62] } }) =
        some (0x23#8, .ok, [0]) := by decide +kernel
theorem test_messageCompletion :
    let s := after (.stationList 1#8 []) opened
    s.link.requests.length = 1 ∧ (after (.messageCompletion 0) s).link.requests = []
      ∧ (after (.messageCompletion 0) s).link.replies = [] ∧ (after (.messageCompletion 0) s).attnLow = false := by
  decide +kernel

/-- A session in a stage of its close. -/
def closing (stage : CloseStage) (s : State) : State :=
  { s with link := { s.link with session := .closing stage 9#8
                                 requests := [{ tag := 9#8, kind := 0x02#8, answered := false }] } }

theorem test_closeStopStep :
    let t := after .closeStopStep (closing .answers (withTrunk (running .idle none)))
    (t.trunks[0]).state = .stopped ∧ (t.roster[5]).map Station.state = some .idle := by decide +kernel
theorem test_closeDirectiveStep :
    let t := after .closeDirectiveStep (closing .stopping ((withChannel id).setDirectives [directive .pending]))
    (t.channels[3]).queue = [] ∧ (t.channels[3]).credit = 0 ∧ t.directives.entries = []
      ∧ t.link.session = .closing .batches 9#8 := by decide +kernel
theorem test_closeEnd : sent (after .closeEnd (closing .batches opened)) = some (0x02#8, .ok, [])
    ∧ (after .closeEnd (closing .batches opened)).link.session = .closed := by decide +kernel

theorem test_resetAssert : (after .resetAssert (withChannel id)).inReset = true
    ∧ (after .resetAssert (withChannel id)).attnLow = false
    ∧ (after (.channelFlush 1#8 [3]) (after .resetAssert (withChannel id))).timeBase = 0#32 := by decide +kernel
theorem test_resetRelease : (after (.resetRelease true false) (after .resetAssert opened)).mode = .spi
    ∧ (after (.resetRelease true false) (after .resetAssert opened)).link.session = .closed := by decide +kernel

/-- A reply is in transmission. -/
def transmitting : State := after (.stationList 1#8 []) opened

theorem test_holdAssert : (after (.holdAssert 3) transmitting).hostOut = .mark
    ∧ (after (.messageCompletion 0) (after (.holdAssert 3) transmitting)).link.tx.isSome = true := by decide +kernel
theorem test_holdRelease : (after .holdRelease (after (.holdAssert 3) transmitting)).hostOut = .sending := by
  decide +kernel

/-- A reply of which the host has clocked out `n` bytes in the SPI mode. -/
def clocking (n : Nat) : State :=
  { transmitting with mode := .spi, link := { transmitting.link with
      tx := transmitting.link.tx.map fun m => { m with sent := n } } }

theorem test_hcsHigh : (after .hcsHigh (clocking 0)).hostOut = .highZ := by decide +kernel
/-- R129: an exchange sends the message's next byte; one whose first clock came before the message was picked, the
fill byte. R132: the reply of a STATION_LIST without stations has 11 bytes on the wire when none is stuffed; the
exchange of the last completes it, and nothing before does. -/
theorem test_exchange : ((after (.inboundByte 0 0xA5#8 false) (clocking 0)).link.tx).map Transmission.sent = some 1
    ∧ (after (.inboundByte 0 0xA5#8 false) (clocking 1)).hostOut = .driving 0x80#8
    ∧ (after (.inboundByte 0 0xA5#8 true) (clocking 0)).hostOut = .driving 0xA5#8
    ∧ ((after (.inboundByte 0 0xA5#8 true) (clocking 0)).link.tx).map Transmission.sent = some 0
    ∧ transmitting.link.tx.map (fun m => m.wire.length) = some 11
    ∧ (after (.inboundByte 0 0xA5#8 false) (clocking 10)).link.tx = none
    ∧ (after (.inboundByte 0 0xA5#8 false) (clocking 10)).link.requests = []
    ∧ ((after (.inboundByte 0 0xA5#8 false) (clocking 9)).link.tx).map Transmission.sent = some 10
    ∧ ((after (.messageCompletion 0) (clocking 9)).link.tx).isSome = true
    ∧ (after (.messageCompletion 0) (clocking 10)).link.tx = none := by decide +kernel

/-- R163: with no command waiting a step is one microsecond. -/
theorem test_tick : step opened = .next { opened with timeBase := 1#32 } := rfl

/-- Chapter 7, the example of two channels waiting, picks 5 and 1: after a run of 4 the batch of channel 5 goes out,
sought from channel 3. -/
theorem test_pick :
    let x : Channel := { Channel.reset with enabled := true, credit := 2, queue := [{ slot := 9, time := 0 }]
                                            usage := 1, offered := true }
    let s := (opened.setChannel 2 x).setChannel 5 x
    let linked (run : Nat) : State := { s with link := { s.link with
      lastServed := 2, nonBatchRun := run
      replies := [{ tag := 1#8, kind := 0x23#8, status := .ok, results := [], refusal := false }] } }
    ((linked 4).finish false).link.lastServed = 5 ∧ ((linked 4).finish false).link.nonBatchRun = 0
      ∧ ((linked 0).finish false).link.nonBatchRun = 1 ∧ ((linked 0).finish false).link.lastServed = 2 := by
  decide +kernel

/-! ### Witnesses: for each statement with hypotheses, states and operands that meet them, at the edges of each clause -/

/-- A state whose link is the opened one's takes a request under tag 1. -/
theorem takes {s : State} (hr : s.inReset = false) (hl : s.link = opened.link) : TakesRequest s 1#8 := by
  unfold TakesRequest; rw [hl]; exact ⟨hr, rfl, rfl, by decide, by decide, by decide⟩

theorem witness_takes : TakesRequest opened 1#8 := takes rfl rfl

/-- The part with RESET# low. -/
def inReset : State := { State.reset with inReset := true }

theorem witness_StepRunsFrontCommand : (inReset.pending = [] ∧ inReset.inReset = true)
    ∧ (opened.pending = [] ∧ opened.inReset = false) := by decide +kernel

/-- The hypotheses of `OnlyCommitChangesActiveTable` but the first. -/
def keepsActive (i : Instr) (s : State) : Prop :=
  (∀ tag body, i ≠ .ruleCommit tag body) ∧ i ≠ .resetAssert ∧ (∀ a b, i ≠ .resetRelease a b)
    ∧ (∀ dt mark, i = .inboundByte dt 0xA5#8 mark → (mark = false ∨ s.mode = .spi) →
      ∀ tag body, s.link.receiver ≠ .collecting (frameContent 0x15#8 tag body))
    ∧ ∀ m r, m.what = .reply r → r.kind = 0x03#8 → r.refusal = false →
      (∀ dt value mark, i = .inboundByte dt value mark → s.mode = .spi → ¬ s.ClocksOut mark m)
      ∧ ∀ dt, i = .messageCompletion dt → s.link.tx = some m →
        if s.mode = .spi then m.sent + 1 < m.wire.length else s.holdLow = true ∧ m.sent < m.wire.length

theorem witness_OnlyCommit_request : (∃ t, exec (.noticeMask 1#8 [0]) opened = .next t)
    ∧ keepsActive (.noticeMask 1#8 [0]) opened :=
  ⟨⟨_, rfl⟩, by simp, by simp, by simp, by simp, by simp⟩
/-- The delimiter of a STATION_LIST frame in the SPI mode, with the end of a STATION_LIST reply clocked out beside it. -/
theorem witness_OnlyCommit_byte :
    let s : State := { clocking 10 with link := { (clocking 10).link with
      receiver := .collecting (frameContent 0x23#8 1#8 []) } }
    (∃ t, exec (.inboundByte 0 0xA5#8 false) s = .next t) ∧ keepsActive (.inboundByte 0 0xA5#8 false) s := by
  refine ⟨⟨_, rfl⟩, by simp, by simp, by simp, fun _ _ _ _ tag body h => ?_, fun m r hw hk _ => ⟨?_, by simp⟩⟩
  · injection h with h; simp [frameContent, frameHead] at h
  · rintro _ _ mark - - ⟨h, -⟩
    have e : (clocking 10).link.tx.map Transmission.what = some (.reply r) :=
      (congrArg (Option.map Transmission.what) h).trans (congrArg some hw)
    cases (show some (Outgoing.reply (acceptedReply 0x23#8 1#8 .ok [0])) = _ from e)
    exact absurd hk (by decide)
/-- A completion while HOLD# pauses a PART_RESET reply, its last byte but one sent. -/
theorem witness_OnlyCommit_completion :
    let s := after (.holdAssert 9) (after (.partReset 1#8 []) opened)
    (∃ t, exec (.messageCompletion 0) s = .next t) ∧ keepsActive (.messageCompletion 0) s := by
  refine ⟨⟨_, rfl⟩, by simp, by simp, by simp, by simp, fun m r _ _ _ => ⟨by simp, fun _ _ h => ?_⟩⟩
  have e : decide (m.sent < m.wire.length) = true := by
    have : (after (.holdAssert 9) (after (.partReset 1#8 []) opened)).link.tx.map
      (fun m => decide (m.sent < m.wire.length)) = some true := by decide +kernel
    rw [h] at this; simpa using this
  exact ⟨rfl, of_decide_eq_true e⟩

theorem witness_RequestsLeaveTimeBase : (frameOf (.noticeMask 1#8 [0])).isSome = true
    ∧ ∃ t, exec (.noticeMask 1#8 [0]) opened = .next t := ⟨rfl, _, rfl⟩

/-- The part with these tags outstanding. -/
def outstanding (tags : List Byte) : State :=
  { opened with link := { opened.link with
    requests := tags.map fun t => { tag := t, kind := 0x29#8, answered := false } } }

/-- The common hypotheses of `AcceptanceRefusesInOrder`. -/
def atAcceptance (i : Instr) (s : State) (kind tag : Byte) (body : List Byte) : Prop :=
  WellFormed i = true ∧ frameOf i = some (kind, tag, body) ∧ s.inReset = false ∧ s.link.resetPending = false

/-- Some rows of Table 10-5, as `AcceptanceRefusesInOrder` lists them, and a kind of no row. -/
theorem witness_Acceptance_tag_kind_length :
    atAcceptance (.stationList 0#8 []) opened 0x23#8 0#8 []
    ∧ (atAcceptance (.unknownKindFrame 0x33#8 1#8 []) opened 0x33#8 1#8 []
      ∧ ∀ e ∈ ([(0x32#8, [2]), (0x15#8, [0, 2])] : List (Byte × List Nat)), e.1 ≠ 0x33#8)
    ∧ (atAcceptance (.ruleCommit 1#8 [0]) opened 0x15#8 1#8 [0]
      ∧ (0x15#8, [0, 2]) ∈ ([(0x14#8, [0]), (0x15#8, [0, 2])] : List (Byte × List Nat))
      ∧ [(0 : Byte)].length ∉ [0, 2]) := by
  unfold atAcceptance; decide +kernel

theorem witness_Acceptance_session :
    (atAcceptance (.linkClose 1#8 []) State.reset 0x02#8 1#8 [] ∧ ([] : List Byte).length ∈ [0]
      ∧ State.reset.link.session = .closed)
    ∧ (atAcceptance (.linkOpen 1#8 [1]) (closing .answers opened) 0x01#8 1#8 [1]
      ∧ (closing .answers opened).link.session = .closing .answers 9#8) := by
  unfold atAcceptance; decide +kernel

theorem witness_Acceptance_table :
    (atAcceptance (.partReset 9#8 []) (closing .answers opened) 0x03#8 9#8 []
      ∧ ∃ r ∈ (closing .answers opened).link.requests, r.tag = 9#8)
    ∧ (atAcceptance (.stationList 9#8 []) (outstanding [1, 2, 3, 4, 5, 6, 7, 8]) 0x23#8 9#8 []
      ∧ (∀ r ∈ (outstanding [1, 2, 3, 4, 5, 6, 7, 8]).link.requests, r.tag ≠ 9#8)
      ∧ 8 ≤ (outstanding [1, 2, 3, 4, 5, 6, 7, 8]).link.requests.length) := by
  unfold atAcceptance; decide +kernel

/-- The opened part with these notices queued. -/
def noticed (es : List NoticeEntry) : State := opened.setNotices { NoticeQueue.reset with entries := es }

/-- A queued notice. -/
def queued (n : Notice) : NoticeEntry := { time := 0, mergeOpen := true, notice := n }

/-- The arbiter has picked in the SPI mode, and all of the message but its closing delimiter is clocked out. -/
def spiEnd (s : State) : State :=
  let t := { s with mode := .spi }.finish false
  { t with link := { t.link with tx := t.link.tx.map fun m => { m with sent := m.wire.length - 1 } } }

/-- The part with this receiver. -/
def receiving (r : Receiver) : State := { opened with link := { opened.link with receiver := r } }

theorem witness_ReceiverFollowsItsTable_rest :
    (∀ r, (receiving r).inReset = false ∧ (receiving r).mode ≠ .spi ∧ (receiving r).link.receiver = r) := by
  exact fun _ => ⟨rfl, fun h => LinkMode.noConfusion h, rfl⟩
/-- In the SPI mode: nothing to clock out, a byte before the end, a first byte that came before the pick, and the end of
a reply, of a notice and of a batch. -/
theorem witness_ReceiverFollowsItsTable_spi :
    (∀ mark m, ¬ ({ opened with mode := .spi } : State).ClocksOut mark m)
    ∧ (∀ m, ¬ (clocking 9).ClocksOut false m) ∧ (∀ m, ¬ (clocking 0).ClocksOut true m)
    ∧ (∃ m r, (clocking 10).ClocksOut true m ∧ m.what = .reply r ∧ (clocking 10).link.replies = r :: []
      ∧ r.kind ≠ 0x03#8)
    ∧ (∃ m e, (spiEnd (noticed [queued (.noticeLost 1)])).ClocksOut false m ∧ m.what = .notice e)
    ∧ ∃ m, (spiEnd (withChannel id)).ClocksOut false m ∧ m.what = .batch 3 := by
  refine ⟨fun _ _ h => ?_, fun m h => ?_, fun m h => ?_, ⟨_, _, ⟨rfl, by decide +kernel, by decide +kernel⟩, rfl, rfl,
    by decide +kernel⟩, ⟨_, _, ⟨rfl, by decide +kernel, by decide +kernel⟩, rfl⟩,
    ⟨_, ⟨rfl, by decide +kernel, by decide +kernel⟩, rfl⟩⟩
  · cases (show none = some _ from h.1)
  · have e : (clocking 9).link.tx.map (fun m => decide (m.wire.length ≤ m.sent + 1)) = some false := by decide +kernel
    rw [h.1] at e; simpa using absurd h.2.2 (by simpa using e)
  · have e : (clocking 0).link.tx.map Transmission.sent = some 0 := by decide +kernel
    rw [h.1] at e; exact h.2.1 ⟨rfl, by simpa using e⟩

/-- Contents of 0, 1, 2 and 6 bytes at their delimiter: empty, too short, a bad check word, a good check word over
four bytes whose length field disagrees; and contents of 533 and 534 bytes. The check words were computed outside. -/
theorem witness_ReceiverFollowsItsTable_contents :
    ([] : List Byte).length = 0 ∧ ([5] : List Byte).length = 1
    ∧ crcBytes (crc16 (([5, 6] : List Byte).take 0)) ≠ ([5, 6] : List Byte).drop 0
    ∧ (crcBytes (crc16 (([0x23, 1, 0, 0, 0x1F, 0x62] : List Byte).take 4)) =
        ([0x23, 1, 0, 0, 0x1F, 0x62] : List Byte).drop 4)
    ∧ (crcBytes (crc16 (([0xFF, 0xFF] : List Byte).take 0)) = ([0xFF, 0xFF] : List Byte).drop 0
        ∧ ([0xFF, 0xFF] : List Byte).length < 6)
    ∧ (crcBytes (crc16 (([0x23, 1, 5, 0, 0xE0, 0x97] : List Byte).take 4)) =
          ([0x23, 1, 5, 0, 0xE0, 0x97] : List Byte).drop 4 ∧ u16At [0x23, 1, 5, 0, 0xE0, 0x97] 2 ≠ 6 - 6)
    ∧ (List.replicate 533 (0 : Byte)).length < 534 ∧ 534 ≤ (List.replicate 534 (0 : Byte)).length := by
  decide +kernel

theorem witness_GoodFrameRunsItsRequest : WellFormed (.stationList 1#8 []) = true
    ∧ frameOf (.stationList 1#8 []) = some (0x23#8, 1#8, [])
    ∧ (receiving (.collecting (frameContent 0x23#8 1#8 []))).inReset = false
    ∧ (receiving (.collecting (frameContent 0x23#8 1#8 []))).mode ≠ .spi
    ∧ (receiving (.collecting (frameContent 0x23#8 1#8 []))).link.receiver = .collecting (frameContent 0x23#8 1#8 []) := by
  decide +kernel
/-- In the SPI mode, with no message and at the end of one. -/
theorem witness_GoodFrame_spi :
    (∀ m, ¬ ({ receiving (.collecting (frameContent 0x23#8 1#8 [])) with mode := .spi } : State).ClocksOut true m)
    ∧ ∃ m r t, (clocking 10).ClocksOut true m ∧ m.what = .reply r ∧ exec (.stationList 1#8 []) (clocking 10) = .next t
      ∧ t.link.replies.head? = some r ∧ r.kind ≠ 0x03#8 := by
  refine ⟨fun _ h => ?_, _, _, _, ⟨rfl, by decide +kernel, by decide +kernel⟩, rfl, rfl, by decide +kernel,
    by decide +kernel⟩
  cases (show none = some _ from h.1)

theorem witness_SentFramesAreReceivedGood : (List.replicate 528 (0xA5 : Byte)).length ≤ 528 := by decide +kernel

theorem witness_LinkOpenOpensAClosedSession :
    State.reset.inReset = false ∧ State.reset.link.resetPending = false ∧ (1#8 : Byte) ≠ 0#8
    ∧ (∀ r ∈ State.reset.link.requests, r.tag ≠ 1#8) ∧ State.reset.link.requests.length < 8
    ∧ State.reset.link.session = .closed ∧ opened.link.session = .opened := by decide +kernel

theorem witness_CloseBeginsAndEnds : TakesRequest opened 1#8
    ∧ ((closing .batches opened).inReset = false ∧ (closing .batches opened).link.session = .closing .batches 9#8
      ∧ ∀ c : ChannelId, ((closing .batches opened).channels[c]).inflight = [])
    ∧ ∃ c : ChannelId,
      ((closing .batches (withChannel fun x => { x with inflight := [1] })).channels[c]).inflight ≠ [] :=
  ⟨takes rfl rfl, by decide +kernel, 3, by decide +kernel⟩

/-- A close that began while a TRUNK_START waited for its idle watch. -/
def closingStart : State :=
  { withTrunk starting with link := { opened.link with
    session := .closing .answers 9#8
    requests := [{ tag := 7#8, kind := 0x29#8, answered := false }, { tag := 9#8, kind := 0x02#8, answered := false }] } }

theorem witness_CloseStopStepStopsTrunks :
    closingStart.inReset = false ∧ closingStart.link.session = .closing .answers 9#8
    ∧ ∃ r ∈ closingStart.link.requests, r.answered = false ∧ r.tag ≠ 9#8 := by
  decide +kernel
theorem witness_CloseDirectiveStepEmptiesQueues :
    (closing .stopping (withChannel id)).inReset = false
    ∧ (closing .stopping (withChannel id)).link.session = .closing .stopping 9#8
    ∧ (∀ k : TrunkId, ((closing .stopping (withChannel id)).trunks[k]).state = .stopped)
    ∧ ∀ c : ChannelId, 1 ≤ ((closing .stopping (withChannel id)).channels[c]).config.high := by decide +kernel

theorem witness_PartResetTakesEffectAtItsReply :
    let s := after (.partReset 9#8 []) opened
    (s.inReset = false ∧ s.link.resetPending = true ∧ (frameOf (.stationList 1#8 [])).isSome = true)
    ∧ s.link.tx.map Transmission.what = some (.reply (acceptedReply 0x03#8 9#8 .ok [])) ∧ s.holdLow = false := by
  decide +kernel
/-- In the SPI mode at the closing delimiter. -/
theorem witness_PartReset_spi : ∃ m,
    (spiEnd (after (.partReset 9#8 []) opened)).ClocksOut false m
      ∧ m.what = .reply (acceptedReply 0x03#8 9#8 .ok []) :=
  ⟨_, ⟨rfl, by decide +kernel, by decide +kernel⟩, rfl⟩

theorem witness_HoldAndSelectPins :
    (transmitting.inReset = false ∧ transmitting.mode ≠ .spi ∧ transmitting.holdLow = false
      ∧ transmitting.link.tx.isSome = true)
    ∧ ({ transmitting with mode := .spi } : State).mode = .spi
    ∧ ((after (.holdAssert 3) transmitting).holdLow = true
      ∧ (after (.holdAssert 3) transmitting).link.tx.map (fun m => decide (m.sent < m.wire.length)) = some true)
    ∧ (let s : State := { opened with mode := .spi }
       s.inReset = false ∧ s.mode = .spi ∧ s.link.tx = none ∧ s.link.replies = [] ∧ s.notices.entries = []
        ∧ ∀ c : ChannelId, (s.channels[c]).offered = false) := by decide +kernel

theorem witness_ArbiterPicksInOrder_busy : transmitting.inReset = false ∧ transmitting.link.tx.isSome = true := by
  decide +kernel
/-- Channels 2 and 5 offered, last served 2: channel 5 is nearer. -/
def twoOffers : State :=
  let x : Channel := { Channel.reset with enabled := true, credit := 2, queue := [{ slot := 9, time := 0 }]
                                          usage := 1, offered := true }
  let s := (opened.setChannel 2 x).setChannel 5 x
  { s with link := { s.link with lastServed := 2, nonBatchRun := 4 } }

/-- The five conditions of readiness as `ArbiterPicksInOrder` has them. -/
abbrev readyBy53 (x : Channel) : Prop := x.enabled = true ∧ 1 ≤ x.credit ∧ x.queue ≠ [] ∧ x.inflight = []
  ∧ (x.config.trigger ≤ x.queue.length ∨ x.holdRunOut = true)

theorem witness_ArbiterPicksInOrder_batch :
    twoOffers.inReset = false ∧ twoOffers.link.tx = none ∧ twoOffers.link.nonBatchRun = 4
    ∧ (∀ c : ChannelId, (twoOffers.channels[c]).offered = true ↔ readyBy53 twoOffers.channels[c])
    ∧ (twoOffers.channels[(5 : ChannelId)]).offered = true
    ∧ (∀ d : ChannelId, (twoOffers.channels[d]).offered = true →
      (5 + 7 - twoOffers.link.lastServed.1) % 8 ≤ (d.1 + 7 - twoOffers.link.lastServed.1) % 8)
    ∧ twoOffers.link.replies = [] ∧ twoOffers.notices.entries = [] := by decide +kernel
/-- Ready by the trigger, and by a hold flag that has run out; a batch of one that leaves an entry which has waited 999 us
of 1 ms or the whole of it, and a FILLING level. -/
theorem witness_ArbiterPicksInOrder_ready :
    readyBy53 ((withChannel id).channels[(3 : ChannelId)])
    ∧ (let x : Channel := { Channel.reset with
        enabled := true, credit := 1, usage := 2, queue := [{ slot := 9, time := 0 }, { slot := 8, time := 1 }]
        config := { ChannelConfig.default with trigger := 8, hold := 1, high := 2, low := 1 }
        level := .filling, holdRunOut := true }
      readyBy53 x ∧ min x.queue.length (min x.credit 8) = 1 ∧ ¬ x.queue.length - 1 > x.config.low
        ∧ x.config.hold * 1000 ≤ (1001#32 - 1#32).toNat ∧ ¬ x.config.hold * 1000 ≤ (1000#32 - 1#32).toNat) := by
  decide +kernel
theorem witness_ArbiterPicksInOrder_reply :
    let s := { opened with link := { opened.link with replies := [acceptedReply 0x23#8 1#8 .ok [0]] } }
    s.link.tx = none ∧ (¬ ∃ c : ChannelId, (s.channels[c]).offered = true)
    ∧ s.link.replies = acceptedReply 0x23#8 1#8 .ok [0] :: []
    ∧ (∀ c : ChannelId, (s.channels[c]).offered = true ↔ readyBy53 s.channels[c]) := by decide +kernel

/-- A lost-notice count of 65,535 beside these notices. -/
def losing (es : List NoticeEntry) : State :=
  opened.setNotices { NoticeQueue.reset with entries := es, lost := 65535 }

/-- An URGENT notice behind a ROUTINE one leaves first, beside no offer; what is left holds no NOTICE_LOST. -/
theorem witness_ArbiterPicksInOrder_urgent :
    let e := queued (.trunkState 0 .starting .running .request)
    let s := losing ([queued (.sequence 5 1 0)] ++ e :: [])
    s.link.tx = none ∧ s.link.nonBatchRun ≠ 4 ∧ s.link.replies = [] ∧ s.notices.lost ≠ 0
    ∧ (¬ ∃ c : ChannelId, (s.channels[c]).offered = true) ∧ (∃ k was now cause, e.notice = .trunkState k was now cause)
    ∧ ∀ x ∈ [queued (.sequence 5 1 0)], ¬ (∃ k was now cause, x.notice = .trunkState k was now cause)
      ∧ ¬ ∃ n, x.notice = .noticeLost n :=
  ⟨rfl, by decide, rfl, by decide, by decide +kernel, ⟨_, _, _, _, rfl⟩, by simp [queued]⟩
/-- With two URGENT notices the older leaves, and the NOTICE_LOST left takes the count; nothing lost, nothing changes. -/
theorem witness_ArbiterPicksInOrder_lost :
    let rest := [queued (.sequence 5 1 0)] ++ queued (.noticeLost 1) :: []
    (losing (queued (.trunkState 0 .starting .running .request) :: rest)).notices.entries =
        [] ++ queued (.trunkState 0 .starting .running .request) :: rest
    ∧ (∀ y ∈ [queued (.sequence 5 1 0)], ¬ ∃ n, y.notice = .noticeLost n)
    ∧ (queued (.noticeLost 1)).notice = .noticeLost 1 ∧ (noticed rest).notices.lost = 0 :=
  ⟨rfl, by simp [queued], rfl, rfl⟩
/-- Only ROUTINE notices: the oldest leaves. -/
theorem witness_ArbiterPicksInOrder_routine :
    ∀ x ∈ queued (.sequence 5 1 0) :: [queued (.channelLevel 3 .normal 1)],
      ¬ (∃ k was now cause, x.notice = .trunkState k was now cause) ∧ ¬ ∃ n, x.notice = .noticeLost n := by
  simp [queued]

theorem witness_MessageCompletion_reply :
    let r := acceptedReply 0x23#8 1#8 .ok [0]
    transmitting.inReset = false ∧ transmitting.link.tx.map Transmission.what = some (.reply r)
    ∧ transmitting.holdLow = false ∧ transmitting.link.replies = r :: [] ∧ r.kind ≠ 0x03#8 := by decide +kernel
theorem witness_MessageCompletion_batch :
    let s := (withChannel id).finish false
    s.link.tx.map Transmission.what = some (.batch 3) ∧ s.holdLow = false ∧ s.inReset = false := by decide +kernel
theorem witness_MessageCompletion_notice :
    let s := (opened.raise (.sequence 5 1 0)).finish false
    s.link.tx.map Transmission.what = some (.notice { time := 0, mergeOpen := true, notice := .sequence 5 1 0 })
      ∧ s.holdLow = false := by decide +kernel
/-- In the SPI mode: at the closing delimiter, and one byte before it. -/
theorem witness_MessageCompletion_spi : (clocking 10).mode = .spi
    ∧ (clocking 10).link.tx.map (fun m => decide (m.wire.length ≤ m.sent + 1)) = some true
    ∧ (clocking 9).link.tx.map (fun m => decide (m.sent + 1 < m.wire.length)) = some true := by decide +kernel

/-- A partner of each kind that merges, with a count at its ceiling. -/
theorem witness_RaisedNoticeFate_makes :
    ((queued (.stationState 5 0 21#8 .idle .probing 65535)).mergeOpen = true ∧ min (65535 + 1) 65535 = 65535)
    ∧ ((queued (.sequence 5 65535 0)).mergeOpen = true ∧ (queued (.sequence 5 65535 0)).notice = .sequence 5 65535 0)
    ∧ (queued (.channelLevel 3 .filling 65535)).notice = .channelLevel 3 .filling 65535
    ∧ (queued (.channelLoss 3 { Loss.zero with keepOld := 65535 })).notice =
        .channelLoss 3 { Loss.zero with keepOld := 65535 }
    ∧ (queued (.trunkState 0 .starting .running .request)).notice = .trunkState 0 .starting .running .request :=
  ⟨⟨rfl, rfl⟩, ⟨rfl, rfl⟩, rfl, rfl, rfl⟩
/-- A notice of another station before the partner; 30 and 31 notices that never merge. -/
theorem witness_RaisedNoticeFate :
    (∀ count, Notice.sequence 5 1 0 ≠ .noticeLost count)
    ∧ decide (State.reset.link.session = .opened) = false ∧ decide (opened.link.session = .opened) = true
    ∧ opened.notices.mask.getLsbD ((Notice.sequence 5 1 0).code - 1) = true
    ∧ (noticed [queued (.sequence 4 1 0), queued (.sequence 5 1 0)]).notices.entries =
        [queued (.sequence 4 1 0)] ++ queued (.sequence 5 1 0) :: []
    ∧ (∀ b ∈ [queued (.sequence 4 1 0)], ∀ g r, b.notice ≠ .sequence 5 g r)
    ∧ (noticed (List.replicate 30 (queued (.directiveDone 1 5 .delivered 0#8 1)))).notices.ordinaryCount < 31
    ∧ 31 ≤ (noticed (List.replicate 31 (queued (.directiveDone 1 5 .delivered 0#8 1)))).notices.ordinaryCount
    ∧ (∀ e ∈ List.replicate 31 (queued (.directiveDone 1 5 .delivered 0#8 1)), ∀ g r, e.notice ≠ .sequence 5 g r) :=
  ⟨by simp, by decide, by decide, by decide, rfl, by simp [queued], by decide +kernel, by decide +kernel,
    by simp [queued]⟩

theorem witness_NoticeMaskReplacesMask : TakesRequest opened 1#8 ∧ 64 ≤ (64#8 : Byte).toNat
    ∧ ¬ 64 ≤ (63#8 : Byte).toNat := ⟨takes rfl rfl, by decide, by decide⟩

theorem witness_CountersReadReportsAndClears : TakesRequest (withTrunk .reset) 1#8
    ∧ 3 < (4#8 : Byte).toNat ∧ 1 < (2#8 : Byte).toNat ∧ (1#8 : Byte).toNat = (1 : TrunkId).1
    ∧ 63 < (64#8 : Byte).toNat ∧ (withTrunk .reset).roster[(63 : StationId)] = none
    ∧ (withTrunk .reset).roster[(5 : StationId)] = some station ∧ station.state ≠ .removing
    ∧ 7 < (8#8 : Byte).toNat ∧ (7#8 : Byte).toNat = (7 : ChannelId).1 := ⟨takes rfl rfl, by decide +kernel⟩

/-- A slot that holds a REMOVING station. -/
def withRemoving : State := opened.setStation 5 (some { station with state := .removing, removeTag := some 2#8 })

theorem witness_removing : TakesRequest withRemoving 1#8 ∧ withRemoving.inReset = false
    ∧ ∃ st, withRemoving.roster[(5 : StationId)] = some st ∧ st.state = .removing :=
  ⟨takes rfl rfl, rfl, _, rfl, rfl⟩

/-- The conditions on which `StagingEdits` has a rule's 36 bytes refused. -/
def ruleRefused (e : List Byte) : Bool :=
  let b (n : Nat) : Byte := e.getD n 0#8
  let v (n : Nat) : Nat := (b n).toNat
  decide (16 ≤ v 0 ∨ 2 < v 1 ∨ v 5 < v 4 ∨ 56 < v 6 ∨ 56 < v 7 ∨ v 7 < v 6
    ∨ ((b 0).getLsbD 1 = true ∧ (55 < v 8 ∨ v 9 = 0 ∨ 8 < v 9))
    ∨ ((b 0).getLsbD 2 = true ∧ (55 < v 26 ∨ v 27 = 0 ∨ 56 < v 27 ∨ 1 < v 30))
    ∨ ((b 0).getLsbD 3 = true ∧ (3 < v 31 ∨ 55 < v 32 ∨ 1 < v 33))
    ∨ 3 < v 34 ∨ (v 34 ≤ 1 ∧ 7 < v 35))

/-- 36 bytes with every term present and every field at the end of its range. -/
def limitBytes : List Byte :=
  [0x0F, 2, 0, 0, 9, 9, 56, 56, 55, 8] ++ List.replicate 16 1#8 ++ [55, 56, 0xFF, 0xFF, 1, 3, 55, 1, 1, 7]

/-- They are taken; one byte more in any place is not; the channel byte of a COUNT and the bytes of absent terms are not
examined. -/
theorem witness_StagingEdits_rule : limitBytes.length = 36 ∧ ruleRefused limitBytes = false
    ∧ ([(0, 0x1F), (1, 3), (4, 10), (7, 57), (7, 55), (8, 56), (9, 0), (9, 9), (26, 56), (27, 0), (27, 57), (30, 2),
      (31, 4), (32, 56), (33, 2), (34, 4), (35, 8)].all fun p => ruleRefused (limitBytes.set p.1 (byteOf p.2))) = true
    ∧ ruleRefused ((limitBytes.set 34 2#8).set 35 8#8) = false
    ∧ ruleRefused (((limitBytes.set 0 0#8).set 8 56#8).set 27 0#8) = false
    ∧ (decodeRule limitBytes).isSome = true ∧ decodeRule (limitBytes.set 35 8#8) = none := by decide +kernel
theorem witness_StagingEdits : TakesRequest opened 1#8 ∧ 48 ≤ (48#8 : Byte).toNat
    ∧ (47#8 : Byte).toNat = (47 : RuleId).1 ∧ 4 ≤ (4#8 : Byte).toNat ∧ (3#8 : Byte).toNat = (3 : Fin 4).1
    ∧ (∀ n, n < 64 → (0x80#64).getLsbD n = (([0x80, 0, 0, 0, 0, 0, 0, 0] : List Byte).getD (n / 8) 0#8).getLsbD (n % 8))
    ∧ (7#8 : Byte).toNat = (7 : ChannelId).1 ∧ 8 ≤ (8#8 : Byte).toNat := ⟨takes rfl rfl, by decide +kernel⟩

theorem witness_StageLoadAndCommit : TakesRequest { opened with active := { ActiveTable.reset with generation := 258 } } 1#8
    ∧ (2#8 : Byte).toNat + 256 * (1#8 : Byte).toNat = 258 ∧ (3#8 : Byte).toNat + 256 * (1#8 : Byte).toNat ≠ 258 :=
  ⟨takes rfl rfl, by decide⟩

theorem witness_RuleReadReports : TakesRequest { opened with staging := fourTable } 1#8
    ∧ 1 < (2#8 : Byte).toNat ∧ 48 ≤ (48#8 : Byte).toNat ∧ 4 ≤ (4#8 : Byte).toNat
    ∧ (47#8 : Byte).toNat = (47 : RuleId).1 ∧ opened.active.table.slots[(47 : RuleId)] = none
    ∧ fourTable.slots[(9 : RuleId)] = some { anyRule .discard with lenMin := 0, lenMax := 0 }
    ∧ (3#8 : Byte).toNat = (3 : Fin 4).1 := ⟨takes rfl rfl, by decide +kernel⟩

/-- A rule with every term, its fields at the ends of their ranges. -/
def fullRule : Rule :=
  { anyRule (.deliver 7) with
    window := some { offset := 55, width := 8, value := List.replicate 8 1#8, mask := List.replicate 8 255#8 }
    sum := some { offset := 55, span := 56, target := 65535, equal := false }
    set := some { bins := 3, offset := 55, member := false } }

theorem witness_EncodedRulesAndBinsReadBack :
    fullRule.kindLow.toNat ≤ fullRule.kindHigh.toNat ∧ fullRule.lenMin ≤ fullRule.lenMax ∧ fullRule.lenMax ≤ 56
    ∧ (∀ w, fullRule.window = some w → w.offset ≤ 55 ∧ 1 ≤ w.width ∧ w.width ≤ 8 ∧ w.value.length = w.width
      ∧ w.mask.length = w.width)
    ∧ (∀ t, fullRule.sum = some t → t.offset ≤ 55 ∧ 1 ≤ t.span ∧ t.span ≤ 56 ∧ t.target ≤ 65535)
    ∧ (∀ t, fullRule.set = some t → t.offset ≤ 55) := by
  refine ⟨by decide, by decide, by decide, ?_, ?_, ?_⟩ <;> rintro _ ⟨⟩ <;> decide

theorem witness_WalkOfTheActiveTable :
    let x := fourRecord 0 5#8 3#8 8
    (∃ r, fourTable.slots[(12 : RuleId)] = some r ∧ r.enabled = true ∧ r.appliesTo fourTable.bins x = true
      ∧ r.action = .deliver 1)
    ∧ ∀ j : RuleId, RuleTable.empty.slots[j] = none := by
  refine ⟨⟨_, rfl, rfl, by decide +kernel, rfl⟩, by decide +kernel⟩
/-- Primary and tee: apart (record B), the same channel, only one of them, and none (record D). -/
theorem witness_WalkOfTheActiveTable_delivery :
    (let w := fourTable.walk (fourRecord 1 40#8 20#8 4); w.primary = some 0 ∧ w.tee = some 6)
    ∧ (let w := ({ fourTable with defaultAction := .deliver 6 } : RuleTable).walk (fourRecord 1 40#8 20#8 4)
       w.primary = some 6 ∧ w.tee = some 6)
    ∧ (let w := fourTable.walk (fourRecord 0 5#8 3#8 8); w.primary = some 1 ∧ w.tee = none)
    ∧ (let w := fourTable.walk (fourRecord 0 33#8 17#8 0); w.primary = none ∧ w.tee = some 6)
    ∧ (let w := fourTable.walk (fourRecord 1 7#8 200#8 0); w.primary = none ∧ w.tee = none) := by decide +kernel

theorem witness_ChannelEnable : TakesRequest (withChannel id) 1#8
    ∧ ((withChannel id).channels[(3 : ChannelId)]).enabled = true
    ∧ ((withChannel id).channels[(3 : ChannelId)]).usage ≠ 0
    ∧ ((withChannel id).channels[(7 : ChannelId)]).enabled = false
    ∧ ((7#8 : Byte).toNat = (7 : ChannelId).1 ∧ (64#8 : Byte).toNat ≤ 64 ∧ (2#8 : Byte).toNat ≤ 2
      ∧ (8#8 : Byte).toNat ≤ 8 ∧ (0xE8#8 : Byte).toNat + 256 * (3#8 : Byte).toNat ≤ 1000
      ∧ (63#8 : Byte).toNat < (64#8 : Byte).toNat ∧ Policy.defer.code = 2#8)
    ∧ ¬ (8#8 : Byte).toNat ≤ 7 ∧ (1#8 : Byte) ≠ 0#8 ∧ (2#8 : Byte) ≠ 0#8 ∧ (255#8 : Byte) ≠ 1#8 :=
  ⟨takes rfl rfl, by decide +kernel⟩

/-- Four reserves of 64 leave no room for one more. -/
theorem witness_ChannelEnable_noRoom :
    let s := (List.finRange 4).foldl (fun (s : State) c => s.setChannel (c.castLE (by decide))
      { Channel.reset with config := { ChannelConfig.default with reserve := 64 } }) opened
    TakesRequest s 1#8 ∧ 256 < (((List.finRange 8).filter fun d => decide (d ≠ 7)).map fun d =>
      (s.channels[d]).config.reserve).sum + (1#8 : Byte).toNat := ⟨takes rfl rfl, by decide +kernel⟩

theorem witness_ChannelDisableAndFlush : TakesRequest (withChannel fun x => { x with level := .filling }) 1#8
    ∧ 7 < (8#8 : Byte).toNat ∧ (List.replicate 8 (0 : Byte)).length = 8 ∧ (3#8 : Byte).toNat = (3 : ChannelId).1
    ∧ 1 ≤ ((withChannel fun x => { x with level := .filling }).channels[(3 : ChannelId)]).config.high :=
  ⟨takes rfl rfl, by decide +kernel⟩

theorem witness_CreditAndHoldExpiry : TakesRequest (withChannel id) 1#8
    ∧ 7 < (8#8 : Byte).toNat ∧ (7#8 : Byte).toNat = (7 : ChannelId).1
    ∧ (withChannel id).inReset = false ∧ ((withChannel id).channels[(3 : ChannelId)]).holdDue = none
    ∧ ((withChannel fun x => { x with holdDue := some 5 }).channels[(3 : ChannelId)]).holdDue = some 5 :=
  ⟨takes rfl rfl, by decide +kernel⟩

theorem witness_QueriesReportAndChangeNothing : TakesRequest (withDirective (.attached true)) 1#8
    ∧ 7 < (8#8 : Byte).toNat ∧ 63 < (64#8 : Byte).toNat ∧ (63#8 : Byte).toNat = (63 : StationId).1
    ∧ (withDirective .pending).roster[(63 : StationId)] = none
    ∧ (withDirective .pending).roster[(5 : StationId)] = some station ∧ station.state ≠ .removing
    ∧ 1 < (2#8 : Byte).toNat ∧ (1#8 : Byte).toNat = (1 : TrunkId).1 ∧ (0#8 : Byte).toNat + 256 * (0#8 : Byte).toNat = 0
    ∧ (withDirective .pending).directives.entries = [] ++ directive .pending :: []
    ∧ (directive .pending).id = (41#8 : Byte).toNat + 256 * (0#8 : Byte).toNat
    ∧ (directive .pending).payload.length ≤ 16
    ∧ ∀ d ∈ (withDirective .pending).directives.entries, d.id ≠ (42#8 : Byte).toNat + 256 * (0#8 : Byte).toNat :=
  ⟨takes rfl rfl, by decide +kernel⟩

/-- Every roster slot occupied. -/
def fullRoster : State := { opened with roster := Vector.replicate 64 (some station) }

theorem witness_StationAddFillsLowestSlot : TakesRequest (withTrunk .reset) 1#8 ∧ TakesRequest fullRoster 1#8
    ∧ 1 < (2#8 : Byte).toNat ∧ 239 < (240#8 : Byte).toNat ∧ 3 < (4#8 : Byte).toNat
    ∧ (1#8 : Byte).toNat = (1 : TrunkId).1 ∧ (239#8 : Byte).toNat ≤ 239 ∧ (3#8 : Byte).toNat ≤ 3
    ∧ ((withTrunk .reset).roster[(5 : StationId)] = some station ∧ station.trunk = 0 ∧ station.address = 21#8)
    ∧ (∀ i : StationId, fullRoster.roster[i] ≠ none)
    ∧ ((withTrunk .reset).roster[(0 : StationId)] = none ∧ ∀ j : StationId, j < 0 → (withTrunk .reset).roster[j] ≠ none) :=
  ⟨takes rfl rfl, takes rfl rfl, by decide +kernel⟩
theorem witness_StationAdd_fresh_address :
    (∀ (i : StationId) (st : Station), fullRoster.roster[i] = some st → st.trunk = 0 → st.address ≠ 22#8) := by
  intro i st h _
  have : fullRoster.roster[i] = some station := by simp [fullRoster]
  rw [this] at h; cases h; decide

/-- The part with slot 5's turn in flight on trunk 0, in a stage. -/
def inTurn (stage : TurnStage) : State := withTrunk (running (.settling 9) (some { turn with stage := stage }))

theorem inTurn_trunk1 (stage : TurnStage) : ((inTurn stage).trunks[(1 : TrunkId)]).turn = none := rfl

theorem witness_StationSetSuspendResume :
    (TakesRequest (withTrunk .reset) 1#8 ∧ 63 < (64#8 : Byte).toNat ∧ (5#8 : Byte).toNat = (5 : StationId).1
      ∧ (withTrunk .reset).roster[(5 : StationId)] = some station ∧ station.state ≠ .removing
      ∧ 3 < (4#8 : Byte).toNat ∧ (3#8 : Byte).toNat ≤ 3
      ∧ (∀ k : TrunkId, ((withTrunk .reset).trunks[k]).turn = none))
    ∧ (TakesRequest (inTurn .polling) 1#8
      ∧ ∃ (k : TrunkId) (t : Turn), ((inTurn .polling).trunks[k]).turn = some t ∧ t.slot = 5)
    ∧ ({ station with state := .suspended } : Station).state = .suspended :=
  ⟨⟨takes rfl rfl, by decide +kernel⟩, ⟨takes rfl rfl, 0, turn, rfl, rfl⟩, rfl⟩

theorem reset_directives_sound {s : State} (h : s.directives = .reset) : DirectivesSound s := by
  unfold DirectivesSound
  rw [h]
  exact ⟨by decide, by decide, fun i => by simp [DirectiveQueue.reset]⟩

theorem witness_StationRemoveAtOnceOrDeferred :
    (TakesRequest (withTrunk .reset) 1#8 ∧ DirectivesSound (withTrunk .reset) ∧ 63 < (64#8 : Byte).toNat
      ∧ (5#8 : Byte).toNat = (5 : StationId).1 ∧ (withTrunk .reset).roster[(5 : StationId)] = some station
      ∧ station.state ≠ .removing ∧ ∀ k : TrunkId, ((withTrunk .reset).trunks[k]).turn = none)
    ∧ (TakesRequest (inTurn (.replied 9 [⟨5#8, 17#8, []⟩] (some screened))) 1#8
      ∧ DirectivesSound (inTurn (.replied 9 [⟨5#8, 17#8, []⟩] (some screened)))
      ∧ ∃ t, ((inTurn (.replied 9 [⟨5#8, 17#8, []⟩] (some screened))).trunks[(0 : TrunkId)]).turn = some t ∧ t.slot = 5
      ∧ ∀ (j : TrunkId) (o : Turn), j ≠ 0 →
        ((inTurn (.replied 9 [⟨5#8, 17#8, []⟩] (some screened))).trunks[j]).turn = some o → o.slot ≠ 5) := by
  refine ⟨⟨takes rfl rfl, reset_directives_sound rfl, by decide +kernel⟩, takes rfl rfl, reset_directives_sound rfl, _, rfl, rfl,
    fun j o hj h => ?_⟩
  have : j = 1 := (by decide : ∀ j : TrunkId, j ≠ 0 → j = 1) j hj
  subst this
  rw [inTurn_trunk1] at h; cases h

/-- `CloseStopStepStopsTrunks` with trunk 0 stopped at once, or its turn in flight. -/
theorem witness_CloseStop_answered (turn : Option Turn) :
    let s := closing .answers (withTrunk (running .idle turn))
    s.inReset = false ∧ s.link.session = .closing .answers 9#8
    ∧ (∀ r ∈ s.link.requests, r.answered = true ∨ r.tag = 9#8) ∧ DirectivesSound s
    ∧ (s.trunks[(0 : TrunkId)]).state = .running ∧ (s.trunks[(0 : TrunkId)]).turn = turn
    ∧ (s.trunks[(1 : TrunkId)]).state = .stopped :=
  ⟨rfl, rfl, by simp [closing, opened, withTrunk, State.setStation, State.setTrunk], reset_directives_sound rfl, rfl, rfl, rfl⟩

theorem witness_TrunkConfigAndStart : TakesRequest (withTrunk .reset) 1#8 ∧ TakesRequest (withTrunk starting) 1#8
    ∧ ((1#8 : Byte).toNat ≤ 1 ∧ (7#8 : Byte).toNat ≤ 7 ∧ 100 ≤ (100#8 : Byte).toNat + 256 * (0#8 : Byte).toNat
      ∧ (3#8 : Byte).toNat ≤ 3 ∧ 1 ≤ (15#8 : Byte).toNat ∧ (15#8 : Byte).toNat ≤ 15
      ∧ (0xE8#8 : Byte).toNat + 256 * (3#8 : Byte).toNat ≤ 1000)
    ∧ 1 < (2#8 : Byte).toNat ∧ ((withTrunk starting).trunks[(0 : TrunkId)]).state = .starting
    ∧ ((withTrunk .reset).trunks[(0 : TrunkId)]).state = .stopped ∧ (7#8 : Byte).toNat = (7 : Fin 8).1 :=
  ⟨takes rfl rfl, takes rfl rfl, by decide +kernel⟩

theorem witness_TrunkStopInEveryState :
    1 < (2#8 : Byte).toNat ∧ (0#8 : Byte).toNat = (0 : TrunkId).1
    ∧ (TakesRequest (withTrunk .reset) 1#8 ∧ ((withTrunk .reset).trunks[(0 : TrunkId)]).state = .stopped)
    ∧ (TakesRequest (withTrunk starting) 1#8 ∧ ((withTrunk starting).trunks[(0 : TrunkId)]).watch.isSome = true)
    ∧ (TakesRequest (withTrunk (running .idle none)) 1#8 ∧ DirectivesSound (withTrunk (running .idle none)))
    ∧ (TakesRequest (inTurn .polling) 1#8 ∧ ((inTurn .polling).trunks[(0 : TrunkId)]).turn = some turn)
    ∧ TakesRequest (withTrunk { Trunk.reset with state := .stopping }) 1#8
    ∧ TakesRequest (withTrunk { Trunk.reset with state := .faulted }) 1#8 :=
  ⟨by decide, by decide, ⟨takes rfl rfl, rfl⟩, ⟨takes rfl rfl, rfl⟩, ⟨takes rfl rfl, reset_directives_sound rfl⟩,
    ⟨takes rfl rfl, rfl⟩, takes rfl rfl, takes rfl rfl⟩

/-- Idle runs complete before the limit, at it, and after it; and none. -/
theorem witness_IdleWatchEnds : (withTrunk starting).inReset = false
    ∧ ((withTrunk .reset).trunks[(0 : TrunkId)]).state ≠ .starting
    ∧ (∀ f, ((withTrunk (startingFrom f)).trunks[(0 : TrunkId)]).state = .starting
      ∧ ((withTrunk (startingFrom f)).trunks[(0 : TrunkId)]).watch = some { idleFrom := f, limit := 100000, tag := 7#8 })
    ∧ (Before (97221 + BitVec.ofNat 32 (byteTimes 4 32)) 100000 ∧ ¬ Before 100000 (97221 + BitVec.ofNat 32 (byteTimes 4 32)))
    ∧ (¬ Before (97222 + BitVec.ofNat 32 (byteTimes 4 32)) 100000
      ∧ ¬ Before 100000 (97222 + BitVec.ofNat 32 (byteTimes 4 32)))
    ∧ Before 100000 (97223 + BitVec.ofNat 32 (byteTimes 4 32)) :=
  ⟨rfl, by decide, fun _ => ⟨rfl, rfl⟩, by decide +kernel⟩

/-- Outside STARTING: a trunk that listens while it settles, and one that does not listen. -/
theorem witness_LineLowAndStrayByte : (withTrunk starting).inReset = false
    ∧ ((withTrunk .reset).trunks[(0 : TrunkId)]).state = .stopped
    ∧ ((inTurn .missed).trunks[(0 : TrunkId)]).state = .running
    ∧ ((inTurn .missed).trunks[(0 : TrunkId)]).phase = .settling 9
    ∧ ((inTurn .missed).trunks[(0 : TrunkId)]).watch = none := by decide +kernel
/-- While STARTING, 32 byte times being 2,778 us and one 87: low at 2,779 and a character taken at 2,866 come after the
end of the run from 0, those at 2,778 and 2,865 do not; 100,001 lies past the limit, 100,000 does not. -/
theorem witness_LineLow_watch :
    (∀ f, ((withTrunk (startingFrom f)).trunks[(0 : TrunkId)]).state = .starting
      ∧ ((withTrunk (startingFrom f)).trunks[(0 : TrunkId)]).phase = .idle)
    ∧ (let due : Time := 0 + BitVec.ofNat 32 (byteTimes 4 32)
      ¬ Before 100000 due ∧ Before due 2779 ∧ ¬ Before due 2778
        ∧ Before due (2866 - BitVec.ofNat 32 (byteTimes 4 1)) ∧ ¬ Before due (2865 - BitVec.ofNat 32 (byteTimes 4 1)))
    ∧ Before 100000 (100001 : Time) ∧ ¬ Before 100000 (100000 : Time)
    ∧ Before 100000 (97223 + BitVec.ofNat 32 (byteTimes 4 32)) :=
  ⟨fun _ => ⟨rfl, rfl⟩, by decide +kernel⟩
/-- The ends of a character's last run of ones: 0xFF with nine bit times, 0x00 with one; rises before and after. -/
theorem witness_StrayByte_rise :
    (∀ j, 9 - 9 ≤ j → j < 8 → (0xFF#8 : Byte).getLsbD j = true)
    ∧ (∀ j, 9 - 1 ≤ j → j < 8 → (0#8 : Byte).getLsbD j = true) ∧ (0#8 : Byte).getLsbD (8 - 1) = false
    ∧ Before (100 - BitVec.ofNat 32 (1 * 1000000 / rateOf 4)) (150 : Time)
    ∧ ¬ Before (100 - BitVec.ofNat 32 (1 * 1000000 / rateOf 4)) (0 : Time)
    ∧ Before (100 : Time) 150 ∧ ¬ Before (100 : Time) 0 :=
  ⟨by decide, fun j h h' => by omega, by decide +kernel⟩

theorem witness_RoundStartFixesDueList :
    let x := { running .idle none with round := none, nextRound := some 5 }
    (withTrunk x).inReset = false ∧ ((withTrunk x).trunks[(0 : TrunkId)]).state = .running
    ∧ ((withTrunk x).trunks[(0 : TrunkId)]).round = none ∧ ((withTrunk x).trunks[(0 : TrunkId)]).nextRound = some 5
    ∧ ((withTrunk .reset).trunks[(0 : TrunkId)]).nextRound = none := by decide +kernel

/-- A trunk at rest with these places left in its round. -/
def resting (places : List Place) : Trunk :=
  { running .idle none with round := some { places := places, turned := false } }

theorem witness_TurnBeginTakesNextPlace (places : List Place) :
    (withTrunk (resting places)).inReset = false ∧ DirectivesSound (withTrunk (resting places))
    ∧ ((withTrunk (resting places)).trunks[(0 : TrunkId)]).state = .running
    ∧ ((withTrunk (resting places)).trunks[(0 : TrunkId)]).phase = .idle
    ∧ ((withTrunk (resting places)).trunks[(0 : TrunkId)]).turn = none
    ∧ ((withTrunk (resting places)).trunks[(0 : TrunkId)]).round = some { places := places, turned := false } :=
  ⟨rfl, reset_directives_sound rfl, rfl, rfl, rfl, rfl⟩
/-- Slot 5 holds occupancy 3: the place with serial 3 is polled, that with serial 2 is skipped. -/
theorem witness_TurnBegin_place : (withTrunk (resting [{ slot := 5, serial := 3 }])).roster[(5 : StationId)] = some station
    ∧ station.serial = 3 ∧ station.serial ≠ 2 ∧ station.state = .probing
    ∧ (withDirective .pending).directives.entries = [] ++ directive .pending :: [] ∧ (directive .pending).slot = 5 := by
  decide +kernel

/-- Byte 3 of three: its stop bit is read to end at 260, and its echo is good from then to 347; byte 2 of three: from
173 to 260. -/
theorem witness_GoodEchoSendsPoll :
    (withTrunk sending).inReset = false
    ∧ ((withTrunk sending).trunks[(0 : TrunkId)]).phase = .sending [0x3C, 21, 4] 0 2
    ∧ ((withTrunk sending).trunks[(0 : TrunkId)]).turn = some turn
    ∧ (2 < 3 ∧ 2 + 1 = 3 ∧ ([0x3C, 21, 4] : List Byte).getD 2 0#8 = 4#8
      ∧ (2 + 1) * 10000000 / rateOf 4 ≤ ((withTrunk sending).timeBase + BitVec.ofNat 32 260 - 0#32).toNat
      ∧ ¬ Before (0 + BitVec.ofNat 32 ((2 + 1) * 10000000 / rateOf 4 + byteTimes 4 1))
          ((withTrunk sending).timeBase + BitVec.ofNat 32 347))
    ∧ (1 + 1 ≠ 3 ∧ ([0x3C, 21, 4] : List Byte).getD 1 0#8 = 21#8
      ∧ (1 + 1) * 10000000 / rateOf 4 ≤ ((withTrunk sending).timeBase + BitVec.ofNat 32 173 - 0#32).toNat
      ∧ ¬ Before (0 + BitVec.ofNat 32 ((1 + 1) * 10000000 / rateOf 4 + byteTimes 4 1))
          ((withTrunk sending).timeBase + BitVec.ofNat 32 260)) := by
  decide +kernel

/-- The second fault in a row: an early character at 259, a wrong one at 347, and one at 348, after the deadline. -/
theorem witness_EchoFaultRepeatsAttempt :
    let s := withTrunk { sending with echoRun := 1 }
    s.inReset = false ∧ (s.trunks[(0 : TrunkId)]).phase = .sending [0x3C, 21, 4] 0 2
    ∧ (s.trunks[(0 : TrunkId)]).echoRun + 1 < 3 ∧ (s.trunks[(0 : TrunkId)]).turn = some turn
    ∧ (s.trunks[(0 : TrunkId)]).state = .running ∧ (s.trunks[(0 : TrunkId)]).watch = none
    ∧ (s.timeBase + BitVec.ofNat 32 259 - 0#32).toNat < (2 + 1) * 10000000 / rateOf 4
    ∧ ([0x3C, 21, 4] : List Byte).getD 2 0#8 ≠ 5#8
    ∧ ¬ Before (0 + BitVec.ofNat 32 ((2 + 1) * 10000000 / rateOf 4 + byteTimes 4 1)) (s.timeBase + BitVec.ofNat 32 347)
    ∧ Before (0 + BitVec.ofNat 32 ((2 + 1) * 10000000 / rateOf 4 + byteTimes 4 1)) (s.timeBase + BitVec.ofNat 32 348) := by
  decide +kernel

/-- In an OPEN session and in the stop step of a close, with and without a deferred TRUNK_STOP, on a station that is
polled and on one that is REMOVING; the characters are those of the witness before. -/
theorem witness_ThirdEchoFaultFaultsTrunk (stopTag : Option Byte) :
    let s := withTrunk { sending with echoRun := 2, stopTag := stopTag }
    (s.inReset = false ∧ DirectivesSound s ∧ (s.trunks[(0 : TrunkId)]).phase = .sending [0x3C, 21, 4] 0 2
      ∧ (s.trunks[(0 : TrunkId)]).turn = some turn ∧ (s.trunks[(0 : TrunkId)]).echoRun = 2
      ∧ s.roster[turn.slot] = some station ∧ station.state ≠ .removing)
    ∧ s.link.session = .opened ∧ (closing .stopping s).link.session = .closing .stopping 9#8
    ∧ DirectivesSound { withRemoving with trunks := s.trunks }
    ∧ ∃ tag, ({ withRemoving with trunks := s.trunks } : State).roster[turn.slot] =
        some { station with state := .removing, removeTag := some tag } :=
  ⟨⟨rfl, reset_directives_sound rfl, rfl, rfl, rfl, rfl, by decide⟩, rfl, rfl, reset_directives_sound rfl, _, rfl⟩

/-- A character that starts at the reply timeout, and one whose start, 87 us before it is taken, is the gap expiry. -/
theorem witness_ReplyIsCollected :
    (withTrunk (running (.waiting 9) (some turn))).inReset = false
    ∧ ((withTrunk (running (.waiting 9) (some turn))).trunks[(0 : TrunkId)]).phase = .waiting 9
    ∧ ¬ Before 9 ((withTrunk (running (.waiting 9) (some turn))).timeBase + BitVec.ofNat 32 9)
    ∧ ((withTrunk (running (.receiving [0x3E, 21] (some 174)) (some turn))).trunks[(0 : TrunkId)]).phase =
        .receiving [0x3E, 21] (some 174)
    ∧ ¬ Before 174 ((withTrunk .reset).timeBase + BitVec.ofNat 32 261 - BitVec.ofNat 32 (byteTimes 4 1))
    ∧ (([0x3E, 21] : List Byte).length = 2 ∧ (240#8 : Byte).toNat ≤ 240
      ∧ ([0x3E, 21] : List Byte).length + 1 < 5 + ((([0x3E, 21] : List Byte) ++ [240#8]).getD 2 0#8).toNat) := by
  decide +kernel

/-- A start after the timeout, a character after the gap expiry, and one at it that ends a REPLY. -/
theorem witness_AttemptFailsOnce :
    ((withTrunk (running (.waiting 9) (some turn))).inReset = false
      ∧ ((withTrunk (running (.waiting 9) (some turn))).trunks[(0 : TrunkId)]).turn = some turn
      ∧ ((withTrunk (running (.waiting 9) (some turn))).trunks[(0 : TrunkId)]).phase = .waiting 9
      ∧ Before 9 ((withTrunk .reset).timeBase + BitVec.ofNat 32 10))
    ∧ (∀ gap, ((withTrunk (running (.receiving replyChars gap) (some turn))).trunks[(0 : TrunkId)]).phase =
        .receiving replyChars gap)
    ∧ ((running .idle none).state = .running ∧ (running .idle none).watch = none
      ∧ Before 174 ((withTrunk .reset).timeBase + BitVec.ofNat 32 262 - BitVec.ofNat 32 (byteTimes 4 1))
      ∧ ¬ Before 174 ((withTrunk .reset).timeBase + BitVec.ofNat 32 261 - BitVec.ofNat 32 (byteTimes 4 1)))
    ∧ (replyChars ≠ [] ∧ replyChars.length ≠ 2 ∧ 3 ≤ (replyChars ++ [0x0D]).length
      ∧ 5 + ((replyChars ++ [0x0D]).getD 2 0#8).toNat ≤ (replyChars ++ [0x0D]).length
      ∧ (withTrunk .reset).roster[turn.slot] = some station)
    ∧ 240 < (241#8 : Byte).toNat := ⟨by decide +kernel, fun _ => rfl, by decide +kernel⟩
/-- A wrong check word; a good one with another address, whose check word, 0x1073, was computed outside the model; and a
body of three bytes, too short for its four fixed fields, with the good check word 0xADDD. -/
theorem witness_AttemptFailsOnce_judged :
    (let all : List Byte := replyChars ++ [0x0D]
     crcBytes (crc16 ((all.drop 1).take (2 + 10))) ≠ (all.drop (3 + 10)).take 2)
    ∧ (let all : List Byte := [0x3E, 22, 4, 0, 0, 0, 0, 0x10, 0x73]
       crcBytes (crc16 ((all.drop 1).take (2 + 4))) = (all.drop (3 + 4)).take 2 ∧ all.getD 1 0#8 ≠ station.address)
    ∧ (let all : List Byte := [0x3E, 21, 3, 0, 0, 0, 0xAD, 0xDD]
       crcBytes (crc16 ((all.drop 1).take (2 + 3))) = (all.drop (3 + 3)).take 2 ∧ all.getD 1 0#8 = station.address
         ∧ ∀ (flags ack result : Byte) (rs : List ReplyRecord), (all.drop 3).take 3 ≠
           [flags, ack, result, byteOf rs.length]
             ++ rs.flatMap fun r => [r.kind, r.seq, byteOf r.payload.length] ++ r.payload) := by
  refine ⟨by decide +kernel, by decide +kernel, by decide +kernel, by decide, fun _ _ _ _ h => ?_⟩
  have := congrArg List.length h
  simp at this

/-- The REPLY of the tests, and one with the restart flag set and acknowledgement 13 from a REMOVING station, whose check
word, 0xA07C, was computed outside the model. -/
theorem witness_ValidReplyIsAHit :
    let s := withTrunk (running (.receiving replyChars (some 174)) (some turn))
    s.inReset = false ∧ (s.trunks[(0 : TrunkId)]).turn = some turn ∧ s.roster[turn.slot] = some station
    ∧ (s.trunks[(0 : TrunkId)]).phase = .receiving replyChars (some 174)
    ∧ ¬ Before 174 (s.timeBase + BitVec.ofNat 32 261 - BitVec.ofNat 32 (byteTimes 4 1))
    ∧ (let head : List Byte := [station.address, byteOf 10] ++ ([0, 0, 0, byteOf 2]
        ++ ([⟨5, 17, []⟩, ⟨5, 19, []⟩] : List ReplyRecord).flatMap fun r => [r.kind, r.seq, byteOf r.payload.length]
          ++ r.payload)
      replyChars ++ [0x0C#8] = [0x3E#8] ++ head ++ crcBytes (crc16 head)) := by decide +kernel
theorem witness_ValidReply_removing :
    let chars : List Byte := [0x3E, 21, 7, 1, 13, 0, 1, 5, 17, 0, 0xA0]
    let s := { withRemoving with trunks := (withTrunk (running (.receiving chars none) (some turn))).trunks }
    s.inReset = false ∧ (s.trunks[(0 : TrunkId)]).turn = some turn
    ∧ s.roster[turn.slot] = some { station with state := .removing, removeTag := some 2#8 }
    ∧ (s.trunks[(0 : TrunkId)]).phase = .receiving chars none ∧ (1#8 : Byte).getLsbD 0 = true
    ∧ (let head : List Byte := [station.address, byteOf 7] ++ ([1, 13, 0, byteOf 1]
        ++ ([⟨5, 17, []⟩] : List ReplyRecord).flatMap fun r => [r.kind, r.seq, byteOf r.payload.length] ++ r.payload)
      chars ++ [0x7C#8] = [0x3E#8] ++ head ++ crcBytes (crc16 head))
    ∧ (let t := after (.replyCharacter 0 9 0x7C#8 false) s
       (t.roster[5]).map (fun st => (st.counters.restarts, st.counters.strayAcks, st.counters.discarded)) =
         some (1, 1, 1)) := by decide +kernel

theorem witness_SettleEndBeginsAttemptOrRests :
    (inTurn .polling).inReset = false ∧ ((inTurn .polling).trunks[(0 : TrunkId)]).phase = .settling 9
    ∧ ((inTurn .polling).trunks[(0 : TrunkId)]).turn = some turn ∧ turn.stage = .polling
    ∧ (inTurn .polling).roster[turn.slot] = some station
    ∧ ((inTurn .missed).trunks[(0 : TrunkId)]).turn = some { turn with stage := .missed }
    ∧ ((withTrunk .reset).trunks[(0 : TrunkId)]).phase = .idle := by decide +kernel

theorem witness_SequenceCheckOfNextRecord :
    let s := inTurn (.replied 9 [⟨5, 19, []⟩] none)
    s.inReset = false ∧ (s.trunks[(0 : TrunkId)]).turn = some (walked [⟨5, 19, []⟩] none)
    ∧ s.roster[turn.slot] = some station
    ∧ station.baseline = some 17#8 ∧ (17#8 - 17#8 : Byte) = 0#8 ∧ 128 ≤ (145#8 - 17#8 : Byte).toNat
    ∧ ¬ 128 ≤ (144#8 - 17#8 : Byte).toNat ∧ (s.active.table.walk (record 0)).deliverySet = []
    ∧ (fourTable.walk (record 1)).deliverySet ≠ [] := by decide +kernel

/-- A record awaits admission to channel 3, in the policy given and with no free slot. -/
def awaiting (policy : Policy) : State :=
  (inTurn (.replied 9 [] (some screened))).setChannel 3
    { Channel.reset with enabled := true, config := { ChannelConfig.default with policy := policy } }

theorem witness_AdmissionOutcomeIsTaken :
    ((awaiting .defer).inReset = false ∧ ((awaiting .defer).trunks[(0 : TrunkId)]).turn = some (walked [] (some screened))
      ∧ (awaiting .defer).roster[turn.slot] = some station)
    ∧ (screened.channels.filter fun c => ((awaiting .defer).channels[c]).enabled) = [3]
    ∧ ((awaiting .defer).channels[(3 : ChannelId)]).config.policy = .defer
    ∧ ¬ 1 ≤ ({ awaiting .defer with store := { Store.reset with free := 0 } } : State).store.free
    ∧ ((awaiting .keepOld).channels[(3 : ChannelId)]).config.policy ≠ .defer := by decide +kernel

/-- Channels 3 and 5 ENABLED, channel 3 with an entry in slot 9; every slot is taken but the `free` slots from 0 on. -/
def admitting (policy : Policy) (depth free : Nat) : State :=
  let x : Channel := { Channel.reset with enabled := true, config := { ChannelConfig.default with policy := policy } }
  { (opened.setChannel 3 { x with config := { x.config with depth := depth }, queue := [{ slot := 9, time := 0 }]
                                  usage := 1 }).setChannel 5 x with
    store := { slots := Vector.ofFn fun i => if i.1 < free then none else some { record := record 0, refs := 1 }
               free := free } }

/-- `AdmissionStoresOrLoses` speaks of the evictions `es`: those of full KEEP_NEW queues, then `more`. -/
def evictions (s : State) (channels more : List ChannelId) : List ChannelId :=
  (channels.filter fun c => (s.channels[c]).enabled && (s.channels[c]).full
    && decide ((s.channels[c]).config.policy = .keepNew)) ++ more

/-- Its slot test for the channels `d`. -/
abbrev hasSlot (u : State) (d : List ChannelId) : Prop :=
  let reserve (c : ChannelId) : Nat := if (u.channels[c]).enabled then (u.channels[c]).config.reserve else 0
  1 ≤ u.store.free ∧ (((List.finRange 8).map fun c => reserve c - (u.channels[c]).usage).sum < u.store.free
    ∨ ∃ c ∈ d, (u.channels[c]).usage < reserve c)

/-- Stored on two channels, an entry of the full KEEP_NEW channel 3 evicted first; and with room, a DEFER channel too. -/
theorem witness_Admission_stores :
    ([3, 5] : List ChannelId).Nodup ∧ evictions (admitting .keepNew 1 9) [3, 5] [] = [3]
    ∧ hasSlot ((admitting .keepNew 1 9).evictHead 3) [3, 5]
    ∧ ((admitting .keepNew 1 9).evictHead 3).store.slots[(0 : SlotId)] = none
    ∧ evictions (admitting .defer 2 9) [3, 5] [] = [] ∧ hasSlot (admitting .defer 2 9) [3, 5]
    ∧ (∀ c ∈ ([3, 5] : List ChannelId), ((admitting .defer 2 9).channels[c]).full = false) := by decide +kernel
/-- No slot free: KEEP_NEW channel 3 is the first of the set with an entry, and its eviction frees slot 9. -/
theorem witness_Admission_makes_room :
    evictions (admitting .keepNew 2 0) [3, 5] [3] = [3] ∧ ¬ hasSlot (admitting .keepNew 2 0) [3, 5]
    ∧ ((admitting .keepNew 2 0).channels[(3 : ChannelId)]).queue.isEmpty = false
    ∧ hasSlot ((admitting .keepNew 2 0).evictHead 3) [3, 5]
    ∧ ((admitting .keepNew 2 0).evictHead 3).store.slots[(9 : SlotId)] = none
    ∧ ∀ j : SlotId, j < 9 → ((admitting .keepNew 2 0).evictHead 3).store.slots[j] ≠ none := by decide +kernel
/-- Dropped: no slot and only KEEP_OLD channels; a full KEEP_OLD queue alone; DISABLED channels alone. -/
theorem witness_Admission_drops :
    (evictions (admitting .keepOld 2 0) [3, 5] [] = [] ∧ ¬ hasSlot (admitting .keepOld 2 0) [3, 5]
      ∧ (∀ c ∈ ([3, 5] : List ChannelId), ((admitting .keepOld 2 0).channels[c]).full = false
        ∧ ((admitting .keepOld 2 0).channels[c]).config.policy = .keepOld))
    ∧ (((admitting .keepOld 1 9).channels[(3 : ChannelId)]).full = true)
    ∧ (opened.channels[(0 : ChannelId)]).enabled = false ∧ (opened.channels[(7 : ChannelId)]).enabled = false := by
  decide +kernel

/-- A MISS and a HIT on a RUNNING trunk; a STOPPING one with its TRUNK_STOP owed; a REMOVING station. -/
theorem witness_TurnCloseAppliesTable :
    let s := inTurn .missed
    (s.inReset = false ∧ DirectivesSound s ∧ (s.trunks[(0 : TrunkId)]).state = .running
      ∧ (s.trunks[(0 : TrunkId)]).turn = some { turn with stage := .missed }
      ∧ (s.trunks[(0 : TrunkId)]).round = some { places := [], turned := true }
      ∧ s.roster[turn.slot] = some station ∧ station.state ≠ .removing ∧ turn.startState = .probing
      ∧ (walked [] none).stage = .replied 9 [] none)
    ∧ (let x := { running (.settling 9) (some { turn with stage := .missed }) with
        state := .stopping, round := none, stopTag := some 4#8 }
      ((withTrunk x).trunks[(0 : TrunkId)]).state = .stopping ∧ DirectivesSound (withTrunk x)
      ∧ (withTrunk x).roster[turn.slot] = some station)
    ∧ ∃ tag, ({ withRemoving with trunks := s.trunks } : State).roster[turn.slot] =
        some { station with state := .removing, removeTag := some tag }
      ∧ DirectivesSound { withRemoving with trunks := s.trunks } :=
  ⟨⟨rfl, reset_directives_sound rfl, rfl, rfl, rfl, rfl, by decide, rfl, rfl⟩,
    ⟨rfl, reset_directives_sound rfl, rfl⟩, _, rfl, reset_directives_sound rfl⟩

theorem witness_DirectiveSettlement (was : Bool) :
    (withDirective (.attached was)).directives.entries = [] ++ directive (.attached was) :: []
    ∧ ((withDirective (.attached was)).directives.entries.map Directive.id).Nodup
    ∧ ({ turn with directive := some 41 } : Turn).directive = some (directive (.attached was)).id
    ∧ (directive (.attached was)).state = .attached was ∧ (13#8 : Byte).toNat = (directive (.attached was)).number
    ∧ turn.directive = none :=
  ⟨rfl, by simp [withDirective, State.setDirectives], rfl, rfl, rfl, rfl⟩

/-- Four directives of slot 5, and 32 in all. -/
def manyDirectives (n : Nat) (slot : StationId) : State :=
  (withTrunk .reset).setDirectives ((List.range n).map fun k => { directive .pending with id := k + 1, slot := slot })

/-- The next id and the next directive number are both held, at the ends of their cycles; 1 is free of both. -/
def heldNumbers : State :=
  let s := (withTrunk .reset).setStation 5 (some { station with nextNumber := 63 })
  { s with directives := { entries := [{ directive .pending with id := 65535, number := 63 }], nextId := 65535 } }

/-- With the next id and number held, the values after them are assigned: 65,535 and 63 are each followed by 1 (R112). -/
theorem witness_DirectiveSubmit_held : TakesRequest heldNumbers 1#8
    ∧ heldNumbers.roster[(5 : StationId)] = some { station with nextNumber := 63 }
    ∧ heldNumbers.directives.entries.length < 32 ∧ (heldNumbers.directives.entries.filter fun d => decide (d.slot = 5)).length < 4
    ∧ (∃ d ∈ heldNumbers.directives.entries, d.id = heldNumbers.directives.nextId ∧ d.slot = 5 ∧ d.number = 63)
    ∧ heldNumbers.directives.nextId = 65535
    ∧ sent (after (.directiveSubmit 1#8 ([5, 0, 1, 9] ++ List.replicate 15 0#8)) heldNumbers) =
        some (0x30#8, .ok, [1, 0, 1]) := ⟨takes rfl rfl, by decide +kernel⟩

theorem witness_DirectiveSubmitAndCancel :
    TakesRequest (withTrunk .reset) 1#8 ∧ (List.replicate 16 (0 : Byte)).length = 16
    ∧ (1 ≤ (16#8 : Byte).toNat ∧ (16#8 : Byte).toNat ≤ 16 ∧ (15#8 : Byte).toNat ≤ 15
      ∧ ∀ z ∈ (List.replicate 16 (0 : Byte)).drop 16, z = 0#8)
    ∧ ¬ 1 ≤ (0#8 : Byte).toNat ∧ ¬ (16#8 : Byte).toNat ≤ 15 ∧ 63 < (64#8 : Byte).toNat
    ∧ (TakesRequest (manyDirectives 32 0) 1#8 ∧ 32 ≤ (manyDirectives 32 0).directives.entries.length)
    ∧ (TakesRequest (manyDirectives 4 5) 1#8 ∧ 4 ≤ ((manyDirectives 4 5).directives.entries.filter fun d => decide (d.slot = 5)).length
      ∧ (manyDirectives 31 0).directives.entries.length < 32
      ∧ ((manyDirectives 3 5).directives.entries.filter fun d => decide (d.slot = 5)).length < 4)
    ∧ (∀ d, TakesRequest (withDirective d) 1#8)
    ∧ (withDirective .awaiting).directives.entries = [] ++ directive .awaiting :: []
    ∧ (directive .awaiting).id = (41#8 : Byte).toNat + 256 * (0#8 : Byte).toNat
    ∧ ((withDirective .awaiting).directives.entries.map Directive.id).Nodup :=
  ⟨takes rfl rfl, by decide, by decide +kernel, by decide, by decide, by decide, ⟨takes rfl rfl, by decide +kernel⟩,
    ⟨takes rfl rfl, by decide +kernel⟩, fun _ => takes rfl rfl, by decide +kernel, by decide +kernel, by decide +kernel⟩

/-- Slot 5's turn has ended as a MISS, and its close is the next command. -/
def beforeClose : State := { inTurn .missed with pending := [.turnClose 0] }

theorem beforeClose_roster (i : StationId) : beforeClose.roster[i] = if 5 = i then some station else none := by
  show (setAt opened.roster 5 (some station))[(i : Nat)] = _
  simp [setAt, opened, State.reset, Vector.getElem_set, Fin.ext_iff]

theorem witness_StepKeepsRosterSound : RosterSound beforeClose := by
  refine ⟨fun i j a b ha hb _ _ => ?_, fun i a ha => ?_⟩
  · rw [beforeClose_roster] at ha hb
    split at ha <;> split at hb <;> simp_all
  · rw [beforeClose_roster] at ha
    split at ha
    · cases ha; decide
    · cases ha

theorem witness_StepKeepsChannelsSound : DeliverySound beforeClose ∧ ChannelsSound beforeClose := by
  refine ⟨fun t u stamp todo x h hs => ?_, by unfold ChannelsSound; decide +kernel⟩
  have : t = 0 ∨ t = 1 := (by decide : ∀ t : TrunkId, t = 0 ∨ t = 1) t
  rcases this with rfl | rfl
  · cases (show some { turn with stage := .missed } = some u from h); cases hs
  · cases (show none = some u from h)

theorem witness_StepKeeps : (∃ t, step beforeClose = .next t) ∧ LinkSound beforeClose ∧ NoticesSound beforeClose
    ∧ CreditSound beforeClose ∧ ArbiterSound beforeClose ∧ StoreSound beforeClose ∧ DirectivesSound beforeClose
    ∧ TrunksSound beforeClose := by
  refine ⟨⟨_, rfl⟩, ?_, ?_, ?_, ?_, ?_, reset_directives_sound rfl, ?_⟩
  · unfold LinkSound; decide +kernel
  · unfold NoticesSound; decide +kernel
  · unfold CreditSound; decide +kernel
  · unfold ArbiterSound; decide +kernel
  · unfold StoreSound; decide +kernel
  · unfold TrunksSound Trunk.Sound; decide +kernel

theorem witness_StepKeepsNumbering : (∃ t, step heldNumbers = .next t) ∧ NumberingSound heldNumbers := by
  refine ⟨⟨_, rfl⟩, by decide, by decide, ?_⟩
  intro i a h
  have : heldNumbers.roster[i] = if 5 = i then some { station with nextNumber := 63 } else none := by
    show (setAt (setAt opened.roster 5 (some station)) 5 (some { station with nextNumber := 63 }))[(i : Nat)] = _
    simp [setAt, opened, State.reset, Vector.getElem_set, Fin.ext_iff]
  rw [this] at h
  split at h
  · cases h; decide
  · cases h

/-- The next command is no ADMISSION and leaves slot 9 occupied; a slot named once, and one named twice. -/
theorem witness_StepKeepsStore :
    let s := { opened with
      pending := [.noticeMask 1#8 [0]]
      store := { slots := setAt (setAt Store.reset.slots 9 (some { record := record 0, refs := 1 })) 255
                   (some { record := record 0, refs := 2 }), free := 254 } }
    (∃ t, step s = .next t ∧ t.store.slots[(9 : SlotId)] = some { record := record 0, refs := 1 })
    ∧ (∀ k rest, s.pending ≠ .admission k :: rest)
    ∧ s.store.slots[(9 : SlotId)] = some { record := record 0, refs := 1 }
    ∧ s.store.slots[(255 : SlotId)] = some { record := record 0, refs := 2 } :=
  ⟨⟨_, rfl, by decide +kernel⟩, fun _ _ h => (nomatch h), by decide +kernel, by decide +kernel⟩

/-- The batch wait of a close, where the invariant of a close says something. -/
theorem witness_StepKeepsClosedSound : (∃ t, step { closing .batches opened with pending := [.closeEnd] } = .next t)
    ∧ TrunksSound { closing .batches opened with pending := [.closeEnd] }
    ∧ ClosedSound { closing .batches opened with pending := [.closeEnd] } := by
  refine ⟨⟨_, rfl⟩, by unfold TrunksSound Trunk.Sound; decide +kernel, fun _ => ⟨by decide +kernel, rfl, rfl, ?_, ?_⟩⟩
  · decide +kernel
  · intro h; cases h

end Sys2Proof.Tests
end

section
/-! The soundness of the eight channels, one channel at a time. -/

namespace Sys2Proof.Machine

/-! ### One channel -/

/-- What `ChannelsSound` says of one channel, but for the arbiter's offer (R45, R48). -/
structure Channel.Fits (x : Channel) : Prop where
  within : x.queue.length ≤ x.config.depth
  depth : 1 ≤ x.config.depth
  high : 1 ≤ x.config.high
  usage : x.usage = x.queue.length + x.inflight.length
  disabled : x.enabled = false → x.queue = []

/-- What `ChannelsSound` says of one channel: it fits, and the arbiter holds its offer exactly when it is ready
(R53, R54). -/
structure Channel.Sound (x : Channel) : Prop extends x.Fits where
  offered : x.offered = x.ready

/-- The five conditions of readiness (R53). -/
theorem Channel.ready_iff (x : Channel) :
    x.ready = true ↔ x.enabled = true ∧ 1 ≤ x.credit ∧ x.queue ≠ [] ∧ x.inflight = []
      ∧ (x.config.trigger ≤ x.queue.length ∨ x.holdRunOut = true) := by
  simp [Channel.ready, and_assoc]

/-- The invariant of the channels is the soundness of each. -/
theorem channelsSound_iff (s : State) : ChannelsSound s ↔ ∀ c : ChannelId, (s.channels[c]).Sound := by
  unfold ChannelsSound
  refine forall_congr' fun c => ⟨?_, ?_⟩
  · rintro ⟨h1, h2, h3, h4, h5, h6⟩
    exact ⟨⟨h1, h2, h3, h4, h5⟩, Bool.eq_iff_iff.2 (h6.trans (Channel.ready_iff _).symm)⟩
  · rintro ⟨⟨h1, h2, h3, h4, h5⟩, h6⟩
    exact ⟨h1, h2, h3, h4, h5, by rw [h6]; exact Channel.ready_iff _⟩

/-- A channel that fits is sound once its readiness has been evaluated. -/
theorem Channel.Fits.sound {x : Channel} (h : x.Fits) : ({ x with offered := x.ready } : Channel).Sound :=
  ⟨⟨h.within, h.depth, h.high, h.usage, h.disabled⟩, rfl⟩

/-- A channel whose counters alone have changed is as sound as before. -/
theorem Channel.Sound.counters {x : Channel} (h : x.Sound) (k : ChannelCounters) :
    ({ x with counters := k } : Channel).Sound :=
  ⟨⟨h.within, h.depth, h.high, h.usage, h.disabled⟩, h.offered⟩

/-- A channel that fits is sound after the three evaluations that end an event (R49). -/
theorem Channel.Fits.evaluated {x : Channel} (h : x.Fits) (now : Time) :
    let y := x.evalHold now
    ({ y with level := y.markedLevel, offered := y.ready } : Channel).Sound := by
  obtain ⟨b, d, e⟩ := x.evalHold_fields now
  rw [e]
  exact ⟨⟨h.within, h.depth, h.high, h.usage, h.disabled⟩, rfl⟩

/-- A channel without queue and hold flag fits when its usage is its in-flight size. -/
theorem Channel.Fits.emptied {x : Channel} (h : x.Fits) : x.emptied.Fits where
  within := Nat.zero_le _
  depth := h.depth
  high := h.high
  usage := by have := h.usage; simp [Channel.emptied]; omega
  disabled := fun _ => rfl

/-- A channel that has formed a batch fits: the entries taken are in flight (R55). -/
theorem Channel.Fits.formBatch {x : Channel} (h : x.Fits) (hi : x.inflight = []) : x.formBatch.Fits where
  within := by have := h.within; simp [Channel.formBatch]; omega
  depth := h.depth
  high := h.high
  usage := by have := h.usage; simp [Channel.formBatch, hi] at this ⊢; omega
  disabled := fun e => by simp [Channel.formBatch, h.disabled e]

/-- A channel that has lost its head entry fits (R37). -/
theorem Channel.Fits.dropHead {x : Channel} (h : x.Fits) (hq : x.queue ≠ []) : x.dropHead.Fits where
  within := by have := h.within; simp [Channel.dropHead]; omega
  depth := h.depth
  high := h.high
  usage := by
    have := h.usage
    have := List.length_pos_of_ne_nil hq
    simp [Channel.dropHead]; omega
  disabled := fun e => by simp [Channel.dropHead, h.disabled e]

/-- A channel that has lost its head entry has room for one (R37). -/
theorem Channel.Fits.dropHead_full {x : Channel} (h : x.Fits) (hq : x.queue ≠ []) : x.dropHead.full = false := by
  have := h.within
  have := List.length_pos_of_ne_nil hq
  simp [Channel.full, Channel.dropHead]; omega

/-- A channel with an empty queue has room for an entry: its depth is at least 1. -/
theorem Channel.Fits.full_nil {x : Channel} (h : x.Fits) (hq : x.queue = []) : x.full = false := by
  have := h.depth
  simp [Channel.full, hq]; omega

/-- An ENABLED channel with room for one more entry fits with the entry appended (R39). -/
theorem Channel.Fits.append {x : Channel} (h : x.Fits) (hr : x.full = false) (he : x.enabled = true) (now : Time)
    (i : SlotId) : (x.append now i).Fits where
  within := by simp [Channel.full] at hr; simp [Channel.append]; omega
  depth := h.depth
  high := h.high
  usage := by have := h.usage; simp [Channel.append]; omega
  disabled := fun e => absurd (he.symm.trans e) (by simp)

/-! ### The eight channels -/

/-- An event that changes one channel keeps the eight sound when it leaves that one sound. -/
theorem ChannelsSound.of_one {s t : State} (h : ChannelsSound s) (c : ChannelId) (hc : (t.channels[c]).Sound)
    (ho : ∀ d, c ≠ d → t.channels[d] = s.channels[d]) : ChannelsSound t := by
  rw [channelsSound_iff] at h ⊢
  intro d
  by_cases e : c = d
  · exact e ▸ hc
  · rw [ho d e]; exact h d

/-- An event that leaves the channels keeps them sound. -/
theorem ChannelsSound.of_eq {s t : State} (h : ChannelsSound s) (e : t.channels = s.channels) : ChannelsSound t := by
  unfold ChannelsSound at h ⊢; rw [e]; exact h

/-- A channel replaced by a sound one. -/
theorem ChannelsSound.setChannel {s : State} (h : ChannelsSound s) (c : ChannelId) {x : Channel} (hx : x.Sound) :
    ChannelsSound (s.setChannel c x) :=
  h.of_one c (by rw [s.setChannel_get]; exact hx) fun d e => by rw [s.setChannel_read, if_neg e]

/-- A channel replaced by one that fits, and then evaluated for readiness (R54). -/
theorem ChannelsSound.evalReady {s : State} (h : ChannelsSound s) (c : ChannelId) {x : Channel} (hx : x.Fits) :
    ChannelsSound ((s.setChannel c x).evalReady c) := by
  unfold State.evalReady
  rw [State.setChannel_setChannel, State.setChannel_get]
  exact h.setChannel c hx.sound

/-- A channel replaced by one that fits, and then evaluated (R49). -/
theorem ChannelsSound.evalChannel {s t : State} (h : ChannelsSound s) (c : ChannelId) (hc : (t.channels[c]).Fits)
    (ho : ∀ d, c ≠ d → t.channels[d] = s.channels[d]) : ChannelsSound (t.evalChannel c) :=
  h.of_one c (by rw [t.evalChannel_get c c, if_pos rfl]; exact hc.evaluated _)
    fun d e => by rw [t.evalChannel_get c d, if_neg e, ho d e]

/-- What a flush makes of the channels (R43). -/
theorem State.flushQueue_get (s : State) (c d : ChannelId) :
    (s.flushQueue c).channels[d] = if c = d then (s.channels[c]).emptied else s.channels[d] :=
  s.setChannel_read c d _

/-- A flushed channel has an empty queue and fits; what is then made of its credit and its enabled flag leaves it so. -/
theorem ChannelsSound.flushed {s : State} (h : ChannelsSound s) (c : ChannelId) (n : Nat) (b : Bool) :
    ChannelsSound (((s.flushQueue c).setChannel c
      { (s.flushQueue c).channels[c] with credit := n, enabled := b }).evalChannel c) := by
  have hx := ((channelsSound_iff s).1 h c).emptied
  refine h.evalChannel c ?_ fun d e => ?_
  · rw [State.setChannel_get, s.flushQueue_get, if_pos rfl]
    exact ⟨hx.within, hx.depth, hx.high, hx.usage, fun _ => rfl⟩
  · rw [State.setChannel_read, if_neg e, s.flushQueue_get, if_neg e]

/-- The completion of a batch (R57). -/
theorem ChannelsSound.completeBatch {s : State} (h : ChannelsSound s) (c : ChannelId) :
    ChannelsSound (s.completeBatch c) := by
  have hx := ((channelsSound_iff s).1 h c).toFits
  refine (h.evalReady c (x := { s.channels[c] with
    inflight := [], usage := (s.channels[c]).usage - (s.channels[c]).inflight.length
    counters := { (s.channels[c]).counters with
      sent := bump (s.channels[c]).counters.sent (s.channels[c]).inflight.length
      batches := bump (s.channels[c]).counters.batches 1 } })
    ⟨hx.within, hx.depth, hx.high, ?_, hx.disabled⟩).of_eq rfl
  have := hx.usage
  simp only [List.length_nil]; omega

/-! ### The arbiter (R55, R138) -/

/-- A ready channel that takes its grant (R55). -/
theorem ChannelsSound.sendBatch {s : State} (h : ChannelsSound s) (chained : Bool) {c : ChannelId}
    (hr : (s.channels[c]).ready = true) : ChannelsSound (s.sendBatch chained c) := by
  have hx := ((channelsSound_iff s).1 h c).formBatch (Channel.ready_fields hr).2.1
  have he : (s.sendBatch chained c).channels =
      ((s.setChannel c (s.channels[c]).formBatch).evalChannel c).channels := by simp [State.sendBatch]
  refine (h.evalChannel (t := s.setChannel c (s.channels[c]).formBatch) c ?_ fun d e => ?_).of_eq he
  · rw [State.setChannel_get]; exact hx
  · rw [State.setChannel_read, if_neg e]

/-- While every offer is that of a ready channel, a pick keeps the channels sound: no grant is declined. -/
theorem ChannelsSound.pick {s : State} (h : ChannelsSound s) (chained : Bool) :
    ∀ fuel, ChannelsSound (State.pick chained fuel s)
  | 0 => h
  | fuel + 1 => by
    have ready : ∀ c, s.nextOffered = some c → (s.channels[c]).ready = true := fun c hc =>
      ((channelsSound_iff s).1 h c).offered ▸ State.nextOffered_some hc
    unfold State.pick
    cases hn : s.nextOffered with
    | none =>
      dsimp only
      repeat' split
      all_goals exact h.of_eq (by simp)
    | some c =>
      simp only [ready c hn, if_true]
      have batch := h.sendBatch chained (ready c hn)
      split
      · exact batch
      · split
        · exact h.of_eq (by simp)
        · split
          · exact h.of_eq (by simp)
          · exact batch

/-- The end of a step (R138). -/
theorem ChannelsSound.finish {s : State} (h : ChannelsSound s) (chained : Bool) :
    ChannelsSound (s.finish chained) := by
  refine ChannelsSound.of_eq (s := s.arbitrate chained) ?_ rfl
  unfold State.arbitrate
  split
  · exact h.pick chained 9
  · exact h

end Sys2Proof.Machine
end

section
/-! An admission keeps the channels sound (R34 to R40, R49). -/

namespace Sys2Proof.Machine

/-! ### Evictions, appended entries, losses -/

/-- What an eviction makes of the channels: the head entry of a queue that holds one leaves (R37). -/
theorem State.evictHead_get (s : State) (c d : ChannelId) :
    (s.evictHead c).channels[d] =
      if c = d ∧ (s.channels[c]).queue ≠ [] then (s.channels[c]).dropHead else s.channels[d] := by
  unfold State.evictHead
  split
  · rename_i hq; rw [if_neg fun h => h.2 hq]
  · rename_i hq
    refine (s.setChannel_read c d _).trans ?_
    by_cases e : c = d
    · rw [if_pos e, if_pos ⟨e, by rw [hq]; exact List.cons_ne_nil _ _⟩]
    · rw [if_neg e, if_neg fun h => e h.1]

/-- The entries appended for a record: one on each channel of a set that names none twice (R39). -/
theorem State.appendEntries_get (i : SlotId) : ∀ (cs : List ChannelId) (s : State), cs.Nodup → ∀ d : ChannelId,
    (s.appendEntries i cs).channels[d] =
      if d ∈ cs then (s.channels[d]).append s.timeBase i else s.channels[d]
  | [], s, _, d => by simp [State.appendEntries]
  | c :: cs, s, hn, d => by
    obtain ⟨hc, hcs⟩ := List.nodup_cons.1 hn
    have ih := State.appendEntries_get i cs (s.setChannel c ((s.channels[c]).append s.timeBase i)) hcs d
    rw [State.setChannel_read, State.setChannel_timeBase] at ih
    refine Eq.trans ih ?_
    by_cases e : c = d
    · subst e; simp [hc]
    · simp [e, Ne.symm e]

/-- A loss report writes counters only, of the channels. -/
theorem State.reportLoss_get (s : State) (p : ChannelId × Loss) (d : ChannelId) :
    ∃ k, (s.reportLoss p).channels[d] = { s.channels[d] with counters := k } := by
  unfold State.reportLoss
  split
  · rw [State.raise_frame]
    by_cases e : p.1 = d
    · subst e; exact ⟨_, (s.setChannel_read p.1 p.1 _).trans (if_pos rfl)⟩
    · exact ⟨_, (s.setChannel_read p.1 d _).trans (if_neg e)⟩
  · exact ⟨_, rfl⟩

/-- The loss reports of an admission write counters only, of the channels. -/
theorem State.reportLosses_get (d : ChannelId) : ∀ (ps : List (ChannelId × Loss)) (s : State),
    ∃ k, (ps.foldl State.reportLoss s).channels[d] = { s.channels[d] with counters := k }
  | [], s => ⟨(s.channels[d]).counters, rfl⟩
  | p :: ps, s => by
    obtain ⟨k, hk⟩ := s.reportLoss_get p d
    obtain ⟨j, hj⟩ := State.reportLosses_get d ps (s.reportLoss p)
    exact ⟨j, by rw [List.foldl_cons, hj, hk]⟩

/-- The evaluations that end an admission: a channel that is evaluated need only fit before (R49). -/
theorem ChannelsSound.of_evaluations : ∀ (cs : List ChannelId) (s : State), (∀ d : ChannelId, (s.channels[d]).Fits) →
    (∀ d : ChannelId, (s.channels[d]).offered = (s.channels[d]).ready ∨ d ∈ cs) →
    ChannelsSound (cs.foldl State.evalChannel s)
  | [], s, hf, ho => (channelsSound_iff s).2 fun d => ⟨hf d, (ho d).resolve_right (List.not_mem_nil)⟩
  | c :: cs, s, hf, ho => by
    have hs : ∀ d : ChannelId, (c = d ∧ ((s.evalChannel c).channels[d]).Sound)
        ∨ (c ≠ d ∧ (s.evalChannel c).channels[d] = s.channels[d]) := fun d => by
      by_cases e : c = d
      · subst e; exact .inl ⟨rfl, by rw [s.evalChannel_get, if_pos rfl]; exact (hf c).evaluated _⟩
      · exact .inr ⟨e, by rw [s.evalChannel_get, if_neg e]⟩
    refine ChannelsSound.of_evaluations cs (s.evalChannel c) (fun d => ?_) (fun d => ?_)
    · obtain ⟨-, h⟩ | ⟨-, h⟩ := hs d
      · exact h.toFits
      · rw [h]; exact hf d
    · obtain ⟨-, h⟩ | ⟨e, h⟩ := hs d
      · exact .inl h.offered
      · rw [h]
        exact (ho d).imp_right fun h => (List.mem_cons.1 h).resolve_left (Ne.symm e)

/-! ### The admission under way -/

/-- An eviction has been counted on the channel. -/
def Admission.Evicted (a : Admission) (c : ChannelId) : Prop := ∃ p ∈ a.losses, p.1 = c ∧ 0 < p.2.keepNew

/-- What holds of an admission that is not deferred, at each of its steps: the channels fit, those still in the set are
ENABLED and have a loss entry, and a channel whose offer is out of date is one of the set that has lost an entry. -/
structure Admission.Good (a : Admission) : Prop where
  fits : ∀ c : ChannelId, (a.state.channels[c]).Fits
  nodup : a.kept.Nodup
  enabled : ∀ c ∈ a.kept, (a.state.channels[c]).enabled = true
  listed : ∀ c ∈ a.kept, ∃ p ∈ a.losses, p.1 = c
  deferring : ∀ c ∈ a.kept, (a.state.channels[c]).config.policy = .defer → (a.state.channels[c]).full = false
  offered : ∀ c : ChannelId, (a.state.channels[c]).offered = (a.state.channels[c]).ready
    ∨ (c ∈ a.kept ∧ (a.state.channels[c]).config.policy = .keepNew ∧ a.Evicted c)

/-- What the eviction makes of the channels. -/
theorem Admission.evict_get (a : Admission) (c d : ChannelId) :
    (a.evict c).state.channels[d] =
      if c = d ∧ (a.state.channels[c]).queue ≠ [] then (a.state.channels[c]).dropHead else a.state.channels[d] :=
  a.state.evictHead_get c d

/-- What the eviction makes of the losses. -/
theorem Admission.evict_losses (a : Admission) (c : ChannelId) :
    (a.evict c).losses = countLoss a.losses c fun l => { l with keepNew := l.keepNew + 1 } := rfl

/-- A counted loss stands in the list under the same channel, and an eviction stays one. -/
theorem Admission.evicted_countLoss {a : Admission} {c d : ChannelId} {f : Loss → Loss}
    (hf : ∀ l, l.keepNew ≤ (f l).keepNew) (h : a.Evicted d) {b : Admission}
    (hb : b.losses = countLoss a.losses c f) : b.Evicted d := by
  obtain ⟨p, hp, rfl, hn⟩ := h
  unfold Admission.Evicted
  rw [hb]
  refine ⟨_, List.mem_map.2 ⟨p, hp, rfl⟩, ?_⟩
  split
  · exact ⟨rfl, hn.trans_le (hf p.2)⟩
  · exact ⟨rfl, hn⟩

/-- Each channel that has a loss entry keeps one when a loss is counted. -/
theorem listed_countLoss {losses : List (ChannelId × Loss)} {c d : ChannelId} (f : Loss → Loss)
    (h : ∃ p ∈ losses, p.1 = d) : ∃ p ∈ countLoss losses c f, p.1 = d := by
  obtain ⟨p, hp, rfl⟩ := h
  exact ⟨_, List.mem_map.2 ⟨p, hp, rfl⟩, by split <;> rfl⟩

/-- An eviction makes room on the channel and takes none on another. -/
theorem Admission.Good.evict_full {a : Admission} (h : a.Good) (c d : ChannelId)
    (hd : c = d ∨ (a.state.channels[d]).full = false) : ((a.evict c).state.channels[d]).full = false := by
  rw [a.evict_get]
  split
  · exact (h.fits c).dropHead_full (And.right ‹_›)
  · rename_i e
    obtain rfl | hd := hd
    · exact (h.fits c).full_nil (not_not.1 fun hq => e ⟨rfl, hq⟩)
    · exact hd

/-- An eviction from a KEEP_NEW channel of the set (R37, R38). -/
theorem Admission.Good.evict {a : Admission} (h : a.Good) {c : ChannelId} (hc : c ∈ a.kept)
    (hp : (a.state.channels[c]).config.policy = .keepNew) : (a.evict c).Good := by
  have keeps : ∀ d : ChannelId, ((a.evict c).state.channels[d]).enabled = (a.state.channels[d]).enabled
      ∧ ((a.evict c).state.channels[d]).config = (a.state.channels[d]).config := fun d => by
    rw [a.evict_get]
    split
    · rename_i e; rw [← e.1]; exact ⟨rfl, rfl⟩
    · exact ⟨rfl, rfl⟩
  have evicted : (a.evict c).Evicted c := by
    obtain ⟨p, hm, rfl⟩ := h.listed c hc
    exact ⟨_, List.mem_map.2 ⟨p, hm, rfl⟩, by simp⟩
  refine ⟨fun d => ?_, h.nodup, fun d hd => ?_, fun d hd => ?_, fun d hd hk => ?_, fun d => ?_⟩
  · rw [a.evict_get]
    split
    · rename_i e; exact (h.fits c).dropHead e.2
    · exact h.fits d
  · rw [(keeps d).1]; exact h.enabled d hd
  · rw [a.evict_losses]; exact listed_countLoss _ (h.listed d hd)
  · rw [(keeps d).2] at hk; exact h.evict_full c d (.inr (h.deferring d hd hk))
  · rw [(keeps d).2]
    by_cases e : c = d
    · exact .inr (e ▸ ⟨hc, hp, evicted⟩)
    · rw [a.evict_get, if_neg fun h => e h.1]
      exact (h.offered d).imp_right fun ⟨h1, h2, h3⟩ =>
        ⟨h1, h2, Admission.evicted_countLoss (fun l => Nat.le_succ l.keepNew) h3 (a.evict_losses c)⟩

/-- A full KEEP_OLD channel is struck from the set (R37). -/
theorem Admission.Good.strike {a : Admission} (h : a.Good) {c : ChannelId}
    (hp : (a.state.channels[c]).config.policy = .keepOld) (f : Loss → Loss) (hf : ∀ l, (f l).keepNew = l.keepNew) :
    ({ a with kept := a.kept.erase c, losses := countLoss a.losses c f } : Admission).Good where
  fits := h.fits
  nodup := h.nodup.erase c
  enabled d hd := h.enabled d (List.mem_of_mem_erase hd)
  listed d hd := listed_countLoss _ (h.listed d (List.mem_of_mem_erase hd))
  deferring d hd := h.deferring d (List.mem_of_mem_erase hd)
  offered d := (h.offered d).imp_right fun ⟨h1, h2, h3⟩ => by
    have hd : d ≠ c := by rintro rfl; rw [h2] at hp; cases hp
    exact ⟨(List.mem_erase_of_ne hd).2 h1, h2, Admission.evicted_countLoss (fun l => (hf l).ge) h3 rfl⟩

/-- Every channel still in the set has room for an entry: what the full-queue step brings about (R37). -/
structure Admission.Roomy (a : Admission) : Prop extends a.Good where
  room : ∀ c ∈ a.kept, (a.state.channels[c]).full = false

/-- The full-queue step leaves every channel of the set with room for an entry: before it, the channels that have none
are among those still to be looked at (R37). -/
theorem Admission.Good.fullQueues : ∀ (cs : List ChannelId) {a : Admission}, a.Good → cs.Nodup → cs ⊆ a.kept →
    (∀ c ∈ a.kept, c ∈ cs ∨ (a.state.channels[c]).full = false) → (Admission.fullQueues cs a).Roomy
  | [], _, h, _, _, hr => ⟨h, fun c hc => (hr c hc).resolve_left (List.not_mem_nil)⟩
  | c :: cs, a, h, hn, hs, hr => by
    obtain ⟨hc, hcs⟩ := List.nodup_cons.1 hn
    obtain ⟨hck, hsk⟩ := List.cons_subset.1 hs
    have rest : ∀ d ∈ a.kept, c = d ∨ d ∈ cs ∨ (a.state.channels[d]).full = false := fun d hd =>
      (hr d hd).elim (fun h => (List.mem_cons.1 h).elim (fun e => .inl e.symm) fun h => .inr (.inl h))
        fun h => .inr (.inr h)
    unfold Admission.fullQueues
    split
    · rename_i hf
      split
      · rename_i hp
        refine Admission.Good.fullQueues cs (h.strike hp _ fun l => rfl) hcs (fun d hd => ?_) fun d hd => ?_
        · exact (List.mem_erase_of_ne (by rintro rfl; exact hc hd)).2 (hsk hd)
        · obtain ⟨hne, hk⟩ := (h.nodup.mem_erase_iff).1 hd
          exact (rest d hk).resolve_left (Ne.symm hne)
      · rename_i hp
        refine Admission.Good.fullQueues cs (h.evict hck hp) hcs hsk fun d hd => ?_
        obtain e | hd | hd := rest d hd
        · exact .inr (h.evict_full c d (.inl e))
        · exact .inl hd
        · exact .inr (h.evict_full c d (.inr hd))
      · rename_i hp
        exact absurd hf (by rw [h.deferring c hck hp]; decide)
    · rename_i hf
      refine Admission.Good.fullQueues cs h hcs hsk fun d hd => ?_
      obtain rfl | hd := rest d hd
      · exact .inr (Bool.not_eq_true _ ▸ hf)
      · exact hd

/-- The evictions for a slot keep the room that the channels of the set have (R38). -/
theorem Admission.Roomy.makeRoom : ∀ (fuel : Nat) {a : Admission}, a.Roomy → (Admission.makeRoom fuel a).Roomy
  | 0, _, h => h
  | fuel + 1, a, h => by
    unfold Admission.makeRoom
    split
    · exact h
    · split
      · rename_i c hv
        have hp := List.find?_some hv
        simp only [Bool.and_eq_true, decide_eq_true_eq] at hp
        exact Admission.Roomy.makeRoom fuel ⟨h.evict (List.mem_of_find?_eq_some hv) hp.1,
          fun d hd => h.evict_full c d (.inr (h.room d hd))⟩
      · exact h

/-! ### The end of an admission -/

/-- An admission ends with sound channels when they fit and the offers that are out of date are evaluated (R40, R49). -/
theorem Admission.conclude_sound {a : Admission} {stored : Bool} (hf : ∀ c : ChannelId, (a.state.channels[c]).Fits)
    (ho : ∀ c : ChannelId, (a.state.channels[c]).offered = (a.state.channels[c]).ready ∨ c ∈ a.touched stored) :
    ChannelsSound (a.conclude stored) := by
  refine ChannelsSound.of_evaluations _ _ (fun d => ?_) fun d => ?_
  all_goals obtain ⟨k, hk⟩ := State.reportLosses_get d a.losses a.state; rw [hk]
  · have := hf d
    exact ⟨this.within, this.depth, this.high, this.usage, this.disabled⟩
  · exact ho d

/-- An admission that stores nothing. -/
theorem Admission.Good.conclude_dropped {a : Admission} (h : a.Good) : ChannelsSound (a.conclude false) :=
  Admission.conclude_sound h.fits fun c => (h.offered c).imp_right fun ⟨hk, _, p, hp, hc, hn⟩ =>
    List.mem_filter.2 ⟨hk, List.any_eq_true.2 ⟨p, hp, by simp [hc, hn]⟩⟩

/-- An admission that counts a no-slot drop on each channel of the set (R38). -/
theorem Admission.Good.noSlot {a : Admission} (h : a.Good) : a.noSlot.Good where
  fits := h.fits
  nodup := h.nodup
  enabled := h.enabled
  listed c hc := by
    obtain ⟨p, hp, rfl⟩ := h.listed c hc
    exact ⟨_, List.mem_map.2 ⟨p, hp, rfl⟩, by split <;> rfl⟩
  deferring := h.deferring
  offered c := (h.offered c).imp_right fun ⟨hk, hp, p, hm, hc, hn⟩ =>
    ⟨hk, hp, _, List.mem_map.2 ⟨p, hm, rfl⟩, by split <;> exact ⟨hc, hn⟩⟩

/-- The record is stored and queued on every channel of the set (R39). -/
theorem Admission.Roomy.store {a : Admission} (h : a.Roomy) (r : Record) (i : SlotId) :
    ChannelsSound (({ a with state := a.state.storeRecord r i a.kept } : Admission).conclude true) := by
  have get : ∀ d : ChannelId, (a.state.storeRecord r i a.kept).channels[d] =
      if d ∈ a.kept then (a.state.channels[d]).append a.state.timeBase i else a.state.channels[d] :=
    State.appendEntries_get i a.kept { a.state with store := a.state.store.occupy i r a.kept.length } h.nodup
  refine Admission.conclude_sound (fun d => ?_) fun d => ?_ <;> dsimp only <;> rw [get d]
  · split
    · rename_i hd; exact (h.fits d).append (h.room d hd) (h.enabled d hd) _ _
    · exact h.fits d
  · by_cases hd : d ∈ a.kept
    · exact .inr (List.mem_filter.2 ⟨hd, rfl⟩)
    · rw [if_neg hd]; exact .inl ((h.offered d).resolve_right fun h => hd h.1)

/-- What the slot test makes of an admission leaves the channels sound in both its endings (R38, R39). -/
theorem Admission.Roomy.place {a : Admission} (h : a.Roomy) (r : Record) :
    ChannelsSound ((a.place r).2.conclude (decide ((a.place r).1 = .stored))) := by
  generalize hp : a.place r = q
  unfold Admission.place at hp
  split at hp <;> subst hp
  · exact h.store r _
  · exact h.noSlot.conclude_dropped

/-- The start of an admission that the DEFER test passes (R35, R36). -/
theorem State.beginAdmission_good {s : State} (h : ChannelsSound s) {cs : List ChannelId} (hn : cs.Nodup)
    (hd : s.deferTest (s.beginAdmission cs).kept = false) : (s.beginAdmission cs).Good where
  fits c := ((channelsSound_iff s).1 h c).toFits
  nodup := hn.filter _
  enabled c hc := (List.mem_filter.1 hc).2
  listed c hc := ⟨_, List.mem_map.2 ⟨c, (List.mem_filter.1 hc).1, rfl⟩, rfl⟩
  deferring c hc hp := by
    have := List.any_eq_false.1 hd c hc
    simp only [Bool.and_eq_true, decide_eq_true_eq, Bool.or_eq_true, not_and, not_or] at this
    exact Bool.not_eq_true _ ▸ (this hp).1
  offered c := .inl ((channelsSound_iff s).1 h c).offered

/-- An admission to a delivery set that names no channel twice keeps the channels sound (R34 to R40). -/
theorem ChannelsSound.takeAdmission {s : State} (h : ChannelsSound s) (r : Record) {cs : List ChannelId}
    (hn : cs.Nodup) : ChannelsSound (s.takeAdmission r cs).2 := by
  have hs := (channelsSound_iff s).1 h
  unfold State.takeAdmission
  dsimp only
  split
  · refine ChannelsSound.of_eq (s := (s.beginAdmission cs).conclude false) ?_ (by simp)
    exact Admission.conclude_sound (fun c => (hs c).toFits) fun c => .inl (hs c).offered
  · split
    · exact h
    · rename_i hd
      have good := State.beginAdmission_good h hn (by simpa using hd)
      have roomy := good.fullQueues _ good.nodup (fun _ h => h) fun c hc => .inl hc
      split
      · exact roomy.conclude_dropped
      · exact (roomy.makeRoom _).place r

end Sys2Proof.Machine
end

section
/-! Events that work beside the screening and channel units: what they leave alone, said once for each operation. -/

namespace Sys2Proof.Machine

/-! ### The record that waits for admission -/

/-- The record of a turn that has been screened and waits for admission (R12, R75). -/
def Turn.awaiting (turn : Turn) : Option Screened :=
  match turn.stage with
  | .replied _ _ screened => screened
  | .polling | .missed => none

/-- The record that waits for admission on a trunk. -/
def Trunk.awaiting (x : Trunk) : Option Screened := x.turn.bind Turn.awaiting

/-- The delivery invariant, of the record that waits on each trunk (R12). -/
theorem deliverySound_iff (s : State) :
    DeliverySound s ↔ ∀ (k : TrunkId) (w : Screened), (s.trunks[k]).awaiting = some w → w.channels.Nodup := by
  refine ⟨fun h k w hw => ?_, fun h k turn stamp todo w ht hs => h k w ?_⟩
  · obtain ⟨turn, ht, hw⟩ := Option.bind_eq_some_iff.1 hw
    unfold Turn.awaiting at hw
    split at hw
    · subst hw; exact h k turn _ _ w ht ‹_›
    all_goals cases hw
  · unfold Trunk.awaiting Turn.awaiting; rw [ht, Option.bind_some, hs]

/-! ### The relation -/

/-- An event between `s` and `t` that works beside the screening and channel units: it leaves the channels and the active
table as they were, makes no record wait for admission, and keeps which message is in transmission. -/
structure Beside (s t : State) : Prop where
  channels : t.channels = s.channels
  active : t.active = s.active
  sending : t.link.tx.map Transmission.what = s.link.tx.map Transmission.what
  awaiting : ∀ (k : TrunkId) (w : Screened), (t.trunks[k]).awaiting = some w → (s.trunks[k]).awaiting = some w

namespace Beside
variable {s t u v : State}

theorem refl (s : State) : Beside s s := ⟨rfl, rfl, rfl, fun _ _ h => h⟩

theorem trans (h : Beside s t) (g : Beside t u) : Beside s u :=
  ⟨g.channels.trans h.channels, g.active.trans h.active, g.sending.trans h.sending,
    fun k w hw => h.awaiting k w (g.awaiting k w hw)⟩

/-- It keeps both invariants of the delivery. -/
theorem sound (h : Beside s t) (hs : DeliverySound s ∧ ChannelsSound s) : DeliverySound t ∧ ChannelsSound t :=
  ⟨(deliverySound_iff t).2 fun k w hw => (deliverySound_iff s).1 hs.1 k w (h.awaiting k w hw),
    hs.2.of_eq h.channels⟩

/-- What leaves channels, active table, link and trunks. -/
theorem frame (h : Beside s u) (hc : v.channels = u.channels) (ha : v.active = u.active) (hl : v.link = u.link)
    (ht : v.trunks = u.trunks) : Beside s v :=
  h.trans ⟨hc, ha, by rw [hl], fun k w hw => by rw [ht] at hw; exact hw⟩

/-- What writes the link, but for the message in transmission. -/
theorem setLink (h : Beside s u) {l : Link} (hl : l.tx = u.link.tx) : Beside s (u.setLink l) :=
  h.trans ⟨rfl, rfl, by rw [State.setLink_link, hl], fun _ _ hw => hw⟩

/-- What replaces a trunk by one on which no other record waits. -/
theorem setTrunk (h : Beside s u) {k : TrunkId} {x : Trunk}
    (hx : ∀ w, x.awaiting = some w → (s.trunks[k]).awaiting = some w) : Beside s (u.setTrunk k x) where
  channels := h.channels
  active := h.active
  sending := h.sending
  awaiting j w hw := by
    rw [State.setTrunk_trunks, get_setAt] at hw
    split at hw
    · subst_vars; exact hx w hw
    · exact h.awaiting j w hw

/-- What replaces a trunk by one with the same turn. -/
theorem sameTurn (h : Beside s u) {k : TrunkId} {x : Trunk} (hx : x.turn = (u.trunks[k]).turn) :
    Beside s (u.setTrunk k x) :=
  h.setTrunk fun w hw => h.awaiting k w (by unfold Trunk.awaiting at hw ⊢; rw [← hx]; exact hw)

/-- What replaces a trunk by one without a turn. -/
theorem noTurn (h : Beside s u) {k : TrunkId} {x : Trunk} (hx : x.turn = none) :
    Beside s (u.setTrunk k x) :=
  h.setTrunk fun w hw => by simp [Trunk.awaiting, hx] at hw

/-- What replaces a trunk by one whose turn has no other record waiting than the trunk had. -/
theorem otherTurn (h : Beside s u) {k : TrunkId} {turn : Turn} {x : Trunk}
    (ht : ∀ w, turn.awaiting = some w → (s.trunks[k]).awaiting = some w)
    (hx : x.turn.bind Turn.awaiting = turn.awaiting) : Beside s (u.setTrunk k x) :=
  h.setTrunk fun w hw => ht w (by rw [← hx]; exact hw)

/-! ### The operations the commands share -/

theorem advanceTo (h : Beside s u) (due : Time) : Beside s (u.advanceTo due) :=
  h.frame (by simp) (by simp) (by simp) (by simp)

theorem setStation (h : Beside s u) (i : StationId) (x : Option Station) : Beside s (u.setStation i x) :=
  h.frame rfl rfl rfl rfl

theorem mapStation (h : Beside s u) (i : StationId) (f : Station → Station) : Beside s (u.mapStation i f) :=
  h.frame rfl rfl rfl rfl

theorem countStation (h : Beside s u) (i : StationId) (f : StationCounters → StationCounters) :
    Beside s (u.countStation i f) := h.frame rfl rfl rfl rfl

theorem setNotices (h : Beside s u) (q : NoticeQueue) : Beside s (u.setNotices q) := h.frame rfl rfl rfl rfl

theorem setDirectives (h : Beside s u) (es : List Directive) : Beside s (u.setDirectives es) :=
  h.frame rfl rfl rfl rfl

theorem countLink (h : Beside s u) (f : LinkCounters → LinkCounters) : Beside s (u.countLink f) := h.setLink rfl

theorem answer (h : Beside s u) (kind tag : Byte) (status : Status) (results : List Byte) :
    Beside s (u.answer kind tag status results) := h.setLink rfl

theorem enter (h : Beside s u) (kind tag : Byte) : Beside s (u.enter kind tag) := h.setLink rfl

theorem refuse (h : Beside s u) (kind tag : Byte) (status : Status) : Beside s (u.refuse kind tag status) := by
  unfold State.refuse
  split
  · exact h.setLink rfl
  · exact h.countLink _

theorem raise (h : Beside s u) (n : Notice) : Beside s (u.raise n) :=
  h.frame (by simp) (by simp) (by simp) (by simp)

theorem setPhase (h : Beside s u) (k : TrunkId) (p : Phase) : Beside s (u.setPhase k p) :=
  h.sameTurn (by rfl)

theorem beginSettling (h : Beside s u) (k : TrunkId) : Beside s (u.beginSettling k) := h.setPhase k _

theorem countTrunk (h : Beside s u) (k : TrunkId) (f : TrunkCounters → TrunkCounters) :
    Beside s (u.countTrunk k f) := h.sameTurn (by rfl)

/-- A stage in which no record waits. -/
theorem setStage (h : Beside s u) (k : TrunkId) (turn : Turn) {stage : TurnStage}
    (hn : ({ turn with stage := stage } : Turn).awaiting = none) : Beside s (u.setStage k turn stage) :=
  h.setTrunk fun w hw => absurd (hn.symm.trans hw) (by simp)

/-! ### Directives and the roster -/

theorem settle (h : Beside s u) (turn : Turn) (ack : Option (Byte × Byte)) : Beside s (u.settle turn ack) :=
  h.frame (by simp) (by simp) (by simp) (by simp)

theorem attach (h : Beside s u) (i : StationId) : Beside s (u.attach i).2 := by
  unfold State.attach
  split
  · exact h
  · exact h.setDirectives _

theorem countStray (h : Beside s u) (turn : Turn) (n : Byte) : Beside s (u.countStray turn n) := by
  unfold State.countStray
  split
  · exact h.countStation _ _
  · exact h

theorem freeStation (h : Beside s u) (i : StationId) : Beside s (u.freeStation i) :=
  h.frame (by simp) (by simp) (by simp) (by simp)

theorem completeRemoval (h : Beside s u) (i : StationId) (st : Station) : Beside s (u.completeRemoval i st) := by
  unfold State.completeRemoval
  split
  · exact (h.freeStation i).answer _ _ _ _
  · exact h.freeStation i

/-- What every step of a fold does, the fold does. -/
theorem foldl {α : Type} {f : State → α → State} (hf : ∀ u a, Beside s u → Beside s (f u a)) :
    ∀ (l : List α) {u : State}, Beside s u → Beside s (l.foldl f u)
  | [], _, h => h
  | a :: l, _, h => foldl hf l (hf _ a h)

theorem groundStations (h : Beside s u) (k : TrunkId) : Beside s (u.groundStations k) := by
  refine foldl (fun u i h => ?_) _ h
  unfold State.groundStation
  split
  · split
    · split
      · exact h.completeRemoval _ _
      · exact h.setStation _ _
    · exact h
  · exact h

theorem restartStation (h : Beside s u) (i : StationId) : Beside s (u.restartStation i) :=
  (h.mapStation i _).raise _

theorem discardUnwalked (h : Beside s u) (i : StationId) (k : TrunkId) : Beside s (State.discardUnwalked i u k) := by
  have cut : ∀ turn : Turn, ({ turn with stage := turn.stage.cut } : Turn).awaiting = none := fun turn => by
    cases e : turn.stage <;> simp [Turn.awaiting, TurnStage.cut]
  unfold State.discardUnwalked
  split
  · split
    · exact (h.setStage k _ (cut _)).countStation _ _
    · exact h
  · exact h

theorem abandonTurn (h : Beside s u) (turn : Option Turn) : Beside s (u.abandonTurn turn) := by
  unfold State.abandonTurn
  split
  · have settled := h.settle ‹Turn› none
    unfold State.abandonStation
    split
    · split
      · exact settled.completeRemoval _ _
      · split
        · exact (settled.setStation _ _).raise _
        · exact settled
    · exact settled
  · exact h

theorem closeStation (h : Beside s u) (turn : Turn) (limit : Nat) : Beside s (u.closeStation turn limit) := by
  unfold State.closeStation
  split
  · split
    · exact h.completeRemoval _ _
    · extract_lets outcome now closed
      have moved : Beside s closed := h.setStation _ _
      split
      · exact moved
      · exact moved.raise _
  · exact h

/-! ### The trunks -/

theorem startRound (h : Beside s u) (k : TrunkId) : Beside s (u.startRound k) := h.sameTurn (by rfl)

theorem endRound (h : Beside s u) (k : TrunkId) (turned : Bool) : Beside s (u.endRound k turned) :=
  h.sameTurn (by rfl)

theorem endRoundIfDone (h : Beside s u) (k : TrunkId) : Beside s (u.endRoundIfDone k) := by
  unfold State.endRoundIfDone
  split
  · split
    · exact h.endRound k _
    · exact h
  · exact h

theorem answerStop (h : Beside s u) (tag : Option Byte) (state : TrunkState) : Beside s (u.answerStop tag state) := by
  unfold State.answerStop
  split
  · exact h.answer _ _ _ _
  · exact h

theorem completeStop (h : Beside s u) (k : TrunkId) : Beside s (u.completeStop k) :=
  (((h.noTurn (by rfl)).groundStations k).answerStop _ _).raise _

theorem stopFaulted (h : Beside s u) (k : TrunkId) : Beside s (u.stopFaulted k) :=
  (h.sameTurn (by rfl)).raise _

theorem faultTrunk (h : Beside s u) (k : TrunkId) : Beside s (u.faultTrunk k) := by
  unfold State.faultTrunk
  dsimp only
  split
  · exact (((((h.abandonTurn _).noTurn (by rfl)).groundStations k).raise _).answerStop _ _).stopFaulted k
  · exact ((((h.abandonTurn _).noTurn (by rfl)).groundStations k).raise _).answerStop _ _

theorem beginPoll (h : Beside s u) (k : TrunkId) (turn : Turn) : Beside s (u.beginPoll k turn) := by
  unfold State.beginPoll
  split
  · exact h.sameTurn (by rfl)
  · exact h

theorem beginTurn (h : Beside s u) (k : TrunkId) (i : StationId) (st : Station) (places : List Place) :
    Beside s (u.beginTurn k i st places) :=
  ((h.attach i).setTrunk fun w hw => by simp [Trunk.awaiting, Turn.awaiting] at hw).beginPoll k _

theorem skipPlace (h : Beside s u) (k : TrunkId) (r : Round) (places : List Place) :
    Beside s (u.skipPlace k r places) := (h.sameTurn (by rfl)).endRoundIfDone k

theorem echoFault (h : Beside s u) (k : TrunkId) : Beside s (u.echoFault k) := by
  unfold State.echoFault
  dsimp only
  split
  · exact Beside.faultTrunk (h.sameTurn (by rfl)) k
  · exact Beside.beginSettling (h.sameTurn (by rfl)) k

theorem endAsMiss (h : Beside s u) (k : TrunkId) (turn : Turn) : Beside s (u.endAsMiss k turn) :=
  ((h.setStage k turn rfl).countStation _ _).settle _ _

theorem failAttempt (h : Beside s u) (k : TrunkId) {turn : Turn}
    (ht : ∀ w, turn.awaiting = some w → (s.trunks[k]).awaiting = some w) : Beside s (u.failAttempt k turn) := by
  unfold State.failAttempt
  dsimp only
  split
  · exact Beside.beginSettling (h.otherTurn ht (by rfl)) k
  · exact (h.beginSettling k).endAsMiss k turn

theorem breakReply (h : Beside s u) (k : TrunkId) {turn : Turn}
    (ht : ∀ w, turn.awaiting = some w → (s.trunks[k]).awaiting = some w) : Beside s (u.breakReply k turn) :=
  (h.countTrunk k _).failAttempt k ht

theorem layOut (h : Beside s u) (k : TrunkId) (turn : Turn) (rs : List ReplyRecord) :
    Beside s (u.layOut k turn rs) := by
  unfold State.layOut
  split
  · split
    · exact (h.setStage k turn rfl).countStation _ _
    · exact h.setStage k turn rfl
  · exact h.setStage k turn rfl

theorem endAsHit (h : Beside s u) (k : TrunkId) (turn : Turn) (frame : ReplyFrame) :
    Beside s (u.endAsHit k turn frame) := by
  unfold State.endAsHit
  extract_lets counted settled
  have counted : Beside s counted := ((h.countTrunk k _).beginSettling k).mapStation turn.slot _
  have settled : Beside s settled := (counted.countStray turn frame.ack).settle turn _
  split
  · exact (settled.restartStation turn.slot).layOut k turn _
  · exact settled.layOut k turn _

theorem completeReply (h : Beside s u) (k : TrunkId) {turn : Turn} (chars : List Byte)
    (ht : ∀ w, turn.awaiting = some w → (s.trunks[k]).awaiting = some w) :
    Beside s (u.completeReply k turn chars) := by
  unfold State.completeReply
  split
  · exact (h.countTrunk k _).failAttempt k ht
  · exact (h.countTrunk k _).failAttempt k ht
  · exact h.breakReply k ht
  · exact h.endAsHit k turn _

theorem turnClosed (h : Beside s u) (k : TrunkId) : Beside s (u.turnClosed k) := by
  unfold State.turnClosed
  split
  · exact Beside.completeStop (h.noTurn (by rfl)) k
  · exact Beside.endRoundIfDone (h.noTurn (by rfl)) k
  · exact h.noTurn (by rfl)

theorem runTrunk (h : Beside s u) (k : TrunkId) (w : StartWatch) (due : Time) : Beside s (u.runTrunk k w due) := by
  have running : Beside s ((u.advanceTo due).setTrunk k
      { (u.advanceTo due).trunks[k] with state := .running, watch := none, roundCounter := 0 }) :=
    (h.advanceTo due).sameTurn (by rfl)
  have woken : Beside s (((u.advanceTo due).setTrunk k
      { (u.advanceTo due).trunks[k] with state := .running, watch := none, roundCounter := 0 }).wakeStations k) :=
    running.frame rfl rfl rfl rfl
  exact ((woken.startRound k).answer _ _ _ _).raise _

theorem failStart (h : Beside s u) (k : TrunkId) (w : StartWatch) : Beside s (u.failStart k w) :=
  (((h.advanceTo w.limit).sameTurn (by rfl)).answer _ _ _ _).raise _

theorem beginStop (h : Beside s u) (k : TrunkId) (tag : Option Byte) : Beside s (u.beginStop k tag) := by
  unfold State.beginStop
  dsimp only
  split
  · exact Beside.completeStop (h.sameTurn (by rfl)) k
  · exact h.sameTurn (by rfl)

theorem closeStopTrunk (h : Beside s u) (k : TrunkId) : Beside s (u.closeStopTrunk k) := by
  unfold State.closeStopTrunk
  split
  · exact h.stopFaulted k
  · exact h.beginStop k none
  all_goals exact h

end Beside
end Sys2Proof.Machine
end

section
/-! The requests at their owners and the events that work beside the screening and channel units. -/

namespace Sys2Proof.Machine.Beside

variable {s u : State}

/-! ### Requests on the link, the notices and the tables -/

theorem linkOpen (h : Beside s u) (tag : Byte) (body : List Byte) : Beside s (linkOpen tag body u) := by
  unfold Machine.linkOpen
  split
  · exact h.answer _ _ _ _
  · split
    · exact Beside.answer (Beside.setNotices (h.setLink (by rfl)) _) _ _ _ _
    · exact h.answer _ _ _ _

theorem linkClose (h : Beside s u) (tag : Byte) : Beside s (linkClose tag u) := h.setLink rfl

theorem partReset (h : Beside s u) (tag : Byte) : Beside s (partReset tag u) := (h.answer _ _ _ _).setLink rfl

theorem noticeMask (h : Beside s u) (tag : Byte) (body : List Byte) : Beside s (noticeMask tag body u) := by
  unfold Machine.noticeMask
  split
  · exact h.answer _ _ _ _
  · exact (h.setNotices _).answer _ _ _ _

/-- What writes the staging table. -/
theorem stage (h : Beside s u) (t : RuleTable) : Beside s { u with staging := t } := h.frame rfl rfl rfl rfl

theorem ruleWrite (h : Beside s u) (tag : Byte) (body : List Byte) : Beside s (ruleWrite tag body u) := by
  unfold Machine.ruleWrite
  split
  · exact (h.stage _).answer _ _ _ _
  · exact h.answer _ _ _ _

theorem ruleErase (h : Beside s u) (tag : Byte) (body : List Byte) : Beside s (ruleErase tag body u) := by
  unfold Machine.ruleErase
  split
  · exact (h.stage _).answer _ _ _ _
  · exact h.answer _ _ _ _

theorem setWrite (h : Beside s u) (tag : Byte) (body : List Byte) : Beside s (setWrite tag body u) := by
  unfold Machine.setWrite
  split
  · exact (h.stage _).answer _ _ _ _
  · exact h.answer _ _ _ _

theorem defaultWrite (h : Beside s u) (tag : Byte) (body : List Byte) : Beside s (defaultWrite tag body u) := by
  unfold Machine.defaultWrite
  split
  · exact (h.stage _).answer _ _ _ _
  · exact h.answer _ _ _ _

theorem stageLoad (h : Beside s u) (tag : Byte) : Beside s (stageLoad tag u) := (h.stage _).answer _ _ _ _

theorem ruleRead (h : Beside s u) (tag : Byte) (body : List Byte) : Beside s (ruleRead tag body u) := by
  unfold Machine.ruleRead
  split <;> exact h.answer _ _ _ _

theorem channelQuery (h : Beside s u) (tag : Byte) (body : List Byte) : Beside s (channelQuery tag body u) := by
  unfold Machine.channelQuery
  split <;> exact h.answer _ _ _ _

/-! ### Requests on stations and directives -/

theorem stationAdd (h : Beside s u) (tag : Byte) (body : List Byte) : Beside s (stationAdd tag body u) := by
  unfold Machine.stationAdd
  split
  · split
    · exact h.answer _ _ _ _
    · split
      · exact h.answer _ _ _ _
      · split
        · exact h.answer _ _ _ _
        · exact Beside.answer (h.frame (by rfl) (by rfl) (by rfl) (by rfl)) _ _ _ _
  · exact h.answer _ _ _ _

theorem stationSet (h : Beside s u) (tag : Byte) (body : List Byte) : Beside s (stationSet tag body u) := by
  unfold Machine.stationSet
  split
  · exact h.answer _ _ _ _
  · split
    · exact h.answer _ _ _ _
    · exact (h.setStation _ _).answer _ _ _ _

theorem stationQuery (h : Beside s u) (tag : Byte) (body : List Byte) : Beside s (stationQuery tag body u) := by
  unfold Machine.stationQuery
  split <;> exact h.answer _ _ _ _

theorem stationList (h : Beside s u) (tag : Byte) : Beside s (stationList tag u) := h.answer _ _ _ _

theorem stationSuspend (h : Beside s u) (tag : Byte) (body : List Byte) :
    Beside s (stationSuspend tag body u) := by
  unfold Machine.stationSuspend
  split
  · exact h.answer _ _ _ _
  · exact (h.setStation _ _).answer _ _ _ _

theorem stationResume (h : Beside s u) (tag : Byte) (body : List Byte) : Beside s (stationResume tag body u) := by
  unfold Machine.stationResume
  split
  · exact h.answer _ _ _ _
  · split
    · exact (h.setStation _ _).answer _ _ _ _
    · exact h.answer _ _ _ _

theorem stationRemove (h : Beside s u) (tag : Byte) (body : List Byte) : Beside s (stationRemove tag body u) := by
  unfold Machine.stationRemove
  split
  · exact h.answer _ _ _ _
  · split
    · exact foldl (fun u k h => h.discardUnwalked _ k) _ (h.setStation _ _)
    · exact (h.freeStation _).answer _ _ _ _

theorem directiveSubmit (h : Beside s u) (tag : Byte) (body : List Byte) :
    Beside s (directiveSubmit tag body u) := by
  unfold Machine.directiveSubmit
  split
  · exact h.answer _ _ _ _
  · split
    · exact h.answer _ _ _ _
    · split
      · exact h.answer _ _ _ _
      · split
        · exact h.answer _ _ _ _
        · extract_lets d
          exact Beside.answer (Beside.mapStation (h.frame (by rfl) (by rfl) (by rfl) (by rfl)) _ _) _ _ _ _

theorem directiveCancel (h : Beside s u) (tag : Byte) (body : List Byte) :
    Beside s (directiveCancel tag body u) := by
  unfold Machine.directiveCancel
  split
  · exact h.answer _ _ _ _
  · split
    · exact h.answer _ _ _ _
    · split
      · exact h.answer _ _ _ _
      all_goals exact (h.setDirectives _).answer _ _ _ _

theorem directiveQuery (h : Beside s u) (tag : Byte) (body : List Byte) :
    Beside s (directiveQuery tag body u) := by
  unfold Machine.directiveQuery
  split
  · exact h.answer _ _ _ _
  · split <;> exact h.answer _ _ _ _

/-! ### Requests on trunks -/

theorem trunkConfig (h : Beside s u) (tag : Byte) (body : List Byte) : Beside s (trunkConfig tag body u) := by
  unfold Machine.trunkConfig
  split
  · split
    iterate 2 exact Beside.answer (h.sameTurn (by rfl)) _ _ _ _
    all_goals exact h.answer _ _ _ _
  · exact h.answer _ _ _ _

theorem trunkStart (h : Beside s u) (tag : Byte) (body : List Byte) : Beside s (trunkStart tag body u) := by
  unfold Machine.trunkStart
  split
  · split
    iterate 2 exact h.sameTurn (by rfl)
    all_goals exact h.answer _ _ _ _
  · exact h.answer _ _ _ _

theorem trunkStop (h : Beside s u) (tag : Byte) (body : List Byte) : Beside s (trunkStop tag body u) := by
  unfold Machine.trunkStop
  split
  · split
    · exact h.answer _ _ _ _
    · rename_i k _ _ _
      have aborted : Beside s (u.abortStart k) := by
        unfold State.abortStart
        dsimp only
        split
        · exact Beside.answer (h.sameTurn (by rfl)) _ _ _ _
        · exact h.sameTurn (by rfl)
      exact (aborted.answer _ _ _ _).raise _
    · exact h.beginStop _ _
    · exact h.answer _ _ _ _
    · exact (h.stopFaulted _).answer _ _ _ _
  · exact h.answer _ _ _ _

theorem trunkQuery (h : Beside s u) (tag : Byte) (body : List Byte) : Beside s (trunkQuery tag body u) := by
  unfold Machine.trunkQuery
  split <;> exact h.answer _ _ _ _

/-! ### The close of the session -/

theorem closeEnd (h : Beside s u) : Beside s (closeEnd u) := by
  unfold Machine.closeEnd
  split
  · split
    · exact Beside.answer (h.setLink (by rfl)) _ _ _ _
    · exact h
  · exact h

theorem closeStopStep (h : Beside s u) : Beside s (closeStopStep u) := by
  unfold Machine.closeStopStep
  split
  · split
    · exact foldl (fun u k h => h.closeStopTrunk k) _ (h.setLink rfl)
    · exact h
  · exact h

/-! ### The rounds and turns of a trunk -/

/-- The turn in flight on a trunk has no other record waiting than the trunk had. -/
theorem ofTurn (h : Beside s u) {k : TrunkId} {turn : Turn} (ht : (u.trunks[k]).turn = some turn) (w : Screened)
    (hw : turn.awaiting = some w) : (s.trunks[k]).awaiting = some w :=
  h.awaiting k w (by unfold Trunk.awaiting; rw [ht]; exact hw)

theorem roundStart (h : Beside s u) (k : TrunkId) : Beside s (roundStart k u) := by
  unfold Machine.roundStart
  split
  · exact (h.advanceTo _).startRound k
  · exact h

theorem turnBegin (h : Beside s u) (k : TrunkId) : Beside s (turnBegin k u) := by
  unfold Machine.turnBegin
  split
  · split
    · exact h.endRound k _
    · split
      · split
        · exact h.beginTurn k _ _ _
        · exact h.skipPlace k _ _
      · exact h.skipPlace k _ _
  · exact h

theorem echoTaken (h : Beside s u) (k : TrunkId) (b : Byte) (fe : Bool) : Beside s (echoTaken k b fe u) := by
  unfold Machine.echoTaken
  dsimp only
  split
  · rename_i turn _ hturn
    split
    · exact h.echoFault k
    · split
      · exact h.otherTurn (h.ofTurn hturn) (by rfl)
      · exact h.setPhase k _
  · exact h

theorem echoDeadline (h : Beside s u) (k : TrunkId) : Beside s (echoDeadline k u) := by
  unfold Machine.echoDeadline
  dsimp only
  split
  · exact (h.advanceTo _).echoFault k
  · exact h

theorem replyStarted (h : Beside s u) (k : TrunkId) : Beside s (replyStarted k u) := by
  unfold Machine.replyStarted
  split
  · exact h.setPhase k _
  · exact h

theorem replyTimeout (h : Beside s u) (k : TrunkId) : Beside s (replyTimeout k u) := by
  unfold Machine.replyTimeout
  split
  · rename_i hturn
    exact ((h.advanceTo _).countTrunk k _).failAttempt k (h.ofTurn hturn)
  · exact h

theorem gapExpiry (h : Beside s u) (k : TrunkId) : Beside s (gapExpiry k u) := by
  unfold Machine.gapExpiry
  split
  · rename_i hturn
    exact (h.advanceTo _).breakReply k (h.ofTurn hturn)
  · exact h

theorem replyTaken (h : Beside s u) (k : TrunkId) (b : Byte) (fe : Bool) : Beside s (replyTaken k b fe u) := by
  unfold Machine.replyTaken
  split
  · rename_i hturn
    split
    · exact h.breakReply k (h.ofTurn hturn)
    · split
      · exact h.completeReply k _ (h.ofTurn hturn)
      · exact h.setPhase k _
  · exact h

theorem strayTaken (h : Beside s u) (k : TrunkId) (b : Byte) (fe : Bool) : Beside s (strayTaken k b fe u) := by
  unfold Machine.strayTaken
  dsimp only
  split
  · exact h.sameTurn (by rfl)
  · exact h

theorem settleEnd (h : Beside s u) (k : TrunkId) : Beside s (settleEnd k u) := by
  unfold Machine.settleEnd
  split
  · split
    · split
      · exact (h.advanceTo _).beginPoll k _
      · exact (h.advanceTo _).setPhase k _
    · exact (h.advanceTo _).setPhase k _
  · exact h

theorem turnClose (h : Beside s u) (k : TrunkId) : Beside s (turnClose k u) := by
  unfold Machine.turnClose
  split
  · split
    · exact (h.closeStation _ _).turnClosed k
    · exact h
  · exact h

theorem lineWentLow (h : Beside s u) (k : TrunkId) (lowFor : Nat) : Beside s (lineWentLow k lowFor u) := by
  unfold Machine.lineWentLow
  split
  · exact h.sameTurn (by rfl)
  · exact h

/-! ### Events on the line of a trunk -/

theorem idleComplete (h : Beside s u) (k : TrunkId) : Beside s (idleComplete k u) := by
  unfold Machine.idleComplete
  split
  · split
    · split
      · exact h
      · exact h.runTrunk k _ _
    · exact h
  · exact h

theorem startLimitExpiry (h : Beside s u) (k : TrunkId) : Beside s (startLimitExpiry k u) := by
  unfold Machine.startLimitExpiry
  split
  · split
    · split
      · exact h
      · exact h.failStart k _
    · exact h.failStart k _
  · exact h

theorem lineTo (h : Beside s u) (k : TrunkId) (low now : Time) : Beside s (u.lineTo k low now) := by
  have expired : Beside s (u.expireBefore k low now) := by
    rcases u.expireBefore_cases k low now with e | e | e | e | ⟨w, -, -, ⟨due, e⟩ | e⟩ <;> rw [e]
    · exact h
    · exact h.echoDeadline k
    · exact h.replyTimeout k
    · exact h.gapExpiry k
    · exact h.runTrunk k w due
    · exact h.failStart k w
  exact expired.frame rfl rfl rfl rfl

theorem elapse (h : Beside s u) (dt : Nat) : Beside s (u.elapse dt) := h.frame rfl rfl rfl rfl

theorem character (h : Beside s u) (k : TrunkId) (dt : Nat) (b : Byte) (fe : Bool) :
    Beside s (u.character k dt b fe) := by
  have there := h.lineTo k (u.charStart k (later u.timeBase dt)) (later u.timeBase dt)
  unfold State.character characterTaken
  split
  · exact there.echoTaken k b fe
  · exact there.replyTaken k b fe
  all_goals exact there.strayTaken k b fe

theorem echoCharacter (h : Beside s u) (k : TrunkId) (dt : Nat) (b : Byte) (fe : Bool) :
    Beside s (echoCharacter k dt b fe u) := by
  unfold Machine.echoCharacter
  split
  · exact h.character k dt b fe
  · exact h.elapse dt

theorem replyStart (h : Beside s u) (k : TrunkId) (dt : Nat) : Beside s (replyStart k dt u) := by
  unfold Machine.replyStart
  split
  · exact (h.lineTo k _ _).replyStarted k
  · exact h.elapse dt

theorem replyCharacter (h : Beside s u) (k : TrunkId) (dt : Nat) (b : Byte) (fe : Bool) :
    Beside s (replyCharacter k dt b fe u) := by
  unfold Machine.replyCharacter
  split
  · exact h.character k dt b fe
  · exact h.elapse dt

theorem strayByte (h : Beside s u) (k : TrunkId) (dt : Nat) (b : Byte) (fe : Bool) :
    Beside s (strayByte k dt b fe u) := by
  unfold Machine.strayByte
  split
  · exact h.character k dt b fe
  · exact h.elapse dt

theorem lineLow (h : Beside s u) (k : TrunkId) (dt lowFor : Nat) : Beside s (lineLow k dt lowFor u) := by
  unfold Machine.lineLow
  split
  · exact (h.lineTo k _ _).lineWentLow k lowFor
  · exact h.elapse dt

/-! ### The host's pins and the SPI exchange -/

/-- The bytes known to be out of a message do not say which message it is. -/
theorem sent (h : Beside s u) {v : State} {f : Transmission → Transmission} (hf : ∀ m, (f m).what = m.what)
    (hc : v.channels = u.channels) (ha : v.active = u.active) (hl : v.link.tx = u.link.tx.map f)
    (ht : v.trunks = u.trunks) : Beside s v :=
  h.trans ⟨hc, ha, by rw [hl, Option.map_map]; congr 1; exact funext hf,
    fun k w hw => by rw [ht] at hw; exact hw⟩

theorem holdAssert (h : Beside s u) (begun : Nat) : Beside s (holdAssert begun u) := by
  unfold Machine.holdAssert
  split
  · exact h.sent (f := fun m => { m with sent := max m.sent (min begun m.wire.length) }) (fun _ => rfl) rfl rfl rfl rfl
  · exact h.frame rfl rfl rfl rfl

theorem exchange (h : Beside s u) (mark : Bool) : Beside s (u.exchange mark) := by
  unfold State.exchange
  split
  · exact h
  · split
    · rename_i m hm
      have htx : u.link.tx = some m := by
        unfold State.clocked at hm
        split at hm
        · cases hm
        · exact (Option.filter_eq_some_iff.1 hm).1
      exact h.sent (f := fun m => { m with sent := m.sent + 1 }) (fun _ => rfl) rfl rfl (by rw [htx]; rfl) rfl
    · exact h.frame rfl rfl rfl rfl

end Sys2Proof.Machine.Beside
end

section
/-! Every step keeps the channels sound and the delivery set of a waiting record free of repetitions. -/

namespace Sys2Proof.Machine

/-- The two invariants of the delivery together: the first is what the admission needs to keep the second. -/
def DeliversSoundly (s : State) : Prop := DeliverySound s ∧ ChannelsSound s

/-- What leaves the trunks keeps the delivery invariant (R12). -/
theorem DeliverySound.of_eq {s t : State} (h : DeliverySound s) (e : t.trunks = s.trunks) : DeliverySound t := by
  unfold DeliverySound at h ⊢; rw [e]; exact h

/-! ### The channel unit's requests -/

/-- A reply leaves the channels (R134). -/
theorem ChannelsSound.answer {s : State} (h : ChannelsSound s) (kind tag : Byte) (status : Status)
    (results : List Byte) : ChannelsSound (s.answer kind tag status results) := h.of_eq rfl

/-- A reply leaves the message in transmission (R134). -/
@[simp] theorem State.answer_tx (s : State) (kind tag : Byte) (status : Status) (results : List Byte) :
    (s.answer kind tag status results).link.tx = s.link.tx := rfl

/-- Settings that a CHANNEL_CONFIG may carry have a depth and a high mark of at least 1 (R46). -/
theorem decodeChannelConfig_some {body : List Byte} {x : ChannelConfig} (h : decodeChannelConfig body = some x) :
    1 ≤ x.depth ∧ 1 ≤ x.high := by
  unfold decodeChannelConfig at h
  split at h
  · split at h
    · cases h; simp only; omega
    · cases h
  · cases h

/-- CHANNEL_CONFIG that enables finds the queue empty: the channel is DISABLED, or its usage is 0 (R46). -/
theorem ChannelsSound.channelEnable {s : State} (h : ChannelsSound s) (tag : Byte) (body : List Byte) :
    ChannelsSound (channelEnable tag body s) := by
  unfold Machine.channelEnable
  split
  · rename_i c config _ hconfig
    have hx := (channelsSound_iff s).1 h c
    obtain ⟨depth, high⟩ := decodeChannelConfig_some hconfig
    dsimp only
    split
    · exact h.answer _ _ _ _
    · rename_i hb
      have hq : (s.channels[c]).queue = [] := by
        cases he : (s.channels[c]).enabled with
        | false => exact hx.disabled he
        | true =>
          have hu : (s.channels[c]).usage = 0 := not_not.1 fun hu => hb ⟨he, hu⟩
          exact List.length_eq_zero_iff.1 (by have := hx.usage; omega)
      split
      · exact h.of_eq (by simp)
      · refine ChannelsSound.answer (h.evalReady c ?_) _ _ _ _
        exact ⟨by simp only [hq, List.length_nil, Nat.zero_le], depth, high, hx.usage, fun _ => hq⟩
  · exact h.of_eq (by simp)

/-- CHANNEL_CONFIG that disables (R47). -/
theorem ChannelsSound.channelDisable {s : State} (h : ChannelsSound s) (tag : Byte) (body : List Byte) :
    ChannelsSound (channelDisable tag body s) := by
  unfold Machine.channelDisable
  split
  · exact ChannelsSound.answer (h.flushed _ 0 false) _ _ _ _
  · exact h.of_eq (by simp)

/-- CHANNEL_CREDIT (R51). -/
theorem ChannelsSound.channelCredit {s : State} (h : ChannelsSound s) (tag : Byte) (body : List Byte) :
    ChannelsSound (channelCredit tag body s) := by
  unfold Machine.channelCredit
  split
  · rename_i c _
    have hx := (channelsSound_iff s).1 h c
    dsimp only
    split
    · exact h.of_eq (by simp)
    · split
      · exact h.of_eq (by simp)
      · refine ChannelsSound.answer (h.evalReady c ?_) _ _ _ _
        exact ⟨hx.within, hx.depth, hx.high, hx.usage, hx.disabled⟩
  · exact h.of_eq (by simp)

/-- CHANNEL_FLUSH (R60). -/
theorem ChannelsSound.channelFlush {s : State} (h : ChannelsSound s) (tag : Byte) (body : List Byte) :
    ChannelsSound (channelFlush tag body s) := by
  unfold Machine.channelFlush
  split
  · rename_i c _
    refine ChannelsSound.answer (h.evalChannel (t := s.flushQueue c) c ?_ fun d e => ?_) _ _ _ _
    · rw [s.flushQueue_get, if_pos rfl]; exact ((channelsSound_iff s).1 h c).emptied
    · rw [s.flushQueue_get, if_neg e]
  · exact h.of_eq (by simp)

/-- The flush step of a close, channel by channel (R62). -/
theorem ChannelsSound.flushStep {s : State} (h : ChannelsSound s) : ChannelsSound s.flushStep := by
  unfold State.flushStep
  generalize List.finRange 8 = cs
  induction cs generalizing s with
  | nil => exact h
  | cons c cs ih => exact ih (h.flushed c 0 _)

/-- The directive, flush and notice steps of a close (R62). -/
theorem ChannelsSound.closeDirectiveStep {s : State} (h : ChannelsSound s) :
    ChannelsSound (closeDirectiveStep s) := by
  unfold Machine.closeDirectiveStep
  split
  · split
    · have flushed : ChannelsSound (s.setDirectives []).flushStep := ChannelsSound.flushStep (h.of_eq rfl)
      exact flushed.of_eq rfl
    · exact h
  · exact h

/-- The hold expiry (R52). -/
theorem ChannelsSound.holdExpiry {s : State} (h : ChannelsSound s) (c : ChannelId) :
    ChannelsSound (holdExpiry c s) := by
  have hx := (channelsSound_iff s).1 h c
  unfold Machine.holdExpiry
  split
  · refine ChannelsSound.evalReady (s := s.advanceTo _) (h.of_eq (by simp)) c ?_
    exact ⟨hx.within, hx.depth, hx.high, hx.usage, hx.disabled⟩
  · exact h

/-! ### What the channel unit leaves alone -/

/-- The work of the channel unit between `s` and `t` leaves the trunks, the active table and the message in
transmission. -/
structure ChannelWork (s t : State) : Prop where
  trunks : t.trunks = s.trunks
  active : t.active = s.active
  tx : t.link.tx = s.link.tx

theorem channelEnable_work (tag : Byte) (body : List Byte) (s : State) : ChannelWork s (channelEnable tag body s) := by
  unfold channelEnable
  split
  · dsimp only
    split
    · constructor <;> simp
    · split <;> constructor <;> simp
  · constructor <;> simp

theorem channelDisable_work (tag : Byte) (body : List Byte) (s : State) :
    ChannelWork s (channelDisable tag body s) := by
  unfold channelDisable
  split <;> constructor <;> simp

theorem channelCredit_work (tag : Byte) (body : List Byte) (s : State) : ChannelWork s (channelCredit tag body s) := by
  unfold channelCredit
  split
  · dsimp only
    split
    · constructor <;> simp
    · split <;> constructor <;> simp
  · constructor <;> simp

theorem channelFlush_work (tag : Byte) (body : List Byte) (s : State) : ChannelWork s (channelFlush tag body s) := by
  unfold channelFlush
  split <;> constructor <;> simp

theorem holdExpiry_work (c : ChannelId) (s : State) : ChannelWork s (holdExpiry c s) := by
  unfold holdExpiry
  split <;> constructor <;> simp

theorem closeDirectiveStep_work (s : State) : ChannelWork s (closeDirectiveStep s) := by
  have flushed : ∀ u : State, u.flushStep.trunks = u.trunks ∧ u.flushStep.active = u.active
      ∧ u.flushStep.link = u.link := fun u => by
    refine ⟨?_, ?_, ?_⟩ <;> exact foldl_keeps _ _ (fun s c => by simp [State.flushChannel]) _ u
  unfold closeDirectiveStep
  split
  · split
    · constructor <;> simp [flushed]
    · constructor <;> rfl
  · constructor <;> rfl

/-! ### The record's way to the channels -/

/-- The delivery set of a walk names no channel twice (R12). -/
theorem Walk.deliverySet_nodup (w : Walk) : w.deliverySet.Nodup := by
  unfold Walk.deliverySet
  split
  · split
    · simp
    · rename_i h; simpa using h
  all_goals simp

/-- A trunk replaced by one whose waiting record, if any, names no channel twice. -/
theorem DeliverySound.setTrunk {s : State} (h : DeliverySound s) (k : TrunkId) {x : Trunk}
    (hx : ∀ w, x.awaiting = some w → w.channels.Nodup) : DeliverySound (s.setTrunk k x) := by
  rw [deliverySound_iff] at h ⊢
  intro j w hw
  rw [State.setTrunk_trunks, get_setAt] at hw
  split at hw
  · exact hx w hw
  · exact h j w hw

/-- A turn moved to a walk of a REPLY whose waiting record, if any, names no channel twice. -/
theorem DeliverySound.setStage {s : State} (h : DeliverySound s) (k : TrunkId) (turn : Turn) (stamp : Time)
    (todo : List ReplyRecord) {screened : Option Screened} (hx : ∀ w, screened = some w → w.channels.Nodup) :
    DeliverySound (s.setStage k turn (.replied stamp todo screened)) :=
  h.setTrunk k hx

section Trunks
variable {s : State} (h : DeliverySound s)
include h

theorem DeliverySound.countStation (i : StationId) (f : StationCounters → StationCounters) :
    DeliverySound (s.countStation i f) := h.of_eq (by simp)

theorem DeliverySound.countLink (f : LinkCounters → LinkCounters) : DeliverySound (s.countLink f) :=
  h.of_eq (by simp)

theorem DeliverySound.outcome (b : Bool) (g : Nat) (is : List RuleId) : DeliverySound (s.outcome b g is) :=
  h.of_eq (by simp)

theorem DeliverySound.acceptRecord (i : StationId) (seq : Byte) (gap : Nat) :
    DeliverySound (s.acceptRecord i seq gap) := h.of_eq (by simp)

end Trunks

/-- The sequence check: the record that may then wait has been screened (R12, R79). -/
theorem DeliverySound.sequenceCheck {s : State} (h : DeliverySound s) (k : TrunkId) :
    DeliverySound (sequenceCheck k s) := by
  unfold Machine.sequenceCheck
  split
  · split
    · split
      · exact (h.setStage k _ _ _ (by simp)).countStation _ _
      · unfold State.screen
        dsimp only
        split
        · exact (((h.setStage k _ _ _ (by simp)).countLink _).outcome _ _ _).acceptRecord _ _ _
        · refine (h.setStage k _ _ _ fun w hw => ?_).countLink _
          cases hw
          exact Walk.deliverySet_nodup _
    · exact h
  · exact h

/-- The sequence check leaves the channels. -/
theorem sequenceCheck_channels (k : TrunkId) (s : State) : (sequenceCheck k s).channels = s.channels := by
  unfold sequenceCheck
  split
  · split
    · split
      · simp
      · unfold State.screen; dsimp only; split <;> simp
    · rfl
  · rfl

/-- The outcome of an admission leaves the channels that the admission left (R81, R82). -/
theorem State.afterAdmission_channels (s : State) (k : TrunkId) (turn : Turn) (stamp : Time)
    (todo : List ReplyRecord) (x : Screened) (ending : AdmissionEnd) :
    (s.afterAdmission k turn stamp todo x ending).channels = s.channels := by
  unfold State.afterAdmission; split <;> simp

/-- After an admission no record waits on the trunk (R81, R82). -/
theorem DeliverySound.afterAdmission {s : State} (h : DeliverySound s) (k : TrunkId) (turn : Turn) (stamp : Time)
    (todo : List ReplyRecord) (x : Screened) (ending : AdmissionEnd) :
    DeliverySound (s.afterAdmission k turn stamp todo x ending) := by
  unfold State.afterAdmission
  split
  · exact ((h.setStage k turn stamp [] (by simp)).outcome _ _ _).countStation _ _
  all_goals exact ((h.setStage k turn stamp todo (by simp)).outcome _ _ _).acceptRecord _ _ _

/-- The admission of the waiting record (R34). -/
theorem DeliversSoundly.admissionStep {s : State} (h : DeliversSoundly s) (k : TrunkId) :
    DeliversSoundly (admissionStep k s) := by
  unfold Machine.admissionStep
  split
  · rename_i turn hturn
    split
    · rename_i stamp todo x hstage
      have hn : x.channels.Nodup := h.1 k turn stamp todo x hturn hstage
      have taken : DeliverySound (s.takeAdmission x.record x.channels).2 := h.1.of_eq (by simp)
      exact ⟨taken.afterAdmission k turn stamp todo x _,
        (h.2.takeAdmission x.record hn).of_eq (State.afterAdmission_channels ..)⟩
    · exact h
  · exact h

/-! ### Counters, resets and completions -/

/-- A channel after reset is sound (R45). -/
theorem Channel.reset_sound : Channel.reset.Sound :=
  ⟨⟨by decide, by decide, by decide, rfl, fun _ => rfl⟩, rfl⟩

/-- The reset values are sound, whatever the pins and the waiting commands (R45, R144). -/
theorem State.cleared_sound (s : State) : DeliversSoundly s.cleared := by
  refine ⟨(deliverySound_iff _).2 fun k w hw => ?_, (channelsSound_iff _).2 fun c => ?_⟩
  · have : s.cleared.trunks[k] = Trunk.reset := by simp [State.cleared, State.reset]
    rw [this] at hw; cases hw
  · have : s.cleared.channels[c] = Channel.reset := by simp [State.cleared, State.reset]
    rw [this]; exact Channel.reset_sound

/-- What writes neither the trunks nor the channels keeps both invariants. -/
theorem DeliversSoundly.of_eq {s t : State} (h : DeliversSoundly s) (ht : t.trunks = s.trunks)
    (hc : t.channels = s.channels) : DeliversSoundly t := ⟨h.1.of_eq ht, h.2.of_eq hc⟩

/-- COUNTERS_READ, which may clear the counters of a trunk or of a channel (R159). -/
theorem DeliversSoundly.countersRead {s : State} (h : DeliversSoundly s) (tag : Byte) (body : List Byte) :
    DeliversSoundly (countersRead tag body s) := by
  have clear : ∀ m, DeliversSoundly (s.clearCounters m) := fun m => by
    cases m with
    | channel c => exact ⟨h.1.of_eq rfl, h.2.setChannel c (((channelsSound_iff s).1 h.2 c).counters _)⟩
    | trunk t => exact ((Beside.refl s).countTrunk t _).sound h
    | station i st => exact ((Beside.refl s).countStation i _).sound h
    | link => exact ((Beside.refl s).countLink _).sound h
  unfold Machine.countersRead
  split
  · exact h.of_eq rfl rfl
  · refine DeliversSoundly.of_eq ?_ rfl rfl
    split
    · exact clear _
    · exact h

/-- A request that takes its slot of the table (R134). -/
theorem DeliversSoundly.entered {s : State} (h : DeliversSoundly s) (kind tag : Byte) :
    DeliversSoundly (s.enter kind tag) := h.of_eq rfl rfl

/-- The completion of a message (R57, R139, R143). -/
theorem DeliversSoundly.messageSent {s : State} (h : DeliversSoundly s) (m : Transmission) :
    DeliversSoundly (s.messageSent m) := by
  unfold State.messageSent State.completed
  split
  · split
    · exact State.cleared_sound _
    · exact h.of_eq rfl rfl
  · exact h.of_eq rfl rfl
  · have free : ChannelsSound (s.setLink { s.link with tx := none }) := h.2.of_eq rfl
    exact ⟨h.1.of_eq (by simp), free.completeBatch _⟩

/-! ### Every step -/

/-- Every part of a step keeps both invariants. -/
theorem deliversSoundly_effects : Effects fun s t => DeliversSoundly s → DeliversSoundly t where
  refl _ h := h
  trans _ _ _ h g hs := g (h hs)
  elapse _ _ _ h := h.of_eq rfl rfl
  comeTo _ _ _ h := h.of_eq rfl rfl
  finish s chained h := ⟨h.1.of_eq (by simp), h.2.finish chained⟩
  drivePins _ h := h.of_eq rfl rfl
  resetAssert s _ := (State.cleared_sound s).of_eq rfl rfl
  resetRelease s a b h := by
    unfold resetRelease
    split
    · exact (State.cleared_sound s).of_eq rfl rfl
    · exact h
  holdAssert s _ := ((Beside.refl s).holdAssert _).sound
  holdRelease _ h := h.of_eq rfl rfl
  hcsHigh _ h := h.of_eq rfl rfl
  exchange s _ _ := ((Beside.refl s).exchange _).sound
  receive _ _ _ h := h.of_eq rfl rfl
  countLink s _ _ := ((Beside.refl s).countLink _).sound
  refuse s _ _ _ _ := ((Beside.refl s).refuse _ _ _).sound
  linkOpen s _ _ _ _ _ := (((Beside.refl s).enter _ _).linkOpen _ _).sound
  partReset s _ _ _ := (((Beside.refl s).enter _ _).partReset _).sound
  noticeMask s _ _ _ _ _ := (((Beside.refl s).enter _ _).noticeMask _ _).sound
  countersRead s tag body _ _ _ h := (h.entered 0x05#8 tag).countersRead tag body
  ruleWrite s _ _ _ _ _ := (((Beside.refl s).enter _ _).ruleWrite _ _).sound
  ruleErase s _ _ _ _ _ := (((Beside.refl s).enter _ _).ruleErase _ _).sound
  setWrite s _ _ _ _ _ := (((Beside.refl s).enter _ _).setWrite _ _).sound
  defaultWrite s _ _ _ _ _ := (((Beside.refl s).enter _ _).defaultWrite _ _).sound
  stageLoad s _ _ _ _ := (((Beside.refl s).enter _ _).stageLoad _).sound
  ruleCommit s _ _ _ _ _ h := by
    unfold ruleCommit
    split <;> exact h.of_eq rfl rfl
  ruleRead s _ _ _ _ _ := (((Beside.refl s).enter _ _).ruleRead _ _).sound
  channelConfigEnable s tag body _ _ _ h :=
    have g := h.entered 0x18#8 tag
    ⟨g.1.of_eq (channelEnable_work tag body _).trunks, g.2.channelEnable tag body⟩
  channelConfigDisable s tag body _ _ _ h :=
    have g := h.entered 0x18#8 tag
    ⟨g.1.of_eq (channelDisable_work tag body _).trunks, g.2.channelDisable tag body⟩
  channelCredit s tag body _ _ _ h :=
    have g := h.entered 0x19#8 tag
    ⟨g.1.of_eq (channelCredit_work tag body _).trunks, g.2.channelCredit tag body⟩
  channelFlush s tag body _ _ _ h :=
    have g := h.entered 0x1A#8 tag
    ⟨g.1.of_eq (channelFlush_work tag body _).trunks, g.2.channelFlush tag body⟩
  channelQuery s _ _ _ _ _ := (((Beside.refl s).enter _ _).channelQuery _ _).sound
  stationAdd s _ _ _ _ _ := (((Beside.refl s).enter _ _).stationAdd _ _).sound
  stationSet s _ _ _ _ _ := (((Beside.refl s).enter _ _).stationSet _ _).sound
  stationQuery s _ _ _ _ _ := (((Beside.refl s).enter _ _).stationQuery _ _).sound
  stationList s _ _ _ _ := (((Beside.refl s).enter _ _).stationList _).sound
  stationSuspend s _ _ _ _ _ := (((Beside.refl s).enter _ _).stationSuspend _ _).sound
  stationResume s _ _ _ _ _ := (((Beside.refl s).enter _ _).stationResume _ _).sound
  stationRemove s _ _ _ _ _ := (((Beside.refl s).enter _ _).stationRemove _ _).sound
  trunkConfig s _ _ _ _ _ := (((Beside.refl s).enter _ _).trunkConfig _ _).sound
  trunkStart s _ _ _ _ _ := (((Beside.refl s).enter _ _).trunkStart _ _).sound
  trunkStop s _ _ _ _ _ := (((Beside.refl s).enter _ _).trunkStop _ _).sound
  trunkQuery s _ _ _ _ _ := (((Beside.refl s).enter _ _).trunkQuery _ _).sound
  directiveSubmit s _ _ _ _ _ := (((Beside.refl s).enter _ _).directiveSubmit _ _).sound
  directiveCancel s _ _ _ _ _ := (((Beside.refl s).enter _ _).directiveCancel _ _).sound
  directiveQuery s _ _ _ _ _ := (((Beside.refl s).enter _ _).directiveQuery _ _).sound
  linkClose s _ _ _ _ := (((Beside.refl s).enter _ _).linkClose _).sound
  closeEnd s _ := (Beside.refl s).closeEnd.sound
  closeStopStep s _ := (Beside.refl s).closeStopStep.sound
  closeDirectiveStep s _ h := ⟨h.1.of_eq (closeDirectiveStep_work s).trunks, h.2.closeDirectiveStep⟩
  runTrunk s k w due _ _ _ := ((Beside.refl s).runTrunk k w due).sound
  failStart s k w _ _ _ := ((Beside.refl s).failStart k w).sound
  lineWentLow s k n _ := ((Beside.refl s).lineWentLow k n).sound
  roundStart s k _ := ((Beside.refl s).roundStart k).sound
  turnBegin s k _ := ((Beside.refl s).turnBegin k).sound
  echoTaken s k b fe _ := ((Beside.refl s).echoTaken k b fe).sound
  echoDeadline s k _ := ((Beside.refl s).echoDeadline k).sound
  replyStarted s k _ := ((Beside.refl s).replyStarted k).sound
  replyTimeout s k _ := ((Beside.refl s).replyTimeout k).sound
  replyTaken s k b fe _ := ((Beside.refl s).replyTaken k b fe).sound
  gapExpiry s k _ := ((Beside.refl s).gapExpiry k).sound
  strayTaken s k b fe _ := ((Beside.refl s).strayTaken k b fe).sound
  settleEnd s k _ := ((Beside.refl s).settleEnd k).sound
  sequenceCheck s k _ h := ⟨h.1.sequenceCheck k, h.2.of_eq (sequenceCheck_channels k s)⟩
  admissionStep _ k _ h := h.admissionStep k
  turnClose s k _ := ((Beside.refl s).turnClose k).sound
  holdExpiry s c _ h := ⟨h.1.of_eq (holdExpiry_work c s).trunks, h.2.holdExpiry c⟩
  clockedOut s _ h := by
    unfold State.clockedOut
    split
    · exact h
    · exact h.of_eq rfl rfl
  messageSent _ m _ h := h.messageSent m

/-- Settles O55: the invariant holds across the effects of every command, those of the channel unit one by one. -/
theorem stepKeepsChannelsSound : Obligations.StepKeepsChannelsSound := by
  unfold Obligations.StepKeepsChannelsSound
  intro s t hd hc hstep
  exact deliversSoundly_effects.step (fun _ _ h => h.of_eq rfl rfl) hstep ⟨hd, hc⟩

end Sys2Proof.Machine
end

section
/-! Which events change the active table (R18, R24, R143). -/

namespace Sys2Proof.Machine

/-! ### Keeping the active table -/

/-- The active table and its generation are as they were; the hit counts may have risen. -/
structure SameTable (s t : State) : Prop where
  table : t.active.table = s.active.table
  generation : t.active.generation = s.active.generation

theorem SameTable.of_eq {s t : State} (h : t.active = s.active) : SameTable s t := ⟨by rw [h], by rw [h]⟩

theorem SameTable.trans {s t u : State} (h : SameTable s t) (g : SameTable t u) : SameTable s u :=
  ⟨g.table.trans h.table, g.generation.trans h.generation⟩

/-- So is the message in transmission, which the requests of a step leave to the end of it. -/
structure KeepsTable (s t : State) : Prop extends SameTable s t where
  sending : t.link.tx.map Transmission.what = s.link.tx.map Transmission.what

theorem KeepsTable.trans {s t u : State} (h : KeepsTable s t) (g : KeepsTable t u) : KeepsTable s u :=
  ⟨h.toSameTable.trans g.toSameTable, g.sending.trans h.sending⟩

theorem Beside.keepsTable {s t : State} (h : Beside s t) : KeepsTable s t := ⟨.of_eq h.active, h.sending⟩

theorem ChannelWork.keepsTable {s t : State} (h : ChannelWork s t) : KeepsTable s t := ⟨.of_eq h.active, by rw [h.tx]⟩

/-! ### Requests -/

/-- COUNTERS_READ (R159). -/
theorem countersRead_keepsTable (tag : Byte) (body : List Byte) (s : State) :
    KeepsTable s (countersRead tag body s) := by
  have clear : ∀ m, KeepsTable s (s.clearCounters m) := fun m => by
    cases m with
    | channel c => exact ⟨.of_eq rfl, rfl⟩
    | trunk t => exact ((Beside.refl s).countTrunk t fun _ => .zero).keepsTable
    | station i st => exact ((Beside.refl s).countStation i fun _ => .zero).keepsTable
    | link => exact ((Beside.refl s).countLink fun _ => .zero).keepsTable
  unfold countersRead
  split
  · exact ((Beside.refl s).answer _ _ _ _).keepsTable
  · refine KeepsTable.trans ?_ ((Beside.refl _).answer _ _ _ _).keepsTable
    split
    · exact clear _
    · exact (Beside.refl s).keepsTable

/-- A frame at acceptance keeps the table when its owner does (R136). -/
theorem takeFrame_keepsTable {owner : State → State} (ho : ∀ u, KeepsTable u (owner u)) (kind tag : Byte)
    (body : List Byte) (s : State) : KeepsTable s (takeFrame kind tag body owner s) := by
  unfold takeFrame
  split
  · exact (Beside.refl s).keepsTable
  · split
    · exact ((Beside.refl s).refuse _ _ _).keepsTable
    · exact ((Beside.refl s).enter _ _).keepsTable.trans (ho _)

/-- A frame of no request kind has no owner (R136). -/
theorem takeUnknownKind_keepsTable (kind tag : Byte) (body : List Byte) (s : State) :
    KeepsTable s (takeUnknownKind kind tag body s) := by
  unfold takeUnknownKind
  split
  · exact takeFrame_keepsTable (fun u => (Beside.refl u).keepsTable) kind tag body s
  · exact (Beside.refl s).keepsTable

/-- Of the host frames only RULE_COMMIT changes the active table (R24). -/
theorem deliver_keepsTable {kind : Byte} (hk : kind ≠ 0x15#8) (tag : Byte) (body : List Byte) (s : State) :
    KeepsTable s (deliver kind tag body s) := by
  have owner : ∀ {owner : State → State} {kind tag : Byte} {body : List Byte}, (∀ u, Beside u (owner u)) →
      KeepsTable s (takeFrame kind tag body owner s) := fun h => takeFrame_keepsTable (fun u => (h u).keepsTable) _ _ _ s
  generalize hf : deliver kind tag body = f
  unfold deliver at hf
  split at hf
  · subst hf; exact owner fun u => (Beside.refl u).linkOpen tag body
  · subst hf; exact owner fun u => (Beside.refl u).linkClose tag
  · subst hf; exact owner fun u => (Beside.refl u).partReset tag
  · subst hf; exact owner fun u => (Beside.refl u).noticeMask tag body
  · subst hf; exact takeFrame_keepsTable (countersRead_keepsTable tag body) _ _ _ s
  · subst hf; exact owner fun u => (Beside.refl u).ruleWrite tag body
  · subst hf; exact owner fun u => (Beside.refl u).ruleErase tag body
  · subst hf; exact owner fun u => (Beside.refl u).setWrite tag body
  · subst hf; exact owner fun u => (Beside.refl u).defaultWrite tag body
  · subst hf; exact owner fun u => (Beside.refl u).stageLoad tag
  · rename_i h15; exact absurd (BitVec.eq_of_toNat_eq h15) hk
  · subst hf; exact owner fun u => (Beside.refl u).ruleRead tag body
  · split at hf <;> subst hf
    · exact takeFrame_keepsTable (fun u => (channelDisable_work tag body u).keepsTable) _ _ _ s
    · exact takeFrame_keepsTable (fun u => (channelEnable_work tag body u).keepsTable) _ _ _ s
  · subst hf; exact takeFrame_keepsTable (fun u => (channelCredit_work tag body u).keepsTable) _ _ _ s
  · subst hf; exact takeFrame_keepsTable (fun u => (channelFlush_work tag body u).keepsTable) _ _ _ s
  · subst hf; exact owner fun u => (Beside.refl u).channelQuery tag body
  · subst hf; exact owner fun u => (Beside.refl u).stationAdd tag body
  · subst hf; exact owner fun u => (Beside.refl u).stationSet tag body
  · subst hf; exact owner fun u => (Beside.refl u).stationQuery tag body
  · subst hf; exact owner fun u => (Beside.refl u).stationList tag
  · subst hf; exact owner fun u => (Beside.refl u).stationSuspend tag body
  · subst hf; exact owner fun u => (Beside.refl u).stationResume tag body
  · subst hf; exact owner fun u => (Beside.refl u).stationRemove tag body
  · subst hf; exact owner fun u => (Beside.refl u).trunkConfig tag body
  · subst hf; exact owner fun u => (Beside.refl u).trunkStart tag body
  · subst hf; exact owner fun u => (Beside.refl u).trunkStop tag body
  · subst hf; exact owner fun u => (Beside.refl u).trunkQuery tag body
  · subst hf; exact owner fun u => (Beside.refl u).directiveSubmit tag body
  · subst hf; exact owner fun u => (Beside.refl u).directiveCancel tag body
  · subst hf; exact owner fun u => (Beside.refl u).directiveQuery tag body
  · subst hf; exact takeUnknownKind_keepsTable kind tag body s

/-! ### The frame that a delimiter ends -/

/-- Two bytes read as a number are its two bytes again (chapter 10). -/
theorem le16_bytes (low high : Byte) : le16 (low.toNat + 256 * high.toNat) = [low, high] := by
  have := low.isLt
  have := high.isLt
  unfold le16 byteOf
  congr 1
  · apply BitVec.eq_of_toNat_eq; rw [BitVec.toNat_ofNat]; omega
  · congr 1; apply BitVec.eq_of_toNat_eq; rw [BitVec.toNat_ofNat]; omega

/-- A content that is judged good is the content of the frame it is judged to be (R131, R133). -/
theorem judgeContent_good {content : List Byte} {kind tag : Byte} {body : List Byte}
    (h : judgeContent content = .good kind tag body) : content = frameContent kind tag body := by
  unfold judgeContent at h
  split at h
  · cases h
  · cases h
  · rename_i k t rest
    split at h
    · cases h
    · rename_i hcrc
      split at h
      · cases h
      · rename_i hlen
        split at h
        · cases h
        · rename_i hbody
          obtain ⟨low, high, rest, rfl⟩ : ∃ low high rest', rest = low :: high :: rest' := by
            match rest, hlen with
            | low :: high :: rest', _ => exact ⟨low, high, rest', rfl⟩
            | [], hlen => simp at hlen
            | [_], hlen => simp at hlen
          cases h
          have crc : crcBytes (crc16 ((kind :: tag :: low :: high :: rest).take (rest.length + 2)))
              = (kind :: tag :: low :: high :: rest).drop (rest.length + 2) := by
            simpa [contentCrcGood] using hcrc
          have hn : low.toNat + 256 * high.toNat = rest.length - 2 := by
            simpa [u16At, natAt, byteAt] using hbody
          have h6 : 2 ≤ rest.length := by simpa using hlen
          have head : frameHead kind tag (rest.take (rest.length - 2)) =
              (kind :: tag :: low :: high :: rest).take (rest.length + 2) := by
            unfold frameHead
            rw [List.length_take, min_eq_left (by omega), ← hn, le16_bytes, hn]
            obtain ⟨m, hm⟩ : ∃ m, rest.length = m + 2 := ⟨rest.length - 2, by omega⟩
            simp [hm]
          show _ = frameContent kind tag (rest.take _)
          have e : (kind :: tag :: low :: high :: rest).length - 6 = rest.length - 2 := by simp
          rw [e]
          unfold frameContent
          rw [head, crc, List.take_append_drop]

/-- The receiver ends a frame at a delimiter, with the content it has collected (R133). -/
theorem Receiver.take_frameEnd {r : Receiver} {b : Byte} {fe : Bool} {content : List Byte}
    (h : (r.take b fe).2 = .frameEnd content) : fe = false ∧ b = Config.delimiter ∧ r = .collecting content := by
  have append : ∀ c d, (appendContent c d).2 ≠ .frameEnd content := fun c d => by
    unfold appendContent; split <;> simp
  unfold Receiver.take at h
  split at h
  · split at h <;> cases h
  · split at h <;> cases h
  · split at h
    · cases h
    · split at h
      · cases h; exact ⟨by simpa using ‹¬fe = true›, ‹_›, rfl⟩
      · split at h
        · cases h
        · exact absurd h (append _ _)
  · split at h
    · cases h
    · split at h
      · cases h
      · split at h
        · exact absurd h (append _ _)
        · split at h
          · exact absurd h (append _ _)
          · cases h

/-- What the receiver brings about keeps the table, unless it is the end of a RULE_COMMIT frame (R24, R133). -/
theorem receiverEvent_keepsTable {e : ReceiverEvent}
    (he : ∀ tag body, e ≠ .frameEnd (frameContent 0x15#8 tag body)) (s : State) :
    KeepsTable s (s.receiverEvent e) := by
  unfold State.receiverEvent
  split
  · exact (Beside.refl s).keepsTable
  · exact ((Beside.refl s).countLink _).keepsTable
  · exact ((Beside.refl s).countLink _).keepsTable
  · unfold State.frameEnded
    split
    · exact (Beside.refl s).keepsTable
    · exact ((Beside.refl s).countLink _).keepsTable
    · exact ((Beside.refl s).countLink _).keepsTable
    · rename_i kind tag body hj
      refine deliver_keepsTable (fun hk => he tag body ?_) tag body s
      rw [judgeContent_good hj, hk]

/-! ### Completions and the inbound byte -/

/-- The reply to an accepted PART_RESET, whose completion resets the part (R143). -/
def Outgoing.IsResetReply (what : Outgoing) : Prop := ∃ r, what = .reply r ∧ r.kind = 0x03#8 ∧ r.refusal = false

/-- Every other completion keeps the table (R139, R143). -/
theorem messageSent_sameTable {m : Transmission} (hm : ¬ m.what.IsResetReply) (s : State) :
    SameTable s (s.messageSent m) := by
  unfold State.messageSent State.completed
  split
  · rename_i r hr
    rw [if_neg fun h => hm ⟨r, hr, h⟩]
    exact .of_eq rfl
  · exact .of_eq rfl
  · exact .of_eq (by simp)

/-- An SPI exchange that closes a message clocks out its closing delimiter (R129). -/
theorem State.closesMessage_spec {s : State} {mark : Bool} (h : s.closesMessage mark = true) :
    s.mode = .spi ∧ ∃ m, s.ClocksOut mark m := by
  unfold State.closesMessage at h
  split at h
  · rename_i m hm
    unfold State.clocked at hm
    split at hm
    · cases hm
    · rename_i hu
      obtain ⟨htx, hf⟩ := Option.filter_eq_some_iff.1 hm
      exact ⟨by simpa [LinkMode.isUart] using hu, m, htx, by simpa [imp_iff_not_or] using hf, by simpa using h⟩
  · cases h

/-- One inbound byte keeps the table, unless it ends a RULE_COMMIT frame or clocks out the last byte of a PART_RESET
reply (R24, R129, R133, R143). -/
theorem inboundByte_sameTable {s : State} {value : Byte} {mark : Bool}
    (hframe : value = 0xA5#8 → (mark = false ∨ s.mode = .spi) →
      ∀ tag body, s.link.receiver ≠ .collecting (frameContent 0x15#8 tag body))
    (hreset : ∀ m, s.mode = .spi → s.ClocksOut mark m → ¬ m.what.IsResetReply) :
    SameTable s (inboundByte value mark s) := by
  have received := ((Beside.refl s).exchange mark).keepsTable.trans
    ((((Beside.refl (s.exchange mark)).setLink
      (l := { (s.exchange mark).link with receiver := (s.link.receiver.take value (mark && s.mode.isUart)).1 })
        rfl).keepsTable).trans
      (receiverEvent_keepsTable (e := (s.link.receiver.take value (mark && s.mode.isUart)).2) (fun tag body he => by
        obtain ⟨hfe, hv, hr⟩ := Receiver.take_frameEnd he
        refine hframe hv ?_ tag body hr
        cases mark with
        | false => exact .inl rfl
        | true => exact .inr (by simpa [LinkMode.isUart] using hfe)) _))
  unfold inboundByte
  dsimp only
  split
  · rename_i hcloses
    obtain ⟨hmode, m, hm⟩ := State.closesMessage_spec hcloses
    refine received.toSameTable.trans ?_
    unfold State.txSent
    split
    · rename_i n hn
      refine messageSent_sameTable ?_ _
      have := received.sending
      rw [hn, hm.1] at this
      rw [Option.some.inj this]
      exact hreset m hmode hm
    · exact .of_eq rfl
  · exact received.toSameTable

/-- A completion keeps the table when the message cannot complete yet, or is no PART_RESET reply (R139, R143). -/
theorem messageCompletion_sameTable {s : State}
    (h : ∀ m, s.link.tx = some m → s.unfinished m = false → ¬ m.what.IsResetReply) :
    SameTable s (messageCompletion s) := by
  unfold messageCompletion
  split
  · exact .of_eq rfl
  · rename_i m hm
    split
    · exact .of_eq rfl
    · rename_i hu
      refine SameTable.trans (.of_eq ?_) (messageSent_sameTable (h m hm (by simpa using hu)) _)
      unfold State.clockedOut; split <;> rfl

end Sys2Proof.Machine
end

section
/-! Only RULE_COMMIT, the completion of a PART_RESET reply and RESET# change the active table. -/

namespace Sys2Proof.Machine

/-- The hit counts that an outcome raises are no part of the table (R14, R16). -/
theorem SameTable.outcome {s u : State} (h : SameTable s u) (b : Bool) (g : Nat) (is : List RuleId) :
    SameTable s (u.outcome b g is) := by
  refine h.trans ?_
  have same : (u.active.outcome b g is).table = u.active.table
      ∧ (u.active.outcome b g is).generation = u.active.generation := by
    unfold ActiveTable.outcome; split <;> exact ⟨rfl, rfl⟩
  exact ⟨same.1, same.2⟩

theorem SameTable.acceptRecord {s u : State} (h : SameTable s u) (i : StationId) (seq : Byte) (gap : Nat) :
    SameTable s (u.acceptRecord i seq gap) := h.trans (.of_eq (by simp))

theorem SameTable.countStation {s u : State} (h : SameTable s u) (i : StationId)
    (f : StationCounters → StationCounters) : SameTable s (u.countStation i f) := h.trans (.of_eq (by simp))

/-- The sequence check changes hit counts at most (R16). -/
theorem sequenceCheck_sameTable (k : TrunkId) (s : State) : SameTable s (sequenceCheck k s) := by
  unfold sequenceCheck
  split
  · split
    · split
      · exact .of_eq (by simp)
      · unfold State.screen
        dsimp only
        split
        · exact SameTable.acceptRecord (SameTable.outcome (.of_eq (by simp)) _ _ _) _ _ _
        · exact .of_eq (by simp)
    · exact .of_eq rfl
  · exact .of_eq rfl

/-- An admission changes hit counts at most (R16). -/
theorem admissionStep_sameTable (k : TrunkId) (s : State) : SameTable s (admissionStep k s) := by
  have taken : ∀ (r : Record) (cs : List ChannelId) (turn : Turn) (stage : TurnStage),
      SameTable s ((s.takeAdmission r cs).2.setStage k turn stage) := fun _ _ _ _ => .of_eq (by simp)
  unfold admissionStep
  split
  · split
    · unfold State.afterAdmission
      split
      · exact ((taken _ _ _ _).outcome _ _ _).countStation _ _
      all_goals exact ((taken _ _ _ _).outcome _ _ _).acceptRecord _ _ _
    · exact .of_eq rfl
  · exact .of_eq rfl

/-- A command out of reset keeps the table when its effect does. -/
theorem perform_sameTable {f : State → State} {s t : State} (hf : SameTable s (f s)) (h : perform f s = .next t) :
    SameTable s t := by
  unfold perform at h
  cases h
  split
  · exact .of_eq rfl
  · exact hf.trans (.of_eq (by simp))

/-- A change of a pin from outside keeps the table when its effect does. -/
theorem performPin_sameTable {f : State → State} {s t : State} (hf : SameTable s (f s))
    (h : performPin f s = .next t) : SameTable s t := by
  unfold performPin at h
  cases h
  split
  · exact hf.trans (.of_eq rfl)
  · exact hf.trans (.of_eq (by simp))

/-- The commands that change the active table, or may by what comes with them: RULE_COMMIT and RESET#, an inbound byte,
the completion of a message. -/
def Instr.MayChangeTable : Instr → Prop
  | .ruleCommit _ _ | .resetAssert | .resetRelease _ _ | .inboundByte _ _ _ | .messageCompletion _ => True
  | _ => False

/-- Every other command keeps the active table. -/
theorem exec_sameTable {i : Instr} {s t : State} (hi : ¬ Instr.MayChangeTable i) (h : exec i s = .next t) :
    SameTable s t := by
  have event : ∀ {f : State → State}, Beside s (f s) → perform f s = .next t → SameTable s t :=
    fun hf => perform_sameTable hf.keepsTable.toSameTable
  have channel : ∀ {f : State → State}, ChannelWork s (f s) → perform f s = .next t → SameTable s t :=
    fun hf => perform_sameTable hf.keepsTable.toSameTable
  have frame : ∀ (kind tag : Byte) (body : List Byte), kind ≠ 0x15#8 →
      perform (deliver kind tag body) s = .next t → SameTable s t :=
    fun _ tag body hk => perform_sameTable (deliver_keepsTable hk tag body s).toSameTable
  have self := Beside.refl s
  cases i with
  | ruleCommit | resetAssert | resetRelease | inboundByte | messageCompletion => exact absurd trivial hi
  | holdRelease => exact performPin_sameTable (.of_eq rfl) h
  | hcsHigh => exact performPin_sameTable (.of_eq rfl) h
  | holdAssert n => exact performPin_sameTable (self.holdAssert n).keepsTable.toSameTable h
  | unknownKindFrame kind tag body =>
    exact perform_sameTable (takeUnknownKind_keepsTable kind tag body s).toSameTable h
  | linkOpen tag body => exact frame 0x01#8 tag body (by decide) h
  | linkClose tag body => exact frame 0x02#8 tag body (by decide) h
  | partReset tag body => exact frame 0x03#8 tag body (by decide) h
  | noticeMask tag body => exact frame 0x04#8 tag body (by decide) h
  | countersRead tag body => exact frame 0x05#8 tag body (by decide) h
  | ruleWrite tag body => exact frame 0x10#8 tag body (by decide) h
  | ruleErase tag body => exact frame 0x11#8 tag body (by decide) h
  | setWrite tag body => exact frame 0x12#8 tag body (by decide) h
  | defaultWrite tag body => exact frame 0x13#8 tag body (by decide) h
  | stageLoad tag body => exact frame 0x14#8 tag body (by decide) h
  | ruleRead tag body => exact frame 0x16#8 tag body (by decide) h
  | channelConfigEnable tag body =>
    exact perform_sameTable (takeFrame_keepsTable (fun u => (channelEnable_work tag body u).keepsTable) _ _ _ s).toSameTable h
  | channelConfigDisable tag body =>
    exact perform_sameTable (takeFrame_keepsTable (fun u => (channelDisable_work tag body u).keepsTable) _ _ _ s).toSameTable h
  | channelCredit tag body => exact frame 0x19#8 tag body (by decide) h
  | channelFlush tag body => exact frame 0x1A#8 tag body (by decide) h
  | channelQuery tag body => exact frame 0x1B#8 tag body (by decide) h
  | stationAdd tag body => exact frame 0x20#8 tag body (by decide) h
  | stationSet tag body => exact frame 0x21#8 tag body (by decide) h
  | stationQuery tag body => exact frame 0x22#8 tag body (by decide) h
  | stationList tag body => exact frame 0x23#8 tag body (by decide) h
  | stationSuspend tag body => exact frame 0x24#8 tag body (by decide) h
  | stationResume tag body => exact frame 0x25#8 tag body (by decide) h
  | stationRemove tag body => exact frame 0x26#8 tag body (by decide) h
  | trunkConfig tag body => exact frame 0x28#8 tag body (by decide) h
  | trunkStart tag body => exact frame 0x29#8 tag body (by decide) h
  | trunkStop tag body => exact frame 0x2A#8 tag body (by decide) h
  | trunkQuery tag body => exact frame 0x2B#8 tag body (by decide) h
  | directiveSubmit tag body => exact frame 0x30#8 tag body (by decide) h
  | directiveCancel tag body => exact frame 0x31#8 tag body (by decide) h
  | directiveQuery tag body => exact frame 0x32#8 tag body (by decide) h
  | closeEnd => exact event self.closeEnd h
  | closeStopStep => exact event self.closeStopStep h
  | closeDirectiveStep => exact channel (closeDirectiveStep_work s) h
  | idleComplete k => exact event (self.idleComplete k) h
  | startLimitExpiry k => exact event (self.startLimitExpiry k) h
  | lineLow k dt lowFor => exact event (self.lineLow k dt lowFor) h
  | roundStart k => exact event (self.roundStart k) h
  | turnBegin k => exact event (self.turnBegin k) h
  | echoCharacter k dt b fe => exact event (self.echoCharacter k dt b fe) h
  | echoDeadlineExpiry k => exact event (self.echoDeadline k) h
  | replyStart k dt => exact event (self.replyStart k dt) h
  | replyTimeout k => exact event (self.replyTimeout k) h
  | replyCharacter k dt b fe => exact event (self.replyCharacter k dt b fe) h
  | gapExpiry k => exact event (self.gapExpiry k) h
  | strayByte k dt b fe => exact event (self.strayByte k dt b fe) h
  | settleEnd k => exact event (self.settleEnd k) h
  | sequenceCheck k => exact perform_sameTable (sequenceCheck_sameTable k s) h
  | admission k => exact perform_sameTable (admissionStep_sameTable k s) h
  | turnClose k => exact event (self.turnClose k) h
  | holdExpiry c => exact channel (holdExpiry_work c s) h

/-- An inbound byte keeps the table unless it ends a RULE_COMMIT frame or clocks out a PART_RESET reply. -/
theorem exec_inboundByte_sameTable {s t : State} {dt : Nat} {value : Byte} {mark : Bool}
    (hframe : value = 0xA5#8 → (mark = false ∨ s.mode = .spi) →
      ∀ tag body, s.link.receiver ≠ .collecting (frameContent 0x15#8 tag body))
    (hreset : ∀ m, s.mode = .spi → s.ClocksOut mark m → ¬ m.what.IsResetReply)
    (h : exec (.inboundByte dt value mark) s = .next t) : SameTable s t := by
  simp only [exec, execInboundByte] at h
  cases h
  split
  · exact .of_eq rfl
  · have received := inboundByte_sameTable (s := s.elapse dt) hframe hreset
    exact (SameTable.of_eq (s.elapse_active dt)).trans (received.trans (.of_eq (by simp)))

/-- A message completion keeps the table when the message is no PART_RESET reply or cannot complete yet. -/
theorem exec_messageCompletion_sameTable {s t : State} {dt : Nat}
    (hreset : ∀ m, s.link.tx = some m → s.unfinished m = false → ¬ m.what.IsResetReply)
    (h : exec (.messageCompletion dt) s = .next t) : SameTable s t := by
  simp only [exec, execMessageCompletion] at h
  cases h
  split
  · exact .of_eq rfl
  · have completed := messageCompletion_sameTable (s := s.elapse dt) hreset
    exact (SameTable.of_eq (s.elapse_active dt)).trans (completed.trans (.of_eq (by simp)))

/-- When a message cannot complete: HOLD# holds bytes of it back, or the host has not clocked them out (R128, R129). -/
theorem State.unfinished_of {s : State} {m : Transmission}
    (h : if s.mode = .spi then m.sent + 1 < m.wire.length else s.holdLow = true ∧ m.sent < m.wire.length) :
    s.unfinished m = true := by
  unfold State.unfinished State.held LinkMode.isUart
  split at h
  · simp [*]
  · simp [*]

/-- Settles O3: each of the commands left keeps the table by its effect, the inbound byte and the completion by what the
hypotheses shut out. -/
theorem onlyCommitChangesActiveTable : Obligations.OnlyCommitChangesActiveTable := by
  unfold Obligations.OnlyCommitChangesActiveTable
  intro i s t h hcommit hassert hrelease hframe hreset
  suffices SameTable s t from ⟨this.table, this.generation⟩
  by_cases hi : Instr.MayChangeTable i
  · cases i with
    | ruleCommit tag body => exact absurd rfl (hcommit tag body)
    | resetAssert => exact absurd rfl hassert
    | resetRelease a b => exact absurd rfl (hrelease a b)
    | inboundByte dt value mark =>
      refine exec_inboundByte_sameTable (fun hv => hframe dt mark (by rw [hv])) (fun m hm hc => ?_) h
      rintro ⟨r, hr, hk, hn⟩
      exact (hreset m r hr hk hn).1 dt value mark rfl hm hc
    | messageCompletion dt =>
      refine exec_messageCompletion_sameTable (fun m hm hu => ?_) h
      rintro ⟨r, hr, hk, hn⟩
      have := State.unfinished_of ((hreset m r hr hk hn).2 dt rfl hm)
      rw [hu] at this; cases this
    | _ => exact hi.elim
  · exact exec_sameTable hi h

end Sys2Proof.Machine
end

section
/-! The requests on the two rule tables (R20 to R26). -/

namespace Sys2Proof.Machine

/-- An accepted request that its owner answers at once: with the update `v`, which leaves the link, the reply stands
beside the request in the table (R134, R136). -/
theorem perform_answered {s : State} (v : State) {kind tag : Byte} {body : List Byte} {lens : List Nat}
    {owner : State → State} {status : Status} {results : List Byte} (h : TakesRequest s tag) (hv : v.link = s.link)
    (hl : Config.bodyLengths kind = some lens) (hb : body.length ∈ lens)
    (ho : owner (s.enter kind tag) = (v.enter kind tag).answer kind tag status results) :
    perform (takeFrame kind tag body owner) s = .next ((v.replied kind tag status results).finish false) := by
  obtain ⟨-, -, -, -, ht, -⟩ := id h
  rw [perform_accepted lens owner h hl hb, ho, State.answer_enter (by rw [hv]; exact ht)]

/-- Settles O22: STAGE_LOAD, and RULE_COMMIT in both its branches. -/
theorem stageLoadAndCommit : Obligations.StageLoadAndCommit := by
  unfold Obligations.StageLoadAndCommit
  intro s tag h
  extract_lets next committed
  have commits : ∀ body : List Byte, body.length ∈ [0, 2] →
      ¬ (body.length = 2 ∧ u16At body 0 ≠ s.active.generation) →
      exec (.ruleCommit tag body) s = .next (committed.finish false) := fun body hb hc =>
    perform_answered { s with active := { table := s.staging, generation := next, hits := Vector.replicate 48 0 } }
      (owner := ruleCommit tag body) h rfl rfl hb (if_neg hc)
  have field : ∀ low high : Byte, u16At [low, high] 0 = low.toNat + 256 * high.toNat := fun _ _ => rfl
  refine ⟨?_, commits [] (by decide) (by simp), fun low high => ⟨fun hg => ?_, fun hg => ?_⟩⟩
  · exact perform_answered { s with staging := s.active.table } (owner := stageLoad tag) h rfl rfl (by decide) rfl
  · exact commits [low, high] (by simp) (by simp [field, hg])
  · exact perform_answered s (owner := ruleCommit tag [low, high]) h rfl rfl (by simp)
      (if_pos ⟨rfl, by rw [field]; exact hg⟩)

/-! ### RULE_READ (R26) -/

/-- RULE_READ answers what it reports (R26). -/
theorem exec_ruleRead_ok {s : State} {tag : Byte} (h : TakesRequest s tag) {body results : List Byte}
    (hb : body.length = 3) (hr : ruleReadResults body s = some results) :
    exec (.ruleRead tag body) s = .next ((s.replied 0x16#8 tag .ok results).finish false) := by
  refine perform_answered s (owner := ruleRead tag body) h rfl rfl (List.mem_singleton.2 hb) ?_
  have hr : ruleReadResults body (s.enter 0x16#8 tag) = some results := hr
  unfold ruleRead
  rw [hr]

/-- RULE_READ that reports nothing is refused (R26). -/
theorem exec_ruleRead_badArg {s : State} {tag : Byte} (h : TakesRequest s tag) {body : List Byte}
    (hb : body.length = 3) (hr : ruleReadResults body s = none) :
    exec (.ruleRead tag body) s = .next ((s.replied 0x16#8 tag .badArg []).finish false) := by
  refine perform_answered s (owner := ruleRead tag body) h rfl rfl (List.mem_singleton.2 hb) ?_
  have hr : ruleReadResults body (s.enter 0x16#8 tag) = none := hr
  unfold ruleRead
  rw [hr]

/-- The four forms of a RULE_READ that is not refused: each names a table and a slot or a bin set of it. -/
theorem ruleReadResults_forms (s : State) (index : Byte) :
    (∀ i : RuleId, index.toNat = i.1 →
      ruleReadResults [0#8, 0#8, index] s = some (readHead [0#8, 0#8, index] s.active.table s.active.generation
        ++ readSlot s.active.table.slots[i] s.active.hits[i])
      ∧ ruleReadResults [1#8, 0#8, index] s =
        some (readHead [1#8, 0#8, index] s.staging 0 ++ readSlot s.staging.slots[i] 0))
    ∧ ∀ i : Fin 4, index.toNat = i.1 →
      ruleReadResults [0#8, 1#8, index] s = some (readHead [0#8, 1#8, index] s.active.table s.active.generation
        ++ encodeBins s.active.table.bins[i])
      ∧ ruleReadResults [1#8, 1#8, index] s =
        some (readHead [1#8, 1#8, index] s.staging 0 ++ encodeBins s.staging.bins[i]) := by
  have at2 : ∀ table item : Byte, byteAt [table, item, index] 2 = index := fun _ _ => rfl
  refine ⟨fun i hi => ⟨?_, ?_⟩, fun i hi => ⟨?_, ?_⟩⟩
  all_goals
    unfold ruleReadResults
    simp only [at2, index?_eq hi, Option.map_some]
    rfl

/-- A RULE_READ is refused for a table or an item above 1, and for a slot or a bin set that is not there. -/
theorem ruleReadResults_none {s : State} {table item index : Byte} (h : 1 < table.toNat ∨ 1 < item.toNat
    ∨ (item = 0#8 ∧ 48 ≤ index.toNat) ∨ (item = 1#8 ∧ 4 ≤ index.toNat)) :
    ruleReadResults [table, item, index] s = none := by
  have hn : 1 < table.toNat ∨ 1 < item.toNat ∨ (item.toNat = 0 ∧ 48 ≤ index.toNat)
      ∨ (item.toNat = 1 ∧ 4 ≤ index.toNat) := by
    rcases h with h | h | ⟨rfl, h⟩ | ⟨rfl, h⟩
    · exact .inl h
    · exact .inr (.inl h)
    · exact .inr (.inr (.inl ⟨rfl, h⟩))
    · exact .inr (.inr (.inr ⟨rfl, h⟩))
  have fields : byteAt [table, item, index] 0 = table ∧ byteAt [table, item, index] 1 = item
      ∧ byteAt [table, item, index] 2 = index := ⟨rfl, rfl, rfl⟩
  unfold ruleReadResults
  rw [fields.1, fields.2.1, fields.2.2]
  split
  · rw [index?_none (by omega)]; rfl
  · rw [index?_none (by omega)]; rfl
  · rw [index?_none (by omega)]; rfl
  · rw [index?_none (by omega)]; rfl
  · rfl

/-- Settles O23. -/
theorem ruleReadReports : Obligations.RuleReadReports := by
  unfold Obligations.RuleReadReports
  intro s tag item index h
  extract_lets action answers report
  have haction : ∀ a, a.bytes = action a := fun a => by cases a <;> rfl
  have ok : ∀ (table : Byte) (t : RuleTable) (g : Nat) (rest : List Byte),
      ruleReadResults [table, item, index] s = some (readHead [table, item, index] t g ++ rest) →
      report table t g rest := fun table t g rest hr => by
    refine exec_ruleRead_ok h rfl (hr.trans ?_)
    simp only [readHead, haction]; rfl
  obtain ⟨slots, bins⟩ := ruleReadResults_forms s index
  refine ⟨fun table hbad => exec_ruleRead_badArg h rfl (ruleReadResults_none hbad), ?_, ?_⟩
  · rintro i rfl hi
    obtain ⟨active, staging⟩ := slots i hi
    refine ⟨fun hn => ok _ _ _ _ ?_, fun r hr => ok _ _ _ _ ?_, fun hn => ok _ _ _ _ ?_, fun r hr => ok _ _ _ _ ?_⟩
    · rw [active, hn]; rfl
    · rw [active, hr]; rfl
    · rw [staging, hn]; rfl
    · rw [staging, hr]; rfl
  · rintro i rfl hi
    exact ⟨ok _ _ _ _ (bins i hi).1, ok _ _ _ _ (bins i hi).2⟩

end Sys2Proof.Machine
end

section
/-! The encoded rule and the bin set: what their bytes decode to (R20, R169, Tables 10-10 and 10-11). -/

namespace Sys2Proof.Machine

/-! ### The codes of an encoded rule -/

/-- The index a byte reads as, if it is `i`. -/
theorem index?_eq_some {n : Nat} {b : Byte} {i : Fin n} : index? n b = some i ↔ b.toNat = i.1 :=
  ⟨index?_some, index?_eq⟩

/-- The codes of the trunk terms (Table 10-4). -/
theorem TrunkTerm.ofCode_eq_some {b : Byte} {t : TrunkTerm} :
    TrunkTerm.ofCode b = some t ↔ (∃ k : TrunkId, b.toNat = k.1 ∧ t = .only k) ∨ (b.toNat = 2 ∧ t = .either) := by
  unfold TrunkTerm.ofCode
  split
  · rename_i h; simp [h, eq_comm]
  · rename_i h; simp [h, Fin.exists_fin_two, eq_comm]
  · rename_i h; simp [h, eq_comm]
  · rename_i h0 h1 h2
    simp [show b.toNat ≠ 0 from h0, show b.toNat ≠ 1 from h1, show b.toNat ≠ 2 from h2, Fin.exists_fin_two]

/-- The codes of the actions, with the channel that DELIVER and TEE carry (Table 10-4). -/
theorem Action.ofCode_eq_some {a c : Byte} {x : Action} :
    Action.ofCode a c = some x ↔
      (∃ k : ChannelId, c.toNat = k.1 ∧ ((a.toNat = 0 ∧ x = .deliver k) ∨ (a.toNat = 1 ∧ x = .tee k)))
        ∨ (a.toNat = 2 ∧ x = .count) ∨ (a.toNat = 3 ∧ x = .discard) := by
  unfold Action.ofCode
  split
  · rename_i h; simp [h, index?_eq_some, eq_comm (a := x)]
  · rename_i h; simp [h, index?_eq_some, eq_comm (a := x)]
  · rename_i h; simp [h, eq_comm]
  · rename_i h; simp [h, eq_comm]
  · rename_i h0 h1 h2 h3
    simp [show a.toNat ≠ 0 from h0, show a.toNat ≠ 1 from h1, show a.toNat ≠ 2 from h2, show a.toNat ≠ 3 from h3]

/-- An optional term that is present is the one decoded, one that is absent is none. -/
theorem optional_eq_some {α : Type} {present : Bool} {term : Option α} {x : Option α} :
    optional present term = some x ↔ (present = false ∧ x = none) ∨ (present = true ∧ ∃ a, term = some a ∧ x = some a) := by
  cases present <;> simp [optional, eq_comm]

/-- A window term is read from bytes in range (R20, R169). -/
theorem decodeWindow_eq_some {e : List Byte} {w : WindowTerm} :
    decodeWindow e = some w ↔ (natAt e 8 ≤ 55 ∧ 1 ≤ natAt e 9 ∧ natAt e 9 ≤ 8) ∧ w =
      { offset := natAt e 8, width := natAt e 9, value := padTo (natAt e 9) (e.drop 10),
        mask := padTo (natAt e 9) (e.drop 18) } := by
  unfold decodeWindow
  rw [Option.ite_none_right_eq_some, Option.some.injEq, eq_comm (a := w)]

/-- A sum term is read from bytes in range (R20). -/
theorem decodeSum_eq_some {e : List Byte} {t : SumTerm} :
    decodeSum e = some t ↔ (natAt e 26 ≤ 55 ∧ 1 ≤ natAt e 27 ∧ natAt e 27 ≤ 56 ∧ natAt e 30 ≤ 1) ∧ t =
      { offset := natAt e 26, span := natAt e 27, target := u16At e 28, equal := natAt e 30 == 0 } := by
  unfold decodeSum
  rw [Option.ite_none_right_eq_some, Option.some.injEq, eq_comm (a := t)]

/-- A set term is read from bytes in range (R20). -/
theorem decodeSet_eq_some {e : List Byte} {t : SetTerm} :
    decodeSet e = some t ↔ natAt e 31 = t.bins.1 ∧ natAt e 32 ≤ 55 ∧ natAt e 33 ≤ 1 ∧ t.offset = natAt e 32
      ∧ t.member = (natAt e 33 == 0) := by
  unfold decodeSet
  cases h : index? 4 (byteAt e 31) with
  | none =>
    refine iff_of_false (by simp) fun ⟨hb, _⟩ => ?_
    rw [index?_eq hb] at h; cases h
  | some b =>
    have hb : natAt e 31 = b.1 := index?_some h
    obtain ⟨bins, offset, member⟩ := t
    simp only [Option.ite_none_right_eq_some, Option.some.injEq, SetTerm.mk.injEq, hb, Fin.val_inj]
    constructor
    · rintro ⟨⟨h1, h2⟩, rfl, rfl, rfl⟩; exact ⟨rfl, h1, h2, rfl, rfl⟩
    · rintro ⟨rfl, h1, h2, rfl, rfl⟩; exact ⟨⟨h1, h2⟩, rfl, rfl, rfl⟩

/-- A rule is read from 36 bytes field by field, when each term is in range (R20, R168, Table 10-10). -/
theorem decodeRule_eq_some {e : List Byte} {r : Rule} :
    decodeRule e = some r ↔
      (TrunkTerm.ofCode (byteAt e 1) = some r.trunk
        ∧ optional ((byteAt e 0).getLsbD 1) (decodeWindow e) = some r.window
        ∧ optional ((byteAt e 0).getLsbD 2) (decodeSum e) = some r.sum
        ∧ optional ((byteAt e 0).getLsbD 3) (decodeSet e) = some r.set
        ∧ Action.ofCode (byteAt e 34) (byteAt e 35) = some r.action)
      ∧ (natAt e 0 < 16 ∧ natAt e 4 ≤ natAt e 5 ∧ natAt e 6 ≤ natAt e 7 ∧ natAt e 7 ≤ 56)
      ∧ r.enabled = (byteAt e 0).getLsbD 0 ∧ r.addrValue = byteAt e 2 ∧ r.addrMask = byteAt e 3
      ∧ r.kindLow = byteAt e 4 ∧ r.kindHigh = byteAt e 5 ∧ r.lenMin = natAt e 6 ∧ r.lenMax = natAt e 7 := by
  obtain ⟨enabled, trunk, addrValue, addrMask, kindLow, kindHigh, lenMin, lenMax, window, sum, set, action⟩ := r
  constructor
  · intro h
    unfold decodeRule at h
    split at h
    · split at h
      · rename_i h1 h2 h3 h4 h5 hc
        cases h
        exact ⟨⟨h1, h2, h3, h4, h5⟩, hc, rfl, rfl, rfl, rfl, rfl, rfl, rfl⟩
      · cases h
    · cases h
  · rintro ⟨⟨h1, h2, h3, h4, h5⟩, hc, rfl, rfl, rfl, rfl, rfl, rfl, rfl⟩
    unfold decodeRule
    simp only [h1, h2, h3, h4, h5, if_pos hc]

/-- Bytes cut to a length they have are not filled. -/
theorem padTo_of_le {n : Nat} {bs : List Byte} (h : n ≤ bs.length) : padTo n bs = bs.take n := by
  unfold padTo; rw [List.take_append_of_le_length h]

/-! ### The bin set -/

/-- The digits of a number to the base 256 are its bits, eight by eight. -/
theorem digits_testBit {f : Nat → Nat} (hf : ∀ b, f b < 256) (k : Nat) :
    (List.range k).foldl (fun acc b => acc + f b * 256 ^ b) 0 < 256 ^ k
      ∧ ∀ n < 8 * k, ((List.range k).foldl (fun acc b => acc + f b * 256 ^ b) 0).testBit n
        = (f (n / 8)).testBit (n % 8) := by
  induction k with
  | zero => simp
  | succ k ih =>
    obtain ⟨hlt, hbits⟩ := ih
    rw [List.range_succ, List.foldl_append]
    simp only [List.foldl_cons, List.foldl_nil]
    generalize (List.range k).foldl (fun acc b => acc + f b * 256 ^ b) 0 = low at *
    have hfk := hf k
    refine ⟨by rw [pow_succ]; nlinarith, fun n hn => ?_⟩
    have h256 : (256 : Nat) ^ k = 2 ^ (8 * k) := by rw [pow_mul]; norm_num
    rw [h256, add_comm, mul_comm, Nat.testBit_two_pow_mul_add _ (h256 ▸ hlt)]
    split
    · exact hbits n ‹_›
    · have h1 : n / 8 = k := by omega
      have h2 : n - 8 * k = n % 8 := by omega
      rw [h1, h2]

/-- Bin `n` of a bin set is bit `n mod 8` of byte `n / 8` (Table 10-11). -/
theorem decodeBins_getLsbD (e : List Byte) {n : Nat} (hn : n < 64) :
    (decodeBins e).getLsbD n = (byteAt e (n / 8)).getLsbD (n % 8) := by
  unfold decodeBins
  rw [BitVec.getLsbD_ofNat, (digits_testBit (f := natAt e) (fun b => (byteAt e b).isLt) 8).2 n hn]
  simp [hn, natAt, BitVec.testBit_toNat]

end Sys2Proof.Machine
end

section
/-! The four edits of the staging table (R20 to R23). -/

namespace Sys2Proof.Machine

/-! ### RULE_WRITE (R20) -/

/-- The checks of R20 and R168 on the 36 bytes of a rule: what refuses them. -/
def RuleRefused (e : List Byte) : Prop :=
  16 ≤ natAt e 0 ∨ 2 < natAt e 1 ∨ natAt e 5 < natAt e 4 ∨ 56 < natAt e 6 ∨ 56 < natAt e 7 ∨ natAt e 7 < natAt e 6
    ∨ ((byteAt e 0).getLsbD 1 = true ∧ (55 < natAt e 8 ∨ natAt e 9 = 0 ∨ 8 < natAt e 9))
    ∨ ((byteAt e 0).getLsbD 2 = true ∧ (55 < natAt e 26 ∨ natAt e 27 = 0 ∨ 56 < natAt e 27 ∨ 1 < natAt e 30))
    ∨ ((byteAt e 0).getLsbD 3 = true ∧ (3 < natAt e 31 ∨ 55 < natAt e 32 ∨ 1 < natAt e 33))
    ∨ 3 < natAt e 34 ∨ (natAt e 34 ≤ 1 ∧ 7 < natAt e 35)

/-- Bytes that decode to a rule pass every check. -/
theorem not_ruleRefused {e : List Byte} {r : Rule} (h : decodeRule e = some r) : ¬ RuleRefused e := by
  obtain ⟨⟨trunk, window, sum, set, action⟩, hc, -⟩ := decodeRule_eq_some.1 h
  have htrunk : natAt e 1 ≤ 2 := by
    obtain ⟨k, hk, -⟩ | ⟨hk, -⟩ := TrunkTerm.ofCode_eq_some.1 trunk
    · have := k.isLt; unfold natAt; omega
    · unfold natAt; omega
  have hwindow : (byteAt e 0).getLsbD 1 = true → natAt e 8 ≤ 55 ∧ 1 ≤ natAt e 9 ∧ natAt e 9 ≤ 8 := fun hp => by
    obtain ⟨hn, -⟩ | ⟨-, w, hw, -⟩ := optional_eq_some.1 window
    · rw [hn] at hp; cases hp
    · exact (decodeWindow_eq_some.1 hw).1
  have hsum : (byteAt e 0).getLsbD 2 = true →
      natAt e 26 ≤ 55 ∧ 1 ≤ natAt e 27 ∧ natAt e 27 ≤ 56 ∧ natAt e 30 ≤ 1 := fun hp => by
    obtain ⟨hn, -⟩ | ⟨-, t, ht, -⟩ := optional_eq_some.1 sum
    · rw [hn] at hp; cases hp
    · exact (decodeSum_eq_some.1 ht).1
  have hset : (byteAt e 0).getLsbD 3 = true → natAt e 31 ≤ 3 ∧ natAt e 32 ≤ 55 ∧ natAt e 33 ≤ 1 := fun hp => by
    obtain ⟨hn, -⟩ | ⟨-, t, ht, -⟩ := optional_eq_some.1 set
    · rw [hn] at hp; cases hp
    · obtain ⟨hb, ho, hm, -⟩ := decodeSet_eq_some.1 ht
      have := t.bins.isLt
      exact ⟨by omega, ho, hm⟩
  have haction : natAt e 34 ≤ 3 ∧ (natAt e 34 ≤ 1 → natAt e 35 ≤ 7) := by
    unfold natAt
    obtain ⟨k, hk, ⟨h34, -⟩ | ⟨h34, -⟩⟩ | ⟨h34, -⟩ | ⟨h34, -⟩ := Action.ofCode_eq_some.1 action
    · have := k.isLt; omega
    · have := k.isLt; omega
    · omega
    · omega
  unfold RuleRefused
  rintro (h | h | h | h | h | h | ⟨hp, h⟩ | ⟨hp, h⟩ | ⟨hp, h⟩ | h | h)
  · omega
  · omega
  · omega
  · omega
  · omega
  · omega
  · have := hwindow hp; omega
  · have := hsum hp; omega
  · have := hset hp; omega
  · omega
  · omega

/-- Bytes that pass every check decode to a rule. -/
theorem decodeRule_of_not_refused {e : List Byte} (h : ¬ RuleRefused e) : ∃ r, decodeRule e = some r := by
  unfold RuleRefused at h
  simp only [not_or, not_and, not_lt, not_le] at h
  obtain ⟨hflags, htrunk, hkind, -, hlen, hlens, hwindow, hsum, hset, haction, hchannel⟩ := h
  obtain ⟨trunk, ht⟩ : ∃ t, TrunkTerm.ofCode (byteAt e 1) = some t := by
    by_cases h2 : natAt e 1 = 2
    · exact ⟨_, TrunkTerm.ofCode_eq_some.2 (.inr ⟨h2, rfl⟩)⟩
    · exact ⟨_, TrunkTerm.ofCode_eq_some.2 (.inl ⟨⟨natAt e 1, by omega⟩, rfl, rfl⟩)⟩
  have present : ∀ {α : Type} (p : Bool) (term : Option α), (p = true → ∃ a, term = some a) →
      ∃ x, optional p term = some x := fun p term hp => by
    cases p with
    | false => exact ⟨none, rfl⟩
    | true => obtain ⟨a, ha⟩ := hp rfl; exact ⟨some a, by rw [ha]; rfl⟩
  obtain ⟨window, hw⟩ := present _ (decodeWindow e) fun hp => by
    have := hwindow hp
    exact ⟨_, decodeWindow_eq_some.2 ⟨by omega, rfl⟩⟩
  obtain ⟨sum, hs⟩ := present _ (decodeSum e) fun hp => by
    have := hsum hp
    exact ⟨_, decodeSum_eq_some.2 ⟨by omega, rfl⟩⟩
  obtain ⟨set, hb⟩ := present _ (decodeSet e) fun hp => by
    obtain ⟨h31, h32, h33⟩ := hset hp
    exact ⟨{ bins := ⟨natAt e 31, by omega⟩, offset := _, member := _ },
      decodeSet_eq_some.2 ⟨rfl, h32, h33, rfl, rfl⟩⟩
  obtain ⟨action, ha⟩ : ∃ a, Action.ofCode (byteAt e 34) (byteAt e 35) = some a := by
    rcases (by omega : natAt e 34 ≤ 1 ∨ natAt e 34 = 2 ∨ natAt e 34 = 3) with h1 | h2 | h3
    · have hc := hchannel h1
      rcases (by omega : natAt e 34 = 0 ∨ natAt e 34 = 1) with h0 | h1
      · exact ⟨_, Action.ofCode_eq_some.2 (.inl ⟨⟨natAt e 35, by omega⟩, rfl, .inl ⟨h0, rfl⟩⟩)⟩
      · exact ⟨_, Action.ofCode_eq_some.2 (.inl ⟨⟨natAt e 35, by omega⟩, rfl, .inr ⟨h1, rfl⟩⟩)⟩
    · exact ⟨_, Action.ofCode_eq_some.2 (.inr (.inl ⟨h2, rfl⟩))⟩
    · exact ⟨_, Action.ofCode_eq_some.2 (.inr (.inr ⟨h3, rfl⟩))⟩
  exact ⟨{ enabled := _, trunk := trunk, addrValue := _, addrMask := _, kindLow := _, kindHigh := _, lenMin := _
           lenMax := _, window := window, sum := sum, set := set, action := action },
    decodeRule_eq_some.2 ⟨⟨ht, hw, hs, hb, ha⟩, ⟨hflags, hkind, hlens, hlen⟩, rfl, rfl, rfl, rfl, rfl, rfl, rfl⟩⟩

/-- The terms of a rule that 36 bytes decode to, as Table 10-10 lays them out (R20, R169). -/
theorem decodeRule_terms {e : List Byte} {r : Rule} (he : e.length = 36) (h : decodeRule e = some r) :
    (((byteAt e 0).getLsbD 1 = false → r.window = none) ∧ ((byteAt e 0).getLsbD 1 = true → r.window = some
        { offset := natAt e 8, width := natAt e 9, value := (e.drop 10).take (natAt e 9)
          mask := (e.drop 18).take (natAt e 9) }))
    ∧ (((byteAt e 0).getLsbD 2 = false → r.sum = none) ∧ ((byteAt e 0).getLsbD 2 = true → r.sum = some
        { offset := natAt e 26, span := natAt e 27, target := u16At e 28, equal := decide (natAt e 30 = 0) }))
    ∧ (((byteAt e 0).getLsbD 3 = false → r.set = none) ∧ ∀ n : Fin 4, (byteAt e 0).getLsbD 3 = true →
        natAt e 31 = n.1 → r.set = some { bins := n, offset := natAt e 32, member := decide (natAt e 33 = 0) }) := by
  obtain ⟨⟨-, window, sum, set, -⟩, -⟩ := decodeRule_eq_some.1 h
  have absent : ∀ {α : Type} {p : Bool} {term : Option α} {x : Option α}, optional p term = some x → p = false →
      x = none := fun hx hp => by
    obtain ⟨-, hx⟩ | ⟨ht, -⟩ := optional_eq_some.1 hx
    · exact hx
    · rw [hp] at ht; cases ht
  have present : ∀ {α : Type} {p : Bool} {term : Option α} {x : Option α}, optional p term = some x → p = true →
      ∃ a, term = some a ∧ x = some a := fun hx hp => by
    obtain ⟨hf, -⟩ | ⟨-, hx⟩ := optional_eq_some.1 hx
    · rw [hp] at hf; cases hf
    · exact hx
  refine ⟨⟨absent window, fun hp => ?_⟩, ⟨absent sum, fun hp => ?_⟩, absent set, fun n hp hn => ?_⟩
  · obtain ⟨w, hw, hx⟩ := present window hp
    obtain ⟨hr, rfl⟩ := decodeWindow_eq_some.1 hw
    rw [hx, padTo_of_le (by rw [List.length_drop]; omega), padTo_of_le (by rw [List.length_drop]; omega)]
  · obtain ⟨t, ht, hx⟩ := present sum hp
    obtain ⟨-, rfl⟩ := decodeSum_eq_some.1 ht
    rw [hx]; rfl
  · obtain ⟨t, ht, hx⟩ := present set hp
    obtain ⟨hb, -, -, ho, hm⟩ := decodeSet_eq_some.1 ht
    rw [hx]
    obtain ⟨bins, offset, member⟩ := t
    obtain rfl : bins = n := Fin.ext (hb.symm.trans hn)
    cases ho; cases hm; rfl

/-! ### The four requests -/

section
variable {s : State} {tag : Byte} (h : TakesRequest s tag)
include h

/-- RULE_WRITE of a rule that passes the checks (R20). -/
theorem exec_ruleWrite_ok {slot : Byte} {e : List Byte} (he : e.length = 36) {i : RuleId} (hi : slot.toNat = i.1)
    {r : Rule} (hr : decodeRule e = some r) :
    exec (.ruleWrite tag (slot :: e)) s = .next ((({ s with staging := { s.staging with
      slots := setAt s.staging.slots i (some r) } } : State).replied 0x10#8 tag .ok []).finish false) := by
  refine perform_answered _ (owner := ruleWrite tag (slot :: e)) h (by rfl) (by rfl) (by simp [he]) ?_
  unfold ruleWrite
  simp only [byteAt, List.getD_cons_zero, index?_eq hi, List.drop_succ_cons, List.drop_zero, hr]
  rfl

/-- RULE_WRITE that is refused (R20). -/
theorem exec_ruleWrite_badArg {slot : Byte} {e : List Byte} (he : e.length = 36)
    (hr : 48 ≤ slot.toNat ∨ decodeRule e = none) :
    exec (.ruleWrite tag (slot :: e)) s = .next ((s.replied 0x10#8 tag .badArg []).finish false) := by
  refine perform_answered s (owner := ruleWrite tag (slot :: e)) h rfl rfl (by simp [he]) ?_
  unfold ruleWrite
  simp only [byteAt, List.getD_cons_zero, List.drop_succ_cons, List.drop_zero]
  obtain hs | hd := hr
  · rw [index?_none hs]
  · rw [hd]; split
    · contradiction
    · rfl

/-- RULE_ERASE of a slot that is there (R21). -/
theorem exec_ruleErase_ok {slot : Byte} {i : RuleId} (hi : slot.toNat = i.1) :
    exec (.ruleErase tag [slot]) s = .next ((({ s with staging := { s.staging with
      slots := setAt s.staging.slots i none } } : State).replied 0x11#8 tag .ok
        [flagByte (s.staging.slots[i]).isSome]).finish false) := by
  refine perform_answered _ (owner := ruleErase tag [slot]) h (by rfl) (by rfl) (by simp) ?_
  unfold ruleErase
  simp only [byteAt, List.getD_cons_zero, index?_eq hi]
  rfl

/-- SET_WRITE of a bin set that is there (R22). -/
theorem exec_setWrite_ok {slot : Byte} {e : List Byte} (he : e.length = 8) {i : Fin 4} (hi : slot.toNat = i.1) :
    exec (.setWrite tag (slot :: e)) s = .next ((({ s with staging := { s.staging with
      bins := setAt s.staging.bins i (decodeBins e) } } : State).replied 0x12#8 tag .ok []).finish false) := by
  refine perform_answered _ (owner := setWrite tag (slot :: e)) h (by rfl) (by rfl) (by simp [he]) ?_
  unfold setWrite
  simp only [byteAt, List.getD_cons_zero, index?_eq hi, List.drop_succ_cons, List.drop_zero]
  rfl

/-- DEFAULT_WRITE of an action that its two bytes name (R23). -/
theorem exec_defaultWrite_ok {action channel : Byte} {a : DefaultAction}
    (ha : DefaultAction.ofCode action channel = some a) :
    exec (.defaultWrite tag [action, channel]) s = .next ((({ s with staging := { s.staging with
      defaultAction := a } } : State).replied 0x13#8 tag .ok []).finish false) := by
  refine perform_answered _ (owner := defaultWrite tag [action, channel]) h (by rfl) (by rfl) (by simp) ?_
  unfold defaultWrite
  rw [show DefaultAction.ofCode (byteAt [action, channel] 0) (byteAt [action, channel] 1) = some a from ha]
  rfl

/-- DEFAULT_WRITE that is refused (R23). -/
theorem exec_defaultWrite_badArg {action channel : Byte} (ha : DefaultAction.ofCode action channel = none) :
    exec (.defaultWrite tag [action, channel]) s = .next ((s.replied 0x13#8 tag .badArg []).finish false) := by
  refine perform_answered s (owner := defaultWrite tag [action, channel]) h rfl rfl (by simp) ?_
  unfold defaultWrite
  rw [show DefaultAction.ofCode (byteAt [action, channel] 0) (byteAt [action, channel] 1) = none from ha]

end

/-- The codes that name no default action (R23, R168). -/
theorem DefaultAction.ofCode_none {action channel : Byte} (h : (action ≠ 0#8 ∧ action ≠ 3#8)
    ∨ (action = 0#8 ∧ 8 ≤ channel.toNat) ∨ (action = 3#8 ∧ channel ≠ 0#8)) :
    DefaultAction.ofCode action channel = none := by
  obtain ⟨h0, h3⟩ | ⟨rfl, hc⟩ | ⟨rfl, hc⟩ := h
  · unfold DefaultAction.ofCode
    split
    · rename_i e; exact absurd (BitVec.eq_of_toNat_eq e) h0
    · rename_i e; exact absurd (BitVec.eq_of_toNat_eq e) h3
    · rfl
  · exact congrArg (Option.map DefaultAction.deliver) (index?_none hc)
  · exact if_neg hc

/-- Settles O21: each request by its accepted and its refused form, the rule by what its bytes decode to. -/
theorem stagingEdits : Obligations.StagingEdits := by
  unfold Obligations.StagingEdits
  intro s tag slot h
  extract_lets bad edited
  refine ⟨fun e he => ?_, fun hs => ?_, fun i hi => ?_, fun e he => ⟨fun hs => ?_, fun i bins hi hbits => ?_⟩,
    fun channel => ⟨fun c hs hc => ?_, fun hs hc => ?_, fun hbad => ?_⟩⟩
  · extract_lets b v hasWindow hasSum hasSet refused
    refine ⟨fun hr => exec_ruleWrite_badArg h he ?_, fun i hi hr => ?_⟩
    · exact hr.imp_right fun hr => Option.eq_none_iff_forall_ne_some.2 fun r hd => not_ruleRefused hd hr
    · obtain ⟨r, hd⟩ := decodeRule_of_not_refused hr
      obtain ⟨⟨windowAbsent, window⟩, ⟨sumAbsent, sum⟩, setAbsent, set⟩ := decodeRule_terms he hd
      obtain ⟨⟨trunk, -, -, -, action⟩, -, enabled, addrValue, addrMask, kindLow, kindHigh, lenMin, lenMax⟩ :=
        decodeRule_eq_some.1 hd
      have trunkIs : ∀ t, TrunkTerm.ofCode (b 1) = some t → r.trunk = t := fun t ht =>
        Option.some.inj (trunk.symm.trans ht)
      have actionIs : ∀ a, Action.ofCode (b 34) (b 35) = some a → r.action = a := fun a ha =>
        Option.some.inj (action.symm.trans ha)
      refine ⟨r, exec_ruleWrite_ok h he hi hd, enabled, fun k hk => ?_, fun h2 => ?_, addrValue, addrMask, kindLow,
        kindHigh, lenMin, lenMax, fun hn => windowAbsent (Bool.not_eq_true _ ▸ hn), window,
        fun hn => sumAbsent (Bool.not_eq_true _ ▸ hn), sum, fun hn => setAbsent (Bool.not_eq_true _ ▸ hn), set,
        fun c hc => ⟨fun h0 => ?_, fun h1 => ?_⟩, fun h2 => ?_, fun h3 => ?_⟩
      · exact trunkIs _ (TrunkTerm.ofCode_eq_some.2 (.inl ⟨k, hk, rfl⟩))
      · exact trunkIs _ (TrunkTerm.ofCode_eq_some.2 (.inr ⟨h2, rfl⟩))
      · exact actionIs _ (Action.ofCode_eq_some.2 (.inl ⟨c, hc, .inl ⟨h0, rfl⟩⟩))
      · exact actionIs _ (Action.ofCode_eq_some.2 (.inl ⟨c, hc, .inr ⟨h1, rfl⟩⟩))
      · exact actionIs _ (Action.ofCode_eq_some.2 (.inr (.inl ⟨h2, rfl⟩)))
      · exact actionIs _ (Action.ofCode_eq_some.2 (.inr (.inr ⟨h3, rfl⟩)))
  · refine perform_answered s (owner := ruleErase tag [slot]) h rfl rfl (by simp) ?_
    unfold ruleErase
    simp only [byteAt, List.getD_cons_zero, index?_none hs]
  · have flag : (if s.staging.slots[i] = none then 0#8 else 1#8) = flagByte (s.staging.slots[i]).isSome := by
      cases s.staging.slots[i] <;> rfl
    rw [flag]
    exact exec_ruleErase_ok h hi
  · refine perform_answered s (owner := setWrite tag (slot :: e)) h rfl rfl (by simp [he]) ?_
    unfold setWrite
    simp only [byteAt, List.getD_cons_zero, index?_none hs]
  · obtain rfl : bins = decodeBins e := BitVec.eq_of_getLsbD_eq fun n hn => by
      rw [hbits n hn, decodeBins_getLsbD e hn]; rfl
    exact exec_setWrite_ok h he hi
  · subst hs
    exact exec_defaultWrite_ok h (by unfold DefaultAction.ofCode; simp [index?_eq hc])
  · subst hs; subst hc
    exact exec_defaultWrite_ok h rfl
  · exact exec_defaultWrite_badArg h (DefaultAction.ofCode_none hbad)

end Sys2Proof.Machine
end

section
/-! A rule and a bin set are read back from the bytes that encode them (R20, R169). -/

namespace Sys2Proof.Machine

/-! ### Bytes of a list in parts -/

/-- A number below 256 is read back from its byte. -/
theorem byteOf_toNat {n : Nat} (h : n < 256) : (byteOf n).toNat = n := by
  unfold byteOf; rw [BitVec.toNat_ofNat]; exact Nat.mod_eq_of_lt h

/-- A byte behind the first part of a list. -/
theorem byteAt_append_right (l m : List Byte) (i : Nat) : byteAt (l ++ m) (l.length + i) = byteAt m i := by
  unfold byteAt
  rw [List.getD_append_right _ _ _ _ (Nat.le_add_right _ _), Nat.add_sub_cancel_left]

/-- A byte of the first part of a list. -/
theorem byteAt_append_left {l : List Byte} {i : Nat} (m : List Byte) (h : i < l.length) :
    byteAt (l ++ m) i = byteAt l i := List.getD_append _ _ _ _ h

/-- Bytes filled with zeros to a length. -/
theorem padTo_of_ge {n : Nat} {bs : List Byte} (h : bs.length ≤ n) :
    padTo n bs = bs ++ List.replicate (n - bs.length) 0#8 := by
  unfold padTo
  rw [List.take_append, List.take_of_length_le h, List.take_replicate, min_eq_left (Nat.sub_le _ _)]

/-- Bytes in front of others, cut to their own length. -/
theorem padTo_append_self (bs cs : List Byte) : padTo bs.length (bs ++ cs) = bs := by
  rw [padTo_of_le (by simp), List.take_left']
  rfl

theorem padTo_length (n : Nat) (bs : List Byte) : (padTo n bs).length = n := by
  simp [padTo]

/-! ### The parts of an encoded rule (Table 10-10) -/

theorem windowBytes_length (w : Option WindowTerm) : (windowBytes w).length = 18 := by
  cases w <;> simp [windowBytes, padTo_length]

theorem sumBytes_length (t : Option SumTerm) : (sumBytes t).length = 5 := by
  cases t <;> simp [sumBytes, le16]

theorem setBytes_length (t : Option SetTerm) : (setBytes t).length = 3 := by
  cases t <;> simp [setBytes]

theorem Action.bytes_length (a : Action) : a.bytes.length = 2 := by
  cases a <;> rfl

/-- The first 8 bytes of an encoded rule. -/
def ruleHead (r : Rule) : List Byte :=
  [ruleFlags r, r.trunk.code, r.addrValue, r.addrMask, r.kindLow, r.kindHigh, byteOf r.lenMin, byteOf r.lenMax]

/-- An encoded rule part by part. -/
theorem encodeRule_parts (r : Rule) : encodeRule r =
    ruleHead r ++ (windowBytes r.window ++ (sumBytes r.sum ++ (setBytes r.set ++ r.action.bytes))) := by
  simp [encodeRule, ruleHead]

/-- Where the bytes of a rule's terms stand in the encoded rule. -/
theorem encodeRule_at (r : Rule) :
    (∀ i < 18, byteAt (encodeRule r) (8 + i) = byteAt (windowBytes r.window) i)
    ∧ (∀ i < 5, byteAt (encodeRule r) (26 + i) = byteAt (sumBytes r.sum) i)
    ∧ (∀ i < 3, byteAt (encodeRule r) (31 + i) = byteAt (setBytes r.set) i)
    ∧ ∀ i, byteAt (encodeRule r) (34 + i) = byteAt r.action.bytes i := by
  have window : ∀ i, byteAt (encodeRule r) (8 + i) =
      byteAt (windowBytes r.window ++ (sumBytes r.sum ++ (setBytes r.set ++ r.action.bytes))) i := fun i => by
    rw [encodeRule_parts]; exact byteAt_append_right (ruleHead r) _ i
  have sum : ∀ i, byteAt (encodeRule r) (26 + i) = byteAt (sumBytes r.sum ++ (setBytes r.set ++ r.action.bytes)) i :=
    fun i => by
      rw [show 26 + i = 8 + (18 + i) by omega, window, ← windowBytes_length r.window]; exact byteAt_append_right _ _ i
  have set : ∀ i, byteAt (encodeRule r) (31 + i) = byteAt (setBytes r.set ++ r.action.bytes) i := fun i => by
    rw [show 31 + i = 26 + (5 + i) by omega, sum, ← sumBytes_length r.sum]; exact byteAt_append_right _ _ i
  refine ⟨fun i hi => ?_, fun i hi => ?_, fun i hi => ?_, fun i => ?_⟩
  · rw [window]; exact byteAt_append_left _ (by rw [windowBytes_length]; exact hi)
  · rw [sum]; exact byteAt_append_left _ (by rw [sumBytes_length]; exact hi)
  · rw [set]; exact byteAt_append_left _ (by rw [setBytes_length]; exact hi)
  · rw [show 34 + i = 31 + (3 + i) by omega, set, ← setBytes_length r.set]; exact byteAt_append_right _ _ i

/-- The flags of an encoded rule say which of its parts are there. -/
theorem ruleFlags_bits (r : Rule) : (ruleFlags r).toNat < 16 ∧ (ruleFlags r).getLsbD 0 = r.enabled
    ∧ (ruleFlags r).getLsbD 1 = r.window.isSome ∧ (ruleFlags r).getLsbD 2 = r.sum.isSome
    ∧ (ruleFlags r).getLsbD 3 = r.set.isSome := by
  unfold ruleFlags
  generalize r.enabled = a, r.window.isSome = b, r.sum.isSome = c, r.set.isSome = d
  revert a b c d
  decide

/-! ### What the parts are read back as -/

/-- A window term in range, with exactly `width` value and mask bytes. -/
def WindowTerm.InRange (w : WindowTerm) : Prop :=
  w.offset ≤ 55 ∧ 1 ≤ w.width ∧ w.width ≤ 8 ∧ w.value.length = w.width ∧ w.mask.length = w.width

/-- A sum term in range. -/
def SumTerm.InRange (t : SumTerm) : Prop := t.offset ≤ 55 ∧ 1 ≤ t.span ∧ t.span ≤ 56 ∧ t.target ≤ 65535

theorem TrunkTerm.ofCode_code (t : TrunkTerm) : TrunkTerm.ofCode t.code = some t := by
  rw [TrunkTerm.ofCode_eq_some]
  cases t with
  | only k => exact .inl ⟨k, byteOf_toNat (by omega), rfl⟩
  | either => exact .inr ⟨rfl, rfl⟩

theorem Action.ofCode_bytes (a : Action) : Action.ofCode (byteAt a.bytes 0) (byteAt a.bytes 1) = some a := by
  rw [Action.ofCode_eq_some]
  cases a with
  | deliver c => exact .inl ⟨c, byteOf_toNat (by omega), .inl ⟨rfl, rfl⟩⟩
  | tee c => exact .inl ⟨c, byteOf_toNat (by omega), .inr ⟨rfl, rfl⟩⟩
  | count => exact .inr (.inl ⟨rfl, rfl⟩)
  | discard => exact .inr (.inr ⟨rfl, rfl⟩)

theorem decodeWindow_encodeRule {r : Rule} {w : WindowTerm} (h : r.window = some w) (hw : w.InRange) :
    decodeWindow (encodeRule r) = some w := by
  obtain ⟨hoffset, hlow, hhigh, hvalue, hmask⟩ := hw
  have at0 : natAt (encodeRule r) 8 = w.offset := by
    unfold natAt; rw [(encodeRule_at r).1 0 (by omega), h]; exact byteOf_toNat (by omega)
  have at1 : natAt (encodeRule r) 9 = w.width := by
    unfold natAt; rw [(encodeRule_at r).1 1 (by omega), h]; exact byteOf_toNat (by omega)
  obtain ⟨rest, hrest⟩ : ∃ rest, (encodeRule r).drop 10 = padTo 8 w.value ++ (padTo 8 w.mask ++ rest) :=
    ⟨sumBytes r.sum ++ (setBytes r.set ++ r.action.bytes), by rw [encodeRule_parts, h]; simp [ruleHead, windowBytes]⟩
  have value : padTo w.width ((encodeRule r).drop 10) = w.value := by
    rw [hrest, padTo_of_ge (n := 8) (bs := w.value) (by omega), ← hvalue, List.append_assoc]; exact padTo_append_self _ _
  have mask : padTo w.width ((encodeRule r).drop 18) = w.mask := by
    have : (encodeRule r).drop 18 = padTo 8 w.mask ++ rest := by
      rw [show 18 = 10 + 8 by rfl, ← List.drop_drop, hrest]
      exact List.drop_left' (padTo_length 8 w.value)
    rw [this, padTo_of_ge (n := 8) (bs := w.mask) (by omega), ← hmask, List.append_assoc]; exact padTo_append_self _ _
  rw [decodeWindow_eq_some, at0, at1, value, mask]
  exact ⟨⟨hoffset, hlow, hhigh⟩, rfl⟩

/-- A sense is encoded as 0 or 1, and read back as 0 or not (Table 10-4). -/
theorem flagByte_not : ∀ b : Bool, (flagByte (!b)).toNat ≤ 1 ∧ ((flagByte (!b)).toNat == 0) = b := by decide

theorem decodeSum_encodeRule {r : Rule} {t : SumTerm} (h : r.sum = some t) (ht : t.InRange) :
    decodeSum (encodeRule r) = some t := by
  obtain ⟨hoffset, hlow, hhigh, htarget⟩ := ht
  have bytes : ∀ i < 5, natAt (encodeRule r) (26 + i) =
      natAt ([byteOf t.offset, byteOf t.span, byteOf t.target, byteOf (t.target / 256), flagByte (!t.equal)]) i :=
    fun i hi => by unfold natAt; rw [(encodeRule_at r).2.1 i hi, h]; rfl
  have at0 : natAt (encodeRule r) 26 = t.offset := (bytes 0 (by omega)).trans (byteOf_toNat (by omega))
  have at1 : natAt (encodeRule r) 27 = t.span := (bytes 1 (by omega)).trans (byteOf_toNat (by omega))
  have at2 : u16At (encodeRule r) 28 = t.target := by
    have low := bytes 2 (by omega)
    have high := (bytes 3 (by omega)).trans (byteOf_toNat (by omega))
    have : (byteOf t.target).toNat = t.target % 256 := BitVec.toNat_ofNat _ _
    unfold u16At
    rw [low, high]
    change (byteOf t.target).toNat + _ = _
    omega
  have at4 : natAt (encodeRule r) 30 = (flagByte (!t.equal)).toNat := bytes 4 (by omega)
  rw [decodeSum_eq_some, at0, at1, at2, at4]
  obtain ⟨hflag, hsense⟩ := flagByte_not t.equal
  rw [hsense]
  exact ⟨⟨hoffset, hlow, hhigh, hflag⟩, rfl⟩

theorem decodeSet_encodeRule {r : Rule} {t : SetTerm} (h : r.set = some t) (ht : t.offset ≤ 55) :
    decodeSet (encodeRule r) = some t := by
  have bytes : ∀ i < 3, natAt (encodeRule r) (31 + i) =
      natAt ([byteOf t.bins.1, byteOf t.offset, flagByte (!t.member)]) i :=
    fun i hi => by unfold natAt; rw [(encodeRule_at r).2.2.1 i hi, h]; rfl
  have at0 : natAt (encodeRule r) 31 = t.bins.1 := (bytes 0 (by omega)).trans (byteOf_toNat (by omega))
  have at1 : natAt (encodeRule r) 32 = t.offset := (bytes 1 (by omega)).trans (byteOf_toNat (by omega))
  have at2 : natAt (encodeRule r) 33 = (flagByte (!t.member)).toNat := bytes 2 (by omega)
  rw [decodeSet_eq_some, at0, at1, at2]
  obtain ⟨hflag, hsense⟩ := flagByte_not t.member
  exact ⟨rfl, ht, hflag, rfl, hsense.symm⟩

/-- A rule in range is read back from the 36 bytes that encode it (R20, R169). -/
theorem decodeRule_encodeRule {r : Rule} (hkind : r.kindLow.toNat ≤ r.kindHigh.toNat) (hlen : r.lenMin ≤ r.lenMax)
    (hmax : r.lenMax ≤ 56) (hwindow : ∀ w, r.window = some w → w.InRange) (hsum : ∀ t, r.sum = some t → t.InRange)
    (hset : ∀ t, r.set = some t → t.offset ≤ 55) : decodeRule (encodeRule r) = some r := by
  obtain ⟨flags, bit0, bit1, bit2, bit3⟩ := ruleFlags_bits r
  have at0 : byteAt (encodeRule r) 0 = ruleFlags r := rfl
  have at6 : natAt (encodeRule r) 6 = r.lenMin := byteOf_toNat (by omega)
  have at7 : natAt (encodeRule r) 7 = r.lenMax := byteOf_toNat (by omega)
  have term : ∀ {α : Type} {term x : Option α}, (∀ a, x = some a → term = some a) →
      optional x.isSome term = some x := fun {_} {term} {x} hx => by
    cases x with
    | none => rfl
    | some a => rw [hx a rfl]; rfl
  rw [decodeRule_eq_some, at0, bit0, bit1, bit2, bit3, at6, at7]
  refine ⟨⟨TrunkTerm.ofCode_code r.trunk, term fun w hw => ?_, term fun t ht => ?_, term fun t ht => ?_, ?_⟩,
    ⟨flags, hkind, hlen, hmax⟩, rfl, rfl, rfl, rfl, rfl, rfl, rfl⟩
  · exact decodeWindow_encodeRule hw (hwindow w hw)
  · exact decodeSum_encodeRule ht (hsum t ht)
  · exact decodeSet_encodeRule ht (hset t ht)
  · rw [(encodeRule_at r).2.2.2 0, (encodeRule_at r).2.2.2 1]; exact Action.ofCode_bytes r.action

/-! ### The bin set (Table 10-11) -/

/-- Bit `j` of byte `b` of an encoded bin set is bin `8 b + j`. -/
theorem encodeBins_getLsbD (bins : BitVec 64) {b j : Nat} (hb : b < 8) (hj : j < 8) :
    (byteAt (encodeBins bins) b).getLsbD j = bins.getLsbD (8 * b + j) := by
  have at_b : byteAt (encodeBins bins) b = byteOf (bins.toNat / 256 ^ b) := by
    simp [byteAt, encodeBins, List.getD, hb]
  rw [at_b, byteOf, BitVec.getLsbD_ofNat, show (256 : Nat) ^ b = 2 ^ (8 * b) by rw [pow_mul]; norm_num,
    Nat.testBit_div_two_pow, BitVec.testBit_toNat, add_comm j]
  simp [hj]

/-- A bin set is read back from the 8 bytes that encode it. -/
theorem decodeBins_encodeBins (bins : BitVec 64) : decodeBins (encodeBins bins) = bins :=
  BitVec.eq_of_getLsbD_eq fun n hn => by
    rw [decodeBins_getLsbD _ hn, encodeBins_getLsbD bins (by omega) (by omega), Nat.div_add_mod]

/-- Settles O24: the encoding part by part, and the reading of each part. -/
theorem encodedRulesAndBinsReadBack : Obligations.EncodedRulesAndBinsReadBack := by
  unfold Obligations.EncodedRulesAndBinsReadBack
  refine ⟨fun r hkind hlen hmax hwindow hsum hset => ?_, fun bins => ⟨by simp [encodeBins], decodeBins_encodeBins bins,
    fun b j hb hj => encodeBins_getLsbD bins hb hj⟩⟩
  extract_lets bit zeros trunk window sum set action
  refine ⟨?_, ?_, decodeRule_encodeRule hkind hlen hmax hwindow hsum hset⟩
  · have htrunk : r.trunk.code = trunk := by cases h : r.trunk <;> simp [trunk, h, TrunkTerm.code]
    have hw : windowBytes r.window = window := by
      cases h : r.window with
      | none => simp [window, h, windowBytes, zeros]
      | some w =>
        obtain ⟨-, -, hhigh, hvalue, hmask⟩ := hwindow w h
        simp [window, h, windowBytes, zeros, padTo_of_ge (hvalue.trans_le hhigh), padTo_of_ge (hmask.trans_le hhigh), hvalue, hmask]
    have flag : ∀ b : Bool, flagByte (!b) = if b then 0#8 else 1#8 := by decide
    have hs : sumBytes r.sum = sum := by cases h : r.sum <;> simp [sum, h, sumBytes, zeros, flag]
    have hb : setBytes r.set = set := by cases h : r.set <;> simp [set, h, setBytes, zeros, flag]
    have ha : r.action.bytes = action := by cases h : r.action <;> simp [action, h, Action.bytes]
    rw [encodeRule, htrunk, hw, hs, hb, ha]; rfl
  · rw [encodeRule_parts]
    simp [ruleHead, windowBytes_length, sumBytes_length, setBytes_length, Action.bytes_length]

end Sys2Proof.Machine
end

section
/-! The terms of a rule and the walk of a record over a table (R2 to R12). -/

namespace Sys2Proof.Machine

/-! ### When a term is true (R2 to R6) -/

theorem TrunkTerm.holds_iff (t : TrunkTerm) (k : TrunkId) : t.holds k = true ↔ t = .either ∨ t = .only k := by
  cases t <;> simp [TrunkTerm.holds]

theorem maskedEqual_iff (mask a b : Byte) : maskedEqual mask a b = true ↔ a &&& mask = b &&& mask := by
  simp [maskedEqual]

theorem WindowTerm.holds_iff (w : WindowTerm) (payload : List Byte) :
    w.holds payload = true ↔ w.offset + w.width ≤ payload.length ∧ ∀ n < w.width,
      byteAt payload (w.offset + n) &&& byteAt w.mask n = byteAt w.value n &&& byteAt w.mask n := by
  simp [WindowTerm.holds, maskedEqual_iff]

/-- The bytes of a span that a payload holds, read one by one. -/
theorem span_eq_map (payload : List Byte) (offset span : Nat) (h : offset + span ≤ payload.length) :
    (payload.drop offset).take span = (List.range span).map fun n => byteAt payload (offset + n) := by
  apply List.ext_getElem
  · simp; omega
  · intro n h1 h2
    simp only [List.length_map, List.length_range] at h2
    simp [byteAt, List.getD, show offset + n < payload.length by omega]

theorem SumTerm.holds_iff (t : SumTerm) (payload : List Byte) :
    t.holds payload = true ↔ t.offset + t.span ≤ payload.length
      ∧ ((((List.range t.span).map fun n => (byteAt payload (t.offset + n)).toNat).sum % 65536 = t.target)
        ↔ t.equal = true) := by
  unfold SumTerm.holds
  rw [Bool.and_eq_true, decide_eq_true_eq]
  refine and_congr_right fun hspan => ?_
  rw [span_eq_map payload _ _ hspan, List.map_map, beq_iff_eq, Bool.eq_iff_iff, decide_eq_true_eq]
  rfl

theorem SetTerm.holds_iff (t : SetTerm) (bins : Vector (BitVec 64) 4) (payload : List Byte) :
    t.holds bins payload = true ↔ t.offset + 2 ≤ payload.length
      ∧ (bins[t.bins]).getLsbD (((byteAt payload t.offset).toNat * 31 + (byteAt payload (t.offset + 1)).toNat) % 64)
        = t.member := by
  unfold SetTerm.holds binOf
  rw [Bool.and_eq_true, decide_eq_true_eq, beq_iff_eq]

/-- A term that is absent does not restrict the rule. -/
theorem absentOr_iff {α : Type} (term : Option α) (holds : α → Bool) :
    absentOr term holds = true ↔ ∀ a, term = some a → holds a = true := by
  cases term <;> simp [absentOr]

/-! ### What a slot does to a walk (R7 to R11) -/

/-- The action of the rule in slot `j`, if it is enabled and applies to the record (R7). -/
def RuleTable.actionAt (t : RuleTable) (x : Record) (j : RuleId) : Option Action :=
  (t.slots[j]).bind fun r => if r.enabled && r.appliesTo t.bins x then some r.action else none

/-- The actions that end a walk (R9). -/
def Action.ends : Action → Bool
  | .deliver _ | .discard => true
  | .tee _ | .count => false

/-- The channel that a TEE names (R10). -/
def Action.teeChannel : Action → Option ChannelId
  | .tee c => some c
  | .deliver _ | .count | .discard => none

/-- The primary that the end of a walk by this action names (R9). -/
def Action.primary : Action → Option ChannelId
  | .deliver c => some c
  | .tee _ | .count | .discard => none

/-- The primary that the default action names (R11). -/
def DefaultAction.primary : DefaultAction → Option ChannelId
  | .deliver c => some c
  | .discard => none

section
variable (t : RuleTable) (x : Record)

/-- The tees that the slots name, in order (R10). -/
def RuleTable.tees (js : List RuleId) : List ChannelId := js.filterMap fun j => (t.actionAt x j).bind Action.teeChannel

/-- The slots that apply, in order (R15). -/
def RuleTable.appliedOf (js : List RuleId) : List RuleId := js.filter fun j => (t.actionAt x j).isSome

variable {t x} {i : RuleId} (is : List RuleId) (tee : Option ChannelId) (applied : List RuleId)

/-- A slot without a rule that applies is passed over. -/
theorem RuleTable.walkFrom_none (h : t.actionAt x i = none) :
    t.walkFrom x (i :: is) tee applied = t.walkFrom x is tee applied := by
  unfold RuleTable.actionAt at h
  rw [RuleTable.walkFrom]
  cases hs : t.slots[i] with
  | none => rfl
  | some r =>
    rw [hs, Option.bind_some, ite_eq_right_iff] at h
    exact if_neg fun hr => by cases h hr

/-- The rule in a slot that applies. -/
theorem RuleTable.actionAt_some {a : Action} (h : t.actionAt x i = some a) :
    ∃ r, t.slots[i] = some r ∧ (r.enabled && r.appliesTo t.bins x) = true ∧ r.action = a := by
  obtain ⟨r, hs, hr⟩ := Option.bind_eq_some_iff.1 h
  split at hr
  · exact ⟨r, hs, ‹_›, Option.some.inj hr⟩
  · cases hr

/-- A slot whose action ends the walk (R9). -/
theorem RuleTable.walkFrom_ends {a : Action} (h : t.actionAt x i = some a) (ha : a.ends = true) :
    t.walkFrom x (i :: is) tee applied = { primary := a.primary, tee := tee, applied := applied ++ [i] } := by
  obtain ⟨r, hs, hr, rfl⟩ := RuleTable.actionAt_some h
  rw [RuleTable.walkFrom, hs]
  simp only [hr, if_true]
  cases hact : r.action with
  | deliver c => rfl
  | discard => rfl
  | tee c => rw [hact] at ha; cases ha
  | count => rw [hact] at ha; cases ha

/-- A slot whose action does not end the walk: it is applied, and a TEE names the tee when none is named yet (R10). -/
theorem RuleTable.walkFrom_passes {a : Action} (h : t.actionAt x i = some a) (ha : a.ends = false) :
    t.walkFrom x (i :: is) tee applied = t.walkFrom x is (tee.or a.teeChannel) (applied ++ [i]) := by
  obtain ⟨r, hs, hr, rfl⟩ := RuleTable.actionAt_some h
  rw [RuleTable.walkFrom, hs]
  simp only [hr, if_true]
  cases hact : r.action with
  | deliver c => rw [hact] at ha; cases ha
  | discard => rw [hact] at ha; cases ha
  | tee c => rfl
  | count => rw [Action.teeChannel, Option.or_none]

/-- Slots that do not end the walk only add to the applied list and name the tee (R9, R10, R15). -/
theorem RuleTable.walkFrom_append : ∀ (js is : List RuleId) (tee : Option ChannelId) (applied : List RuleId),
    (∀ j ∈ js, ∀ a, t.actionAt x j = some a → a.ends = false) →
    t.walkFrom x (js ++ is) tee applied =
      t.walkFrom x is (tee.or (t.tees x js).head?) (applied ++ t.appliedOf x js)
  | [], is, tee, applied, _ => by simp [RuleTable.tees, RuleTable.appliedOf]
  | j :: js, is, tee, applied, h => by
    have ih := fun tee applied =>
      RuleTable.walkFrom_append js is tee applied fun k hk => h k (List.mem_cons_of_mem _ hk)
    rw [List.cons_append]
    cases hj : t.actionAt x j with
    | none =>
      rw [RuleTable.walkFrom_none _ _ _ hj, ih]
      simp [RuleTable.tees, RuleTable.appliedOf, hj]
    | some a =>
      rw [RuleTable.walkFrom_passes _ _ _ hj (h j List.mem_cons_self a hj), ih]
      cases ht : a.teeChannel <;> simp [RuleTable.tees, RuleTable.appliedOf, hj, ht]

/-- The end of the slots: the default action (R11). -/
theorem RuleTable.walkFrom_nil : t.walkFrom x [] tee applied =
    { primary := t.defaultAction.primary, tee := tee, applied := applied } := by
  rw [RuleTable.walkFrom]
  cases t.defaultAction <;> rfl

end

/-- A strictly ascending list, cut at one of its members. -/
theorem ascending_split {n : Nat} {i : Fin n} : ∀ {l : List (Fin n)}, l.Pairwise (· < ·) → i ∈ l →
    ∃ rest, l = l.filter (fun j => decide (j.1 < i.1)) ++ i :: rest
  | a :: l, h, hi => by
    obtain ⟨hal, hl⟩ := List.pairwise_cons.1 h
    obtain rfl | hi := List.mem_cons.1 hi
    · have none_before : l.filter (fun j => decide (j.1 < i.1)) = [] :=
        List.filter_eq_nil_iff.2 fun j hj => by have := hal j hj; simp; exact this.le
      exact ⟨l, by rw [List.filter_cons_of_neg (by simp), none_before]; rfl⟩
    · obtain ⟨rest, hr⟩ := ascending_split hl hi
      have : a.1 < i.1 := hal i hi
      exact ⟨rest, by rw [List.filter_cons_of_pos (by simpa using this), List.cons_append, ← hr]⟩

/-- A walk that slot `i` ends (R8, R9). -/
theorem RuleTable.walk_ends {t : RuleTable} {x : Record} {i : RuleId} {a : Action}
    (hbefore : ∀ j ∈ (List.finRange 48).filter (fun j => decide (j.1 < i.1)), ∀ b, t.actionAt x j = some b →
      b.ends = false) (ha : t.actionAt x i = some a) (he : a.ends = true) :
    t.walk x = { primary := a.primary
                 tee := (t.tees x ((List.finRange 48).filter fun j => decide (j.1 < i.1))).head?
                 applied := t.appliedOf x ((List.finRange 48).filter fun j => decide (j.1 < i.1)) ++ [i] } := by
  obtain ⟨rest, hr⟩ := ascending_split (List.pairwise_lt_finRange 48) (List.mem_finRange i)
  unfold RuleTable.walk
  rw [hr, RuleTable.walkFrom_append _ _ _ _ hbefore, RuleTable.walkFrom_ends _ _ _ ha he, ← hr]
  simp

/-- A walk that no slot ends (R8, R11). -/
theorem RuleTable.walk_default {t : RuleTable} {x : Record}
    (h : ∀ j b, t.actionAt x j = some b → b.ends = false) :
    t.walk x = { primary := t.defaultAction.primary, tee := (t.tees x (List.finRange 48)).head?
                 applied := t.appliedOf x (List.finRange 48) } := by
  have := RuleTable.walkFrom_append (List.finRange 48) [] none [] fun j _ => h j
  rw [List.append_nil, RuleTable.walkFrom_nil] at this
  unfold RuleTable.walk
  rw [this]
  simp

/-- When a rule applies (R2 to R6): each of its terms is true of the record. -/
theorem Rule.appliesTo_iff (r : Rule) (bins : Vector (BitVec 64) 4) (x : Record) :
    r.appliesTo bins x = true ↔ (r.trunk = .either ∨ r.trunk = .only x.trunk)
      ∧ x.address &&& r.addrMask = r.addrValue &&& r.addrMask
      ∧ r.kindLow.toNat ≤ x.kind.toNat ∧ x.kind.toNat ≤ r.kindHigh.toNat
      ∧ r.lenMin ≤ x.payload.length ∧ x.payload.length ≤ r.lenMax
      ∧ (∀ w, r.window = some w → w.holds x.payload = true)
      ∧ (∀ u, r.sum = some u → u.holds x.payload = true)
      ∧ ∀ u, r.set = some u → u.holds bins x.payload = true := by
  unfold Rule.appliesTo
  simp only [Bool.and_eq_true, decide_eq_true_eq, TrunkTerm.holds_iff, maskedEqual_iff, absentOr_iff, and_assoc]

/-- The delivery set without a primary is the tee (R12). -/
theorem Walk.deliverySet_of_none {w : Walk} (h : w.primary = none) : w.deliverySet = w.tee.toList := by
  obtain ⟨primary, tee, applied⟩ := w
  obtain rfl : primary = none := h
  cases tee <;> rfl

/-- The delivery set with a primary (R12). -/
theorem Walk.deliverySet_of_some {w : Walk} {p : ChannelId} (h : w.primary = some p) :
    w.deliverySet = p :: w.tee.toList.filter (· ≠ p) := by
  obtain ⟨primary, tee, applied⟩ := w
  obtain rfl : primary = some p := h
  cases tee with
  | none => rfl
  | some c => by_cases hc : p = c <;> simp [Walk.deliverySet, hc, eq_comm]

/-- Settles O25. The terms are read one by one; the walk is cut at the slot that ends it, since the slots before it only
add to the applied list and name the tee. -/
theorem walkOfTheActiveTable : Obligations.WalkOfTheActiveTable := by
  unfold Obligations.WalkOfTheActiveTable
  intro t x
  extract_lets b matched applies ends tees before w
  have happlies : ∀ j, applies j = t.actionAt x j := fun j => by
    unfold RuleTable.actionAt; simp only [applies]; cases t.slots[j] <;> rfl
  have hends : ∀ j, ends j = (t.actionAt x j).any Action.ends := fun j => by
    simp only [ends, happlies]; cases t.actionAt x j with
    | none => rfl
    | some a => cases a <;> rfl
  have htees : ∀ js, tees js = t.tees x js := fun js => by
    refine List.filterMap_congr fun j _ => ?_
    rw [happlies]; cases t.actionAt x j with
    | none => rfl
    | some a => cases a <;> rfl
  have passes : ∀ {j}, ends j = false → ∀ a, t.actionAt x j = some a → a.ends = false := fun hj a ha => by
    rwa [hends, ha] at hj
  simp only [happlies, htees]
  refine ⟨fun r => ?_, fun i hbefore hi => ?_, fun hnone => ?_, Walk.deliverySet_of_none, fun p hp => ?_⟩
  · simp only [Rule.appliesTo_iff, WindowTerm.holds_iff, SumTerm.holds_iff, SetTerm.holds_iff]
    rfl
  · rw [hends, Option.any_eq_true] at hi
    obtain ⟨a, ha, he⟩ := hi
    have hw : w = _ := RuleTable.walk_ends (fun j hj => passes (hbefore j hj)) ha he
    rw [hw, ha]
    refine ⟨rfl, rfl, fun c hc => ?_, fun hd => ?_⟩
    · cases hc; rfl
    · cases hd; rfl
  · have hw : w = _ := RuleTable.walk_default fun j => passes (hnone j)
    rw [hw]
    refine ⟨rfl, rfl, fun c hc => ?_, fun hd => ?_⟩
    · rw [hc]; rfl
    · rw [hd]; rfl
  · rw [Walk.deliverySet_of_some hp]
    refine ⟨fun htee => ?_, fun c hc hcp => ?_⟩
    · rcases htee with htee | htee <;> simp [htee]
    · simp [hc, hcp]

end Sys2Proof.Machine
end

section
/-! The sequence check of a HIT's next record, and the outcome of a screened record (R13 to R16, R79 to R82). -/

namespace Sys2Proof.Machine

/-- A command out of reset is its effect and the end of every command. -/
theorem perform_awake {s : State} (h : s.inReset = false) (f : State → State) :
    perform f s = .next ((f s).finish false) := by
  rw [perform, h]
  rfl

/-! ### The outcome of a record at the roster and at the screening unit -/

section
variable {s : State} {i : StationId} {st : Station}

theorem State.mapStation_of_some (h : s.roster[i] = some st) (f : Station → Station) :
    s.mapStation i f = { s with roster := setAt s.roster i (some (f st)) } := by
  rw [State.mapStation, h]
  rfl

theorem State.countStation_of_some (h : s.roster[i] = some st) (f : StationCounters → StationCounters) :
    s.countStation i f = { s with roster := setAt s.roster i (some { st with counters := f st.counters }) } :=
  State.mapStation_of_some h _

/-- The station moves its baseline, and its gap is counted and reported (R81). -/
theorem State.acceptRecord_of_some (h : s.roster[i] = some st) (seq : Byte) (gap : Nat) :
    s.acceptRecord i seq gap =
      (let moved : State := { s with roster := setAt s.roster i (some { st with
        baseline := some seq
        counters := { st.counters with accepted := bump st.counters.accepted 1
                                       gapLost := bump st.counters.gapLost gap } }) }
       if gap = 0 then moved else moved.raise (.sequence i gap 0)) := by
  rw [State.acceptRecord, State.mapStation_of_some h]

end

/-- An outcome that is acted upon counts the rules applied, if the generation is still the walk's (R14, R16). -/
theorem State.outcome_true (s : State) (generation : Nat) (applied : List RuleId) :
    s.outcome true generation applied = { s with
      active := if s.active.generation = generation then { s.active with hits := raiseHits s.active.hits applied }
        else s.active } := by
  simp only [State.outcome, ActiveTable.outcome, true_and]

theorem State.outcome_same_generation {s : State} {generation : Nat} (h : s.active.generation = generation)
    (applied : List RuleId) :
    s.outcome true generation applied = { s with
      active := { s.active with hits := raiseHits s.active.hits applied } } := by
  rw [State.outcome_true, if_pos h]

/-- An outcome that is not acted upon counts no rule (R16). -/
theorem State.outcome_false (s : State) (generation : Nat) (applied : List RuleId) :
    s.outcome false generation applied = s := by
  simp only [State.outcome, ActiveTable.outcome, Bool.false_eq_true, false_and, if_false]

/-! ### The sequence check (R79) -/

theorem checkSequence_duplicate {baseline : Option Byte} {seq : Byte}
    (h : ∃ b, baseline = some b ∧ (seq - b = 0#8 ∨ 128 ≤ (seq - b).toNat)) :
    checkSequence baseline seq = .duplicate := by
  obtain ⟨b, rfl, hb⟩ := h
  exact if_pos hb

/-- The gap that a record number leaves after the baseline (R79). -/
def gapAfter : Option Byte → Byte → Nat
  | some b, seq => (seq - b).toNat - 1
  | none, _ => 0

theorem checkSequence_passes {baseline : Option Byte} {seq : Byte}
    (h : ¬ ∃ b, baseline = some b ∧ (seq - b = 0#8 ∨ 128 ≤ (seq - b).toNat)) :
    checkSequence baseline seq = .passes (gapAfter baseline seq) := by
  cases baseline with
  | none => rfl
  | some b => exact if_neg fun hb => h ⟨b, rfl, hb⟩

section
variable {s : State} {k : TrunkId} {turn : Turn} {stamp : Time} {r : ReplyRecord} {todo : List ReplyRecord}
  {st : Station}

theorem sequenceCheck_duplicate (hturn : (s.trunks[k]).turn = some turn)
    (hstage : turn.stage = .replied stamp (r :: todo) none) (hst : s.roster[turn.slot] = some st)
    (hv : checkSequence st.baseline r.seq = .duplicate) :
    sequenceCheck k s = (s.setStage k turn (.replied stamp todo none)).countStation turn.slot fun c =>
      { c with duplicates := bump c.duplicates 1 } := by
  simp only [sequenceCheck, hturn, hstage, hst, hv]

theorem sequenceCheck_passes (hturn : (s.trunks[k]).turn = some turn)
    (hstage : turn.stage = .replied stamp (r :: todo) none) (hst : s.roster[turn.slot] = some st) {gap : Nat}
    (hv : checkSequence st.baseline r.seq = .passes gap) :
    sequenceCheck k s = s.screen k turn (r.toRecord turn.slot st stamp) gap stamp todo := by
  simp only [sequenceCheck, hturn, hstage, hst, hv]

end

section
variable {s : State} (k : TrunkId) (turn : Turn) {x : Record} (gap : Nat) (stamp : Time) (todo : List ReplyRecord)

/-- A record with a delivery set waits for its admission (R1). -/
theorem State.screen_waits (h : (s.active.table.walk x).deliverySet ≠ []) :
    s.screen k turn x gap stamp todo =
      (s.setStage k turn (.replied stamp todo (some
        { record := x, gap := gap, channels := (s.active.table.walk x).deliverySet
          applied := (s.active.table.walk x).applied, generation := s.active.generation }))).countLink
        fun c => { c with screened := bump c.screened 1 } := by
  rw [State.screen]
  exact if_neg fun he => h (List.isEmpty_iff.1 he)

/-- A record with an empty delivery set is settled at once (R13). -/
theorem State.screen_settles (h : (s.active.table.walk x).deliverySet = []) :
    s.screen k turn x gap stamp todo =
      (((s.setStage k turn (.replied stamp todo none)).countLink fun c =>
        { c with screened := bump c.screened 1, discarded := bump c.discarded 1 }).outcome true s.active.generation
          (s.active.table.walk x).applied).acceptRecord turn.slot x.seq gap := by
  rw [State.screen, h]
  rfl

end

/-- Settles O46. -/
theorem sequenceCheckOfNextRecord : Obligations.SequenceCheckOfNextRecord := by
  unfold Obligations.SequenceCheckOfNextRecord
  intro s k turn stamp r todo st hreset hturn hstage hst
  extract_lets x stage duplicate gap record walk counted hits
  have hexec : exec (.sequenceCheck k) s = .next ((sequenceCheck k s).finish false) := perform_awake hreset _
  have hgap : gap = gapAfter st.baseline r.seq := by
    simp only [gap]; cases st.baseline <;> rfl
  have passes : ¬ duplicate → sequenceCheck k s = s.screen k turn record gap stamp todo := fun hd => by
    rw [hgap]; exact sequenceCheck_passes hturn hstage hst (checkSequence_passes hd)
  refine ⟨fun hd => ?_, fun hd hset => ?_, fun hd hset => ?_⟩
  · rw [hexec, sequenceCheck_duplicate hturn hstage hst (checkSequence_duplicate hd),
      State.countStation_of_some (st := st)]
    · rfl
    · exact hst
  · rw [hexec, passes hd, State.screen_waits _ _ _ _ _ hset]
    rfl
  · rw [hexec, passes hd, State.screen_settles _ _ _ _ _ hset, State.outcome_same_generation,
      State.acceptRecord_of_some (st := st)]
    · rfl
    · exact hst
    · rfl

end Sys2Proof.Machine
end

section
/-! The admission of a screened record and its outcome (R33 to R36, R81, R82). -/

namespace Sys2Proof.Machine

/-! ### The DEFER test (R33, R36) -/

theorem Vector.toList_eq_map_finRange {α : Type} {n : Nat} (v : Vector α n) :
    v.toList = (List.finRange n).map fun i => v[i] :=
  List.ext_getElem (by simp) fun i h1 h2 => by simp

theorem State.unmetReserve_eq (s : State) :
    s.unmetReserve = ((List.finRange 8).map fun c : ChannelId => (s.channels[c]).unmet).sum := by
  rw [State.unmetReserve, Vector.toList_eq_map_finRange, List.map_map]
  rfl

theorem State.obtainable_iff (s : State) (channels : List ChannelId) :
    s.obtainable channels = true ↔ 1 ≤ s.store.free ∧ (s.unmetReserve < s.store.free
      ∨ ∃ c ∈ channels, (s.channels[c]).usage < (s.channels[c]).effectiveReserve) := by
  simp only [State.obtainable, Bool.and_eq_true, Bool.or_eq_true, decide_eq_true_eq, List.any_eq_true]

theorem State.deferTest_iff (s : State) (channels : List ChannelId) :
    s.deferTest channels = true ↔ ∃ c ∈ channels, (s.channels[c]).config.policy = .defer
      ∧ ((s.channels[c]).config.depth ≤ (s.channels[c]).queue.length ∨ ¬ s.obtainable channels = true) := by
  simp only [State.deferTest, Channel.full, List.any_eq_true, Bool.and_eq_true, Bool.or_eq_true, decide_eq_true_eq,
    Bool.not_eq_true, Bool.not_eq_true']

/-! ### How an admission ends (R34 to R39) -/

section
variable {s : State} {r : Record} {channels : List ChannelId}

/-- A deferred record leaves the store and the channels as they were (R36). -/
theorem State.takeAdmission_deferred (hkept : (channels.filter fun c => (s.channels[c]).enabled) ≠ [])
    (hdefer : s.deferTest (channels.filter fun c => (s.channels[c]).enabled) = true) :
    s.takeAdmission r channels = (.deferred, s) := by
  rw [State.takeAdmission]
  exact (if_neg fun h => hkept (List.isEmpty_iff.1 h)).trans (if_pos hdefer)

theorem Admission.place_ne_deferred (a : Admission) (r : Record) : (a.place r).1 ≠ .deferred := by
  unfold Admission.place
  split <;> simp

/-- Only the DEFER test defers (R36). -/
theorem State.takeAdmission_ne_deferred (h : (channels.filter fun c => (s.channels[c]).enabled) ≠ [] →
    s.deferTest (channels.filter fun c => (s.channels[c]).enabled) ≠ true) :
    (s.takeAdmission r channels).1 ≠ .deferred := by
  unfold State.takeAdmission
  extract_lets start after
  split
  · simp
  · rename_i hkept
    have hdefer : ¬ s.deferTest start.kept = true := h fun he => hkept (List.isEmpty_iff.2 he)
    rw [if_neg hdefer]
    split
    · simp
    · exact Admission.place_ne_deferred _ r

end

section
variable {s : State} (k : TrunkId) {turn : Turn} {stamp : Time} {todo : List ReplyRecord} {x : Screened} {st : Station}

theorem admissionStep_of_screened (hturn : (s.trunks[k]).turn = some turn)
    (hstage : turn.stage = .replied stamp todo (some x)) :
    admissionStep k s = (s.takeAdmission x.record x.channels).2.afterAdmission k turn stamp todo x
      (s.takeAdmission x.record x.channels).1 := by
  simp only [admissionStep, hturn, hstage]

/-- An outcome that is not a deferral is acted upon (R16, R81). -/
theorem State.afterAdmission_acted {ending : AdmissionEnd} (h : ending ≠ .deferred)
    (hst : s.roster[turn.slot] = some st) : s.afterAdmission k turn stamp todo x ending =
      (let accepted : State := { s.setStage k turn (.replied stamp todo none) with
        active := if s.active.generation = x.generation then
          { s.active with hits := raiseHits s.active.hits x.applied } else s.active
        roster := setAt s.roster turn.slot (some { st with
          baseline := some x.record.seq
          counters := { st.counters with accepted := bump st.counters.accepted 1
                                         gapLost := bump st.counters.gapLost x.gap } }) }
       if x.gap = 0 then accepted else accepted.raise (.sequence turn.slot x.gap 0)) := by
  have acted : s.afterAdmission k turn stamp todo x ending = ((s.setStage k turn (.replied stamp todo none)).outcome
      true x.generation x.applied).acceptRecord turn.slot x.record.seq x.gap := by
    cases ending with
    | deferred => exact absurd rfl h
    | stored => rfl
    | dropped => rfl
  rw [acted, State.outcome_true, State.acceptRecord_of_some (st := st)]
  · rfl
  · exact hst

/-- A deferral ends the walk and is counted (R16, R82). -/
theorem State.afterAdmission_deferred (hst : s.roster[turn.slot] = some st) :
    s.afterAdmission k turn stamp todo x .deferred = { s.setStage k turn (.replied stamp [] none) with
      roster := setAt s.roster turn.slot (some { st with
        counters := { st.counters with deferrals := bump st.counters.deferrals 1 } }) } := by
  rw [State.afterAdmission, State.outcome_false, State.countStation_of_some (st := st)]
  · rfl
  · exact hst

end

/-- Settles O47. The statement's `defers` is the DEFER test on the enabled channels; what else the admission did to the
channels and the store leaves the roster, the trunks and the active table as they were. -/
theorem admissionOutcomeIsTaken : Obligations.AdmissionOutcomeIsTaken := by
  unfold Obligations.AdmissionOutcomeIsTaken
  intro s k turn stamp todo x st hreset hturn hstage hst
  extract_lets y stage enabled reserve obtainable defers stationCounters admitted hits activeTable accepted
  have hexec : exec (.admission k) s = .next ((admissionStep k s).finish false) := perform_awake hreset _
  have hobtain : s.obtainable enabled = true ↔ obtainable := by
    rw [State.obtainable_iff, State.unmetReserve_eq]; rfl
  have hdefers : defers ↔ enabled ≠ [] ∧ s.deferTest enabled = true := by
    rw [State.deferTest_iff, hobtain]
  refine ⟨fun hd => ?_, fun hd => ?_⟩
  · obtain ⟨hkept, hdefer⟩ := hdefers.1 hd
    rw [hexec, admissionStep_of_screened k hturn hstage, State.takeAdmission_deferred hkept hdefer,
      State.afterAdmission_deferred k hst]
    rfl
  · have acted : (s.takeAdmission x.record x.channels).1 ≠ .deferred :=
      State.takeAdmission_ne_deferred fun hkept hdefer => hd (hdefers.2 ⟨hkept, hdefer⟩)
    have hroster : admitted.roster = s.roster := by simp [admitted]
    have htrunks : admitted.trunks = s.trunks := by simp [admitted]
    have hactive : admitted.active = s.active := by simp [admitted]
    have hst' : admitted.roster[turn.slot] = some st := by rw [hroster, hst]
    rw [hexec, admissionStep_of_screened k hturn hstage, State.afterAdmission_acted k acted hst', State.setStage,
      State.setTrunk, htrunks, hroster, hactive]
    rfl

end Sys2Proof.Machine
end

section
/-! CHANNEL_CREDIT and the hold expiry of a channel (R51, R52, R54). -/

namespace Sys2Proof.Machine

/-- A channel replaced and then evaluated for readiness stands with its offer made or withdrawn (R54). -/
theorem State.evalReady_setChannel (s : State) (c : ChannelId) (x : Channel) :
    (s.setChannel c x).evalReady c = { s with channels := setAt s.channels c { x with offered := x.ready } } := by
  rw [State.evalReady, State.setChannel_get, State.setChannel_setChannel]
  rfl

/-- The time base comes to the time at which an expiry is taken (R164). -/
theorem State.advanceTo_eq (s : State) (due : Time) : s.advanceTo due = { s with timeBase := s.expiryAt due } := by
  have htime : (if reached due s.timeBase then s.timeBase else due) = s.expiryAt due :=
    if_congr decide_eq_true_iff rfl rfl
  rw [State.advanceTo, htime]

/-- CHANNEL_CREDIT of a channel that is there, at its owner (R51). -/
theorem channelCredit_of_index {s : State} {tag c8 n : Byte} {c : ChannelId} (hc : c8.toNat = c.1) :
    channelCredit tag [c8, n] s =
      let x := s.channels[c]
      let y : Channel := { x with credit := min 255 (x.credit + n.toNat) }
      if n = 0#8 then s.answer 0x19#8 tag .badArg []
      else if x.enabled = false then s.answer 0x19#8 tag .wrongState []
      else ({ s with channels := setAt s.channels c { y with offered := y.ready } } : State).answer 0x19#8 tag .ok
        [byteOf (min 255 (x.credit + n.toNat))] := by
  have hindex : index? 8 (byteAt [c8, n] 0) = some c := index?_eq hc
  have hn : natAt [c8, n] 1 = n.toNat := rfl
  have hzero : n.toNat = 0 ↔ n = 0#8 := BitVec.toNat_inj (y := 0#8)
  simp only [channelCredit, hindex, hn, hzero, State.evalReady_setChannel, Config.maxCredit, Bool.not_eq_true']

/-- Settles O28, by the checks of CHANNEL_CREDIT in their order and by whether the hold expiry is armed. -/
theorem creditAndHoldExpiry : Obligations.CreditAndHoldExpiry := by
  unfold Obligations.CreditAndHoldExpiry
  refine ⟨fun s tag c8 n h => ⟨fun hbad => ?_, fun c hc => ?_⟩, fun s c hreset => ⟨fun hdue => ?_, fun due hdue => ?_⟩⟩
  · refine perform_answered s (owner := channelCredit tag [c8, n]) h rfl rfl (by simp) ?_
    have hindex : index? 8 (byteAt [c8, n] 0) = none := index?_none hbad
    rw [channelCredit, hindex]
  · extract_lets x y
    have answered : ∀ (v : State) (status : Status) (results : List Byte), v.link = s.link →
        channelCredit tag [c8, n] (s.enter 0x19#8 tag) = (v.enter 0x19#8 tag).answer 0x19#8 tag status results →
        exec (.channelCredit tag [c8, n]) s = .next ((v.replied 0x19#8 tag status results).finish false) :=
      fun v _ _ hv ho => perform_answered v h hv rfl (by simp) ho
    have howner := channelCredit_of_index (s := s.enter 0x19#8 tag) (tag := tag) (n := n) hc
    split
    · rename_i hn
      exact answered s _ _ rfl (howner.trans (if_pos hn))
    · rename_i hn
      split
      · rename_i hoff
        exact answered s _ _ rfl ((howner.trans (if_neg hn)).trans (if_pos hoff))
      · rename_i hon
        exact answered { s with channels := setAt s.channels c { y with offered := y.ready } } _ _ rfl
          ((howner.trans (if_neg hn)).trans (if_neg hon))
  · have hnone : holdExpiry c s = s := by rw [holdExpiry, hdue]
    exact (perform_awake hreset (holdExpiry c)).trans (by rw [hnone])
  · extract_lets x
    have hx : holdExpiry c s =
        ((s.advanceTo due).setChannel c { x with holdRunOut := true, holdDue := none }).evalReady c := by
      rw [holdExpiry, hdue]
    have hready : ({ x with holdRunOut := true, holdDue := none } : Channel).ready =
        (x.enabled && decide (1 ≤ x.credit) && !x.queue.isEmpty && x.inflight.isEmpty) := by
      simp only [Channel.ready, Bool.or_true, Bool.and_true]
    refine (perform_awake hreset (holdExpiry c)).trans ?_
    rw [hx, State.evalReady_setChannel, hready, State.advanceTo_eq]

end Sys2Proof.Machine
end

section
/-! CHANNEL_CONFIG that enables a channel (R46). -/

namespace Sys2Proof.Machine

/-- The policy that a byte names is the one with that code (Table 10-4). -/
theorem Policy.ofCode_code (p : Policy) : Policy.ofCode p.code = some p := by cases p <;> rfl

/-- A byte above the last policy's code names none. -/
theorem Policy.ofCode_none {b : Byte} (h : 2 < b.toNat) : Policy.ofCode b = none := by
  unfold Policy.ofCode
  split
  · omega
  · omega
  · omega
  · rfl

/-- A byte in the range of the policies' codes names one of them. -/
theorem Policy.exists_code {b : Byte} (h : b.toNat ≤ 2) : ∃ p : Policy, p.code = b := by
  have hb : b.toNat = 0 ∨ b.toNat = 1 ∨ b.toNat = 2 := by omega
  rcases hb with hb | hb | hb
  · exact ⟨.keepOld, (BitVec.eq_of_toNat_eq hb).symm⟩
  · exact ⟨.keepNew, (BitVec.eq_of_toNat_eq hb).symm⟩
  · exact ⟨.defer, (BitVec.eq_of_toNat_eq hb).symm⟩

/-- The other channels' reserves, summed over the channels but `c` (R46). -/
theorem State.otherReserves_eq (s : State) (c : ChannelId) :
    s.otherReserves c = (((List.finRange 8).filter fun d => decide (d ≠ c)).map fun d =>
      (s.channels[d]).config.reserve).sum := by
  unfold State.otherReserves
  generalize List.finRange 8 = ds
  induction ds with
  | nil => rfl
  | cons d ds ih =>
    by_cases hd : d = c
    · simpa [hd] using ih
    · simpa [hd] using ih

/-- The settings of an enabling CHANNEL_CONFIG body are in range, the enabled flag among them (R46, R168). -/
def SettingsInRange (flag depth reserve policy trigger : Byte) (hold : Nat) (high low : Byte) : Prop :=
  flag = 1#8 ∧ 1 ≤ depth.toNat ∧ depth.toNat ≤ 64 ∧ reserve.toNat ≤ 64 ∧ policy.toNat ≤ 2 ∧ 1 ≤ trigger.toNat
    ∧ trigger.toNat ≤ 8 ∧ hold ≤ 1000 ∧ 1 ≤ high.toNat ∧ high.toNat ≤ depth.toNat ∧ low.toNat < high.toNat

section
variable {s : State} {tag c8 flag depth reserve policy trigger holdLow holdHigh high low : Byte}

/-- Settings in range are decoded as they stand in the body. -/
theorem decodeChannelConfig_of_inRange {p : Policy} (hp : p.code = policy)
    (h : SettingsInRange flag depth reserve policy trigger (holdLow.toNat + 256 * holdHigh.toNat) high low) :
    decodeChannelConfig [c8, flag, depth, reserve, policy, trigger, holdLow, holdHigh, high, low] =
      some { depth := depth.toNat, reserve := reserve.toNat, policy := p, trigger := trigger.toNat
             hold := holdLow.toNat + 256 * holdHigh.toNat, high := high.toNat, low := low.toNat } := by
  obtain ⟨hflag, hd1, hd64, hreserve, -, htrigger, ht8, hhold, hhigh, hhd, hlow⟩ := h
  have hpolicy : Policy.ofCode (byteAt [c8, flag, depth, reserve, policy, trigger, holdLow, holdHigh, high, low] 4) =
    some p := hp ▸ p.ofCode_code
  unfold decodeChannelConfig
  rw [hpolicy]
  exact if_pos ⟨congrArg BitVec.toNat hflag, hd1, hd64, hreserve, htrigger, ht8, hhold, hhigh, hhd, hlow⟩

/-- Settings that are not all in range are not decoded. -/
theorem decodeChannelConfig_none
    (h : ¬ SettingsInRange flag depth reserve policy trigger (holdLow.toNat + 256 * holdHigh.toNat) high low) :
    decodeChannelConfig [c8, flag, depth, reserve, policy, trigger, holdLow, holdHigh, high, low] = none := by
  unfold decodeChannelConfig
  by_cases hpolicy : policy.toNat ≤ 2
  · obtain ⟨p, rfl⟩ := Policy.exists_code hpolicy
    have hp : Policy.ofCode (byteAt [c8, flag, depth, reserve, p.code, trigger, holdLow, holdHigh, high, low] 4) =
      some p := p.ofCode_code
    rw [hp]
    refine if_neg fun ⟨hflag, hd1, hd64, hreserve, htrigger, ht8, hhold, hhigh, hhd, hlow⟩ => h ?_
    exact ⟨BitVec.eq_of_toNat_eq hflag, hd1, hd64, hreserve, hpolicy, htrigger, ht8, hhold, hhigh, hhd, hlow⟩
  · have hp : Policy.ofCode (byteAt [c8, flag, depth, reserve, policy, trigger, holdLow, holdHigh, high, low] 4) =
      none := Policy.ofCode_none (Nat.not_le.1 hpolicy)
    rw [hp]

end

section
variable {s : State} (tag : Byte) {body : List Byte} {c : ChannelId} {config : ChannelConfig}

/-- A channel or settings out of range are refused first (R46). -/
theorem channelEnable_badArg (h : index? 8 (byteAt body 0) = none ∨ decodeChannelConfig body = none) :
    channelEnable tag body s = s.answer 0x18#8 tag .badArg [] := by
  unfold channelEnable
  rcases h with h | h
  · rw [h]
  · rw [h]
    split
    · rename_i hnone
      cases hnone
    · rfl

/-- An enabling CHANNEL_CONFIG in range, at its owner: BUSY, then NO_ROOM, then the settings (R46). -/
theorem channelEnable_of_inRange (hc : index? 8 (byteAt body 0) = some c)
    (hconfig : decodeChannelConfig body = some config) :
    channelEnable tag body s =
      let x := s.channels[c]
      let y : Channel := { x with config := config, enabled := true, level := .normal }
      if x.enabled ∧ x.usage ≠ 0 then s.answer 0x18#8 tag .busy []
      else if Config.maxReserves < s.otherReserves c + config.reserve then s.answer 0x18#8 tag .noRoom []
      else ({ s with channels := setAt s.channels c { y with offered := y.ready } } : State).answer 0x18#8 tag .ok
        [0#8] := by
  simp only [channelEnable, hc, hconfig, State.evalReady_setChannel]

end

end Sys2Proof.Machine

namespace Sys2Proof.Laws

open Sys2Proof.Machine

/-- Settles O26. Any policy with the body's code names the settings, and the checks before them do not depend on it. -/
theorem channelEnable : Obligations.ChannelEnable := by
  unfold Obligations.ChannelEnable
  intro s tag c8 flag depth reserve policy trigger holdLow holdHigh high low h hflag
  extract_lets hold body inRange answers
  have answered : ∀ (v : State) (status : Status) (results : List Byte), v.link = s.link →
      Machine.channelEnable tag body (s.enter 0x18#8 tag) = (v.enter 0x18#8 tag).answer 0x18#8 tag status results →
      answers v status results := fun v _ _ hv ho => perform_answered v h hv rfl (by simp [body]) ho
  have first : byteAt body 0 = c8 := rfl
  refine ⟨fun hbad => answered s _ _ rfl (channelEnable_badArg tag ?_), ?_⟩
  · by_cases hc8 : c8.toNat ≤ 7
    · exact .inr (decodeChannelConfig_none fun hsettings => hbad ⟨hc8, hsettings⟩)
    · exact .inl (first ▸ index?_none (Nat.not_le.1 hc8))
  · rintro ⟨-, hsettings⟩ c hc
    extract_lets x others
    have owner {p : Policy} (hp : p.code = policy) :=
      channelEnable_of_inRange (s := s.enter 0x18#8 tag) tag (first ▸ index?_eq hc)
        (decodeChannelConfig_of_inRange (c8 := c8) hp hsettings)
    have hothers : (s.enter 0x18#8 tag).otherReserves c = others := s.otherReserves_eq c
    rw [hothers] at owner
    obtain ⟨q, hq⟩ : ∃ q : Policy, q.code = policy := by
      obtain ⟨-, -, -, -, hpolicy, -⟩ := hsettings
      exact Policy.exists_code hpolicy
    refine ⟨fun hon husage => answered s _ _ rfl ((owner hq).trans (if_pos ⟨hon, husage⟩)), fun hfree => ?_⟩
    have hidle : ¬ (x.enabled ∧ x.usage ≠ 0) := by
      rintro ⟨hon, husage⟩
      rcases hfree with hoff | hzero
      · rw [hon] at hoff; cases hoff
      · exact husage hzero
    refine ⟨fun hfull => answered s _ _ rfl (((owner hq).trans (if_neg hidle)).trans (if_pos hfull)),
      fun hroom p hp => ?_⟩
    exact answered { s with channels := setAt s.channels c _ } _ _ rfl
      (((owner hp).trans (if_neg hidle)).trans (if_neg (Nat.not_lt.2 hroom)))

end Sys2Proof.Laws
end

section
/-! The five queries (R61, R66, R69, R99, R122, Tables 10-8 and 10-9). -/

namespace Sys2Proof.Machine

/-! ### Bytes as the reports write them -/

/-- A byte that carries a number is that number's byte. -/
theorem byteOf_of_toNat {b : Byte} {n : Nat} (h : b.toNat = n) : byteOf n = b := by
  rw [← h]; exact BitVec.ofNat_toNat ..

/-! ### What the reports say -/

/-- The turn of some trunk is in flight for slot `i`, as STATION_QUERY's flag says it (R69, R72). -/
theorem State.turnInFlight_eq (s : State) (i : StationId) :
    s.turnInFlight i = s.trunks.toList.any fun x => decide ((x.turn.map Turn.slot) = some i) := by
  unfold State.turnInFlight
  congr 1
  funext x
  cases x.turn with
  | none => rfl
  | some turn => exact Bool.eq_iff_iff.2 (by simp)

/-- What TRUNK_QUERY reports of the turn: the slot and the attempt, 0xFF and 0 with no turn in flight (R99). -/
theorem trunkReport_eq (k : TrunkId) (x : Trunk) :
    trunkReport k x = [byteOf k.1, x.state.code, x.cause.code, byteOf x.config.rate.1] ++ le16 x.config.timeout
      ++ [byteOf x.config.retries, byteOf x.config.missLimit] ++ le16 x.config.period ++ le16 x.roundCounter
      ++ [x.phase.code, (x.turn.map fun turn => byteOf turn.slot.1).getD 0xFF#8,
        (x.turn.map fun turn => byteOf turn.attempt).getD 0#8, byteOf x.echoRun] := by
  unfold trunkReport
  cases x.turn <;> rfl

/-- The place of an entry among its station's is one more than the number of them before it (R122). -/
theorem DirectiveQueue.place_eq {q : DirectiveQueue} {before after : List Directive} {d : Directive}
    (hq : q.entries = before ++ d :: after) (hfirst : ∀ e ∈ before, e.id ≠ d.id) :
    q.place d = (before.filter fun e => decide (e.slot = d.slot)).length + 1 := by
  have hs : q.ofStation d.slot = (before.filter fun e => decide (e.slot = d.slot))
      ++ d :: after.filter fun e => decide (e.slot = d.slot) := by
    simp [DirectiveQueue.ofStation, hq]
  have hnone : ¬ (before.filter fun e => decide (e.slot = d.slot)).findIdx (fun e => decide (e.id = d.id))
      < (before.filter fun e => decide (e.slot = d.slot)).length := by
    rw [List.findIdx_lt_length]
    exact fun ⟨e, he, hid⟩ => hfirst e (List.mem_of_mem_filter he) (of_decide_eq_true hid)
  unfold DirectiveQueue.place
  rw [hs, List.findIdx_append, if_neg hnone]
  simp [List.findIdx_cons]

/-- The oldest entry that holds an id is the one found. -/
theorem DirectiveQueue.find_eq {q : DirectiveQueue} {before after : List Directive} {d : Directive}
    (hq : q.entries = before ++ d :: after) (hfirst : ∀ e ∈ before, e.id ≠ d.id) : q.find d.id = some d := by
  unfold DirectiveQueue.find
  rw [hq, List.find?_append, List.find?_eq_none.2 (by simpa using hfirst)]
  simp

/-- The state of an entry and the state before its attachment, as DIRECTIVE_QUERY reports them (R122). -/
theorem directiveReport_eq {q : DirectiveQueue} {before after : List Directive} {d : Directive}
    (hq : q.entries = before ++ d :: after) (hfirst : ∀ e ∈ before, e.id ≠ d.id) (hlen : d.payload.length ≤ 16) :
    directiveReport q d = le16 d.id ++ [byteOf d.slot.1, byteOf d.number, byteOf d.limit, byteOf d.attempts,
      d.state.code, d.state.beforeCode, byteOf ((before.filter fun e => decide (e.slot = d.slot)).length + 1),
      byteOf d.payload.length] ++ (d.payload ++ List.replicate (16 - d.payload.length) 0#8) := by
  rw [directiveReport, DirectiveQueue.place_eq hq hfirst, padTo_of_ge hlen]

/-! ### The checks of a roster slot (R66) -/

section
variable {s : State} {b : Byte} {i : StationId} {st : Station}

theorem State.rosterCheck_badArg (h : 63 < b.toNat) : s.rosterCheck b = .error .badArg := by
  rw [State.rosterCheck, index?_none h]

theorem State.rosterCheck_notFound (hi : b.toNat = i.1) (h : s.roster[i] = none) :
    s.rosterCheck b = .error .notFound := by
  simp only [State.rosterCheck, index?_eq hi, h]

theorem State.rosterCheck_removing (hi : b.toNat = i.1) (h : s.roster[i] = some st) (hst : st.state = .removing) :
    s.rosterCheck b = .error .wrongState := by
  simp only [State.rosterCheck, index?_eq hi, h, hst, if_true]

theorem State.rosterCheck_of_station (hi : b.toNat = i.1) (h : s.roster[i] = some st) (hst : st.state ≠ .removing) :
    s.rosterCheck b = .ok (i, st) := by
  simp only [State.rosterCheck, index?_eq hi, h, hst, if_false]

end

/-! ### The queries at their owners -/

section
variable {s : State} {tag : Byte} (h : TakesRequest s tag)
include h

/-- CHANNEL_QUERY of a channel that is there (R61). -/
theorem exec_channelQuery_ok {b : Byte} {c : ChannelId} (hc : b.toNat = c.1) :
    exec (.channelQuery tag [b]) s =
      .next ((s.replied 0x1B#8 tag .ok (channelReport c s.channels[c])).finish false) := by
  refine perform_answered s (owner := channelQuery tag [b]) h rfl rfl (by simp) ?_
  have hindex : index? 8 (byteAt [b] 0) = some c := index?_eq hc
  simp only [channelQuery, hindex, State.enter_keeps]

/-- CHANNEL_QUERY of no channel (R61). -/
theorem exec_channelQuery_badArg {b : Byte} (hb : 7 < b.toNat) :
    exec (.channelQuery tag [b]) s = .next ((s.replied 0x1B#8 tag .badArg []).finish false) := by
  refine perform_answered s (owner := channelQuery tag [b]) h rfl rfl (by simp) ?_
  have hindex : index? 8 (byteAt [b] 0) = none := index?_none hb
  simp only [channelQuery, hindex]

/-- STATION_QUERY of a slot that fails its checks (R66, R69). -/
theorem exec_stationQuery_error {b : Byte} {status : Status} (hb : s.rosterCheck b = .error status) :
    exec (.stationQuery tag [b]) s = .next ((s.replied 0x22#8 tag status []).finish false) := by
  refine perform_answered s (owner := stationQuery tag [b]) h rfl rfl (by simp) ?_
  have hcheck : (s.enter 0x22#8 tag).rosterCheck (byteAt [b] 0) = .error status := hb
  simp only [stationQuery, hcheck]

/-- STATION_QUERY of a station (R69). -/
theorem exec_stationQuery_ok {b : Byte} {i : StationId} {st : Station} (hb : s.rosterCheck b = .ok (i, st)) :
    exec (.stationQuery tag [b]) s =
      .next ((s.replied 0x22#8 tag .ok (stationReport i st (s.turnInFlight i))).finish false) := by
  refine perform_answered s (owner := stationQuery tag [b]) h rfl rfl (by simp) ?_
  have hcheck : (s.enter 0x22#8 tag).rosterCheck (byteAt [b] 0) = .ok (i, st) := hb
  simp only [stationQuery, hcheck]
  rfl

/-- TRUNK_QUERY of a trunk that is there (R99). -/
theorem exec_trunkQuery_ok {b : Byte} {k : TrunkId} (hk : b.toNat = k.1) :
    exec (.trunkQuery tag [b]) s =
      .next ((s.replied 0x2B#8 tag .ok (trunkReport k s.trunks[k])).finish false) := by
  refine perform_answered s (owner := trunkQuery tag [b]) h rfl rfl (by simp) ?_
  have hindex : index? 2 (byteAt [b] 0) = some k := index?_eq hk
  simp only [trunkQuery, hindex, State.enter_keeps]

/-- TRUNK_QUERY of no trunk (R99). -/
theorem exec_trunkQuery_badArg {b : Byte} (hb : 1 < b.toNat) :
    exec (.trunkQuery tag [b]) s = .next ((s.replied 0x2B#8 tag .badArg []).finish false) := by
  refine perform_answered s (owner := trunkQuery tag [b]) h rfl rfl (by simp) ?_
  have hindex : index? 2 (byteAt [b] 0) = none := index?_none hb
  simp only [trunkQuery, hindex]

variable {b b' : Byte}

/-- DIRECTIVE_QUERY of the id 0 (R122). -/
theorem exec_directiveQuery_badArg (hid : b.toNat + 256 * b'.toNat = 0) :
    exec (.directiveQuery tag [b, b']) s = .next ((s.replied 0x32#8 tag .badArg []).finish false) :=
  perform_answered s (owner := directiveQuery tag [b, b']) h rfl rfl (by simp) (if_pos hid)

/-- DIRECTIVE_QUERY of an id that no entry holds (R122). -/
theorem exec_directiveQuery_notFound (hid : b.toNat + 256 * b'.toNat ≠ 0)
    (hfind : s.directives.find (b.toNat + 256 * b'.toNat) = none) :
    exec (.directiveQuery tag [b, b']) s = .next ((s.replied 0x32#8 tag .notFound []).finish false) := by
  refine perform_answered s (owner := directiveQuery tag [b, b']) h rfl rfl (by simp) ((if_neg hid).trans ?_)
  have hfind : (s.enter 0x32#8 tag).directives.find (u16At [b, b'] 0) = none := hfind
  rw [hfind]

/-- DIRECTIVE_QUERY of an entry (R122). -/
theorem exec_directiveQuery_ok {d : Directive} (hid : b.toNat + 256 * b'.toNat ≠ 0)
    (hfind : s.directives.find (b.toNat + 256 * b'.toNat) = some d) :
    exec (.directiveQuery tag [b, b']) s =
      .next ((s.replied 0x32#8 tag .ok (directiveReport s.directives d)).finish false) := by
  refine perform_answered s (owner := directiveQuery tag [b, b']) h rfl rfl (by simp) ((if_neg hid).trans ?_)
  have hfind : (s.enter 0x32#8 tag).directives.find (u16At [b, b'] 0) = some d := hfind
  rw [hfind]
  rfl

/-- STATION_LIST (R69). -/
theorem exec_stationList : exec (.stationList tag []) s = .next ((s.replied 0x23#8 tag .ok
    (byteOf s.stationCount :: (List.finRange 64).flatMap s.listEntry)).finish false) :=
  perform_answered s (owner := stationList tag) h rfl rfl (by simp) rfl

end

/-- Settles O29: the code tables by evaluation, and each query by what its owner answers. -/
theorem queriesReportAndChangeNothing : Obligations.QueriesReportAndChangeNothing := by
  unfold Obligations.QueriesReportAndChangeNothing
  refine ⟨rfl, rfl, rfl, rfl, fun _ _ _ _ _ _ => rfl, rfl, rfl, rfl, rfl, rfl, fun s tag b b' h => ?_⟩
  intro answers
  refine ⟨exec_channelQuery_badArg h, fun c hc => ?_, fun hb => exec_stationQuery_error h (State.rosterCheck_badArg hb),
    fun i hi => ⟨fun hnone => ?_, fun st hst => ⟨fun hrem => ?_, fun hrem => ?_⟩⟩, ?_, exec_trunkQuery_badArg h,
    fun k hk => ?_, exec_directiveQuery_badArg h, fun hid => ⟨fun hnone => ?_, fun before d after hq hd hfirst hlen => ?_⟩⟩
  · have hb : byteOf c.1 = b := byteOf_of_toNat hc
    exact hb ▸ exec_channelQuery_ok h hc
  · exact exec_stationQuery_error h (State.rosterCheck_notFound hi hnone)
  · exact exec_stationQuery_error h (State.rosterCheck_removing hi hst hrem)
  · have hb : byteOf i.1 = b := byteOf_of_toNat hi
    have hok := exec_stationQuery_ok h (State.rosterCheck_of_station hi hst hrem)
    rw [State.turnInFlight_eq, stationReport, hb] at hok
    exact hok
  · have hcount : s.stationCount = s.roster.toList.countP Option.isSome := List.countP_eq_length_filter.symm
    exact hcount ▸ exec_stationList h
  · have hb : byteOf k.1 = b := byteOf_of_toNat hk
    have hok := exec_trunkQuery_ok h hk
    rw [trunkReport_eq, hb] at hok
    exact hok
  · exact exec_directiveQuery_notFound h hid (List.find?_eq_none.2 (by simpa using hnone))
  · have hok := exec_directiveQuery_ok h hid (hd ▸ DirectiveQueue.find_eq hq hfirst)
    rw [directiveReport_eq hq hfirst hlen, hd, le16_bytes] at hok
    have hbefore : d.state.beforeCode = (match d.state with
        | .attached w => if w then 2#8 else 0#8 | .pending => 0xFF#8 | .awaiting => 0xFF#8) := by
      cases d.state with
      | attached w => cases w <;> rfl
      | pending => rfl
      | awaiting => rfl
    rw [hbefore] at hok
    exact hok

end Sys2Proof.Machine
end

section
/-! The end of a step: the arbiter's pick and the output pins (R127 to R130, R138). -/

namespace Sys2Proof.Machine

/-! ### The pick (R138) -/

section
variable {s : State} (chained : Bool) (fuel : Nat)

/-- A batch's turn comes after four non-batch messages beside an offer, and when neither a reply nor a notice waits. -/
def State.BatchTurn (s : State) : Prop :=
  (s.link.nonBatchRun = 4 ∧ s.anyOffered = true) ∨ (s.link.replies = [] ∧ s.notices.entries = [])

/-- An empty notice queue offers nothing. -/
theorem NoticeQueue.offer_of_empty {q : NoticeQueue} (h : q.entries = []) : q.offer = none := by
  simp [NoticeQueue.offer, h, takeFirst]

theorem State.pick_batch (h : s.BatchTurn) {c : ChannelId} (hc : s.nextOffered = some c)
    (hready : (s.channels[c]).ready = true) : State.pick chained (fuel + 1) s = s.sendBatch chained c := by
  unfold State.pick
  rw [hc]
  simp only [hready, if_true]
  rcases h with hrun | ⟨hreplies, hnotices⟩
  · rw [if_pos hrun]
  · split
    · rfl
    · simp only [hreplies, NoticeQueue.offer_of_empty hnotices]

theorem State.pick_reply (h : ¬ (s.link.nonBatchRun = 4 ∧ s.anyOffered = true)) {r : Reply} {rest : List Reply}
    (hr : s.link.replies = r :: rest) : State.pick chained (fuel + 1) s = s.sendReply chained r := by
  unfold State.pick
  rw [if_neg h, hr]

theorem State.pick_notice (h : ¬ (s.link.nonBatchRun = 4 ∧ s.anyOffered = true)) (hr : s.link.replies = [])
    {e : NoticeEntry} {rest : List NoticeEntry} (he : s.notices.offer = some (e, rest)) :
    State.pick chained (fuel + 1) s = s.sendNotice chained e rest := by
  unfold State.pick
  rw [if_neg h, hr, he]

theorem State.nextOffered_eq_none (h : ¬ ∃ c : ChannelId, (s.channels[c]).offered = true) : s.nextOffered = none :=
  List.find?_eq_none.2 fun c _ hc => h ⟨c, hc⟩

/-- Nothing waits and nothing is offered: nothing is picked. -/
theorem State.pick_nothing (h : ¬ ∃ c : ChannelId, (s.channels[c]).offered = true) (hr : s.link.replies = [])
    (hn : s.notices.entries = []) : State.pick chained (fuel + 1) s = s := by
  unfold State.pick
  simp only [State.nextOffered_eq_none h, hr, NoticeQueue.offer_of_empty hn, ite_self]

end

/-! ### The pins (R127 to R130) -/

section
variable {s : State} (chained : Bool) (hreset : s.inReset = false)
include hreset

/-- With a message in transmission ATTN# is low. -/
theorem State.drivePins_of_tx {m : Transmission} (htx : s.link.tx = some m) :
    s.drivePins = { s with attnLow := true, hostOut := s.outPin } := by
  simp [State.drivePins, State.attnCondition, hreset, htx]

/-- While a message is in transmission nothing is picked (R138). -/
theorem State.finish_of_tx {m : Transmission} (htx : s.link.tx = some m) :
    s.finish chained = { s with attnLow := true, hostOut := s.outPin } := by
  simp only [State.finish, State.arbitrate, htx, Option.isNone_some, Bool.false_eq_true, if_false]
  exact State.drivePins_of_tx hreset htx

/-- A free transmitter takes the arbiter's pick (R138). -/
theorem State.finish_of_pick (htx : s.link.tx = none) {t : State} (hpick : State.pick chained 9 s = t)
    {m : Transmission} (ht : t.link.tx = some m) : s.finish chained = { t with attnLow := true, hostOut := t.outPin } := by
  have hinReset : t.inReset = false := by
    rw [← hpick]; simpa using hreset
  simp only [State.finish, State.arbitrate, htx, Option.isNone_none, if_true, hpick]
  exact State.drivePins_of_tx hinReset ht

end

/-- With nothing to send ATTN# is high, and the transmitter stays free. -/
theorem State.finish_idle {s : State} (chained : Bool) (htx : s.link.tx = none) (hr : s.link.replies = [])
    (hn : s.notices.entries = []) (h : ¬ ∃ c : ChannelId, (s.channels[c]).offered = true) :
    s.finish chained = { s with attnLow := false, hostOut := s.outPin } := by
  have hoffered : s.anyOffered = false := by
    rw [← Bool.not_eq_true, State.anyOffered_iff]; exact h
  simp only [State.finish, State.arbitrate, htx, Option.isNone_none, if_true, State.pick_nothing chained 8 h hr hn]
  simp [State.drivePins, State.attnCondition, State.somethingWaits, htx, hr, hn, hoffered]

end Sys2Proof.Machine
end

section
/-! RESET# and its release (R45, R91, R127, R144, R158, R162). -/

namespace Sys2Proof.Machine

/-- While RESET# is low a command other than its release and the pin levels changes nothing (R127, R162). -/
theorem exec_inReset {t : State} (h : t.inReset = true) {i : Instr} (hassert : i ≠ .resetAssert)
    (hrelease : ∀ a b, i ≠ .resetRelease a b) (hhold : ∀ n, i ≠ .holdAssert n) (hfree : i ≠ .holdRelease)
    (hhcs : i ≠ .hcsHigh) : exec i t = .next t := by
  cases i with
  | resetAssert => exact absurd rfl hassert
  | resetRelease a b => exact absurd rfl (hrelease a b)
  | holdAssert n => exact absurd rfl (hhold n)
  | holdRelease => exact absurd rfl hfree
  | hcsHigh => exact absurd rfl hhcs
  | _ => exact congrArg Host.Outcome.next (if_pos h)

/-- RESET# low: the part holds its reset state, and the output pin the old mode's form (R144). -/
theorem exec_resetAssert (s : State) :
    exec .resetAssert s = .next { s.cleared with
      inReset := true, hostOut := if s.mode = .spi then .highZ else .mark } := by
  have hpin : ({ s.cleared with inReset := true } : State).outPin = if s.mode = .spi then .highZ else .mark := by
    unfold State.outPin
    cases hmode : s.mode <;> simp [State.cleared, hmode, LinkMode.isUart]
  rw [← hpin]
  rfl

/-- The mode that the straps give at the release of RESET# (Table 7-1). -/
theorem LinkMode.ofStraps_eq (mode1 mode0 : Bool) :
    LinkMode.ofStraps mode1 mode0 = (if mode1 then (if mode0 then .uart1000000 else .spi)
      else if mode0 then .uart460800 else .uart115200) := by
  cases mode1 <;> cases mode0 <;> rfl

/-- No channel is offered right after a reset. -/
theorem State.cleared_not_offered (s : State) : ¬ ∃ c : ChannelId, (s.cleared.channels[c]).offered = true := by
  rintro ⟨c, hc⟩
  simp [State.cleared, State.reset, Channel.reset] at hc

/-- The release of RESET# samples the straps and leaves the reset state (R127, R144). -/
theorem exec_resetRelease {t : State} (h : t.inReset = true) (mode1 mode0 : Bool) :
    let u : State := { t.cleared with inReset := false, mode := LinkMode.ofStraps mode1 mode0 }
    exec (.resetRelease mode1 mode0) t = .next { u with attnLow := false, hostOut := u.outPin } := by
  intro u
  have hu : resetRelease mode1 mode0 t = u := if_pos h
  have hfinish : u.finish false = { u with attnLow := false, hostOut := u.outPin } :=
    State.finish_idle false rfl rfl rfl t.cleared_not_offered
  change Host.Outcome.next (if (resetRelease mode1 mode0 t).inReset then (resetRelease mode1 mode0 t).drivePins
    else (resetRelease mode1 mode0 t).finish false) = _
  rw [hu, hfinish]
  rfl

/-- Settles O14. Right after a release nothing waits to be sent, so the step ends with the reset state itself. -/
theorem resetReleaseLeavesResetState : Obligations.ResetReleaseLeavesResetState := by
  unfold Obligations.ResetReleaseLeavesResetState
  refine ⟨rfl, rfl, rfl, rfl, fun s => ⟨_, exec_resetAssert s, rfl, rfl, rfl, rfl, ?_, fun mode1 mode0 => ?_⟩⟩
  · exact fun i hassert hrelease hhold hfree hhcs => exec_inReset rfl hassert hrelease hhold hfree hhcs
  · refine ⟨_, exec_resetRelease rfl mode1 mode0, rfl, LinkMode.ofStraps_eq mode1 mode0, rfl, rfl, rfl, rfl, rfl, rfl, rfl,
      rfl, rfl, ?_⟩
    have read {α : Type} {n : Nat} (a : α) (i : Fin n) : (Vector.replicate n a)[i] = a := by simp
    refine ⟨fun i => read _ i, fun i => ⟨read _ i, read _ i, read _ i⟩, rfl, rfl, fun i => ⟨read _ i, read _ i⟩, rfl,
      fun i => read _ i, rfl, fun c => read _ c, fun k => read _ k, rfl, rfl, rfl, rfl, rfl, rfl, rfl, rfl, rfl, rfl, rfl,
      fun huart => ?_, fun hspi hhigh => ?_⟩
    · have hmode : (LinkMode.ofStraps mode1 mode0).isUart = true := by simpa [LinkMode.isUart] using huart
      simp [State.outPin, hmode, State.cleared, State.reset, Link.reset]
    · have hmode : (LinkMode.ofStraps mode1 mode0).isUart = false := by simpa [LinkMode.isUart] using hspi
      simp [State.outPin, hmode, State.cleared, hhigh]

end Sys2Proof.Machine
end

section
/-! The evaluations that end an event at a channel, as one equation (R49, R54, R58). -/

namespace Sys2Proof.Machine

/-- The filters of a raised notice, and the queue that takes it (R146). -/
theorem State.raise_notices (s : State) (n : Notice) :
    (s.raise n).notices = if s.link.session = .opened ∧ s.notices.enables n then s.notices.take s.timeBase n
      else s.notices := by
  unfold State.raise
  split <;> rfl

/-- Raising a notice reads the link, the time base and the notices only. -/
theorem State.setChannel_raise (s : State) (c : ChannelId) (x : Channel) (n : Notice) :
    (s.setChannel c x).raise n = { s.setChannel c x with notices := (s.raise n).notices } := by
  rw [State.raise_frame, State.raise_notices, State.raise_notices]
  rfl

/-- The notices after the mark evaluation of a channel that was at level `was` and is now at `now` (R58, R59). -/
def State.levelNotices (s : State) (c : ChannelId) (was now : Level) : NoticeQueue :=
  if now = was then s.notices else (s.raise (.channelLevel c now 1)).notices

/-- Whether a level change is reported does not depend on the channels (R146). -/
theorem State.setChannel_levelNotices (s : State) (c d : ChannelId) (x : Channel) (was now : Level) :
    (s.setChannel d x).levelNotices c was now = s.levelNotices c was now := by
  simp only [State.levelNotices, State.setChannel_raise, State.setChannel_notices]

/-- The mark evaluation writes the level, and raises CHANNEL_LEVEL for a change (R58, R59). -/
theorem State.evalMarks_eq (s : State) (c : ChannelId) :
    s.evalMarks c = { s with
      channels := setAt s.channels c { s.channels[c] with level := (s.channels[c]).markedLevel }
      notices := s.levelNotices c (s.channels[c]).level (s.channels[c]).markedLevel } := by
  unfold State.evalMarks State.levelNotices
  dsimp only
  split
  · rename_i h
    rw [h]
    exact congrArg (fun v => { s with channels := v }) (setAt_getElem s.channels c).symm
  · rw [State.setChannel_raise]
    rfl

/-- The three evaluations together write the channel, and the notices for a change of its level. -/
theorem State.evalChannel_eq (s : State) (c : ChannelId) :
    let x := (s.channels[c]).evalHold s.timeBase
    s.evalChannel c = { s with
      channels := setAt s.channels c { x with level := x.markedLevel, offered := x.ready }
      notices := s.levelNotices c (s.channels[c]).level x.markedLevel } := by
  intro x
  have hlevel : (s.channels[c]).level = x.level := by
    obtain ⟨b, d, hx⟩ := (s.channels[c]).evalHold_fields s.timeBase
    simp only [x, hx]
  have hmarked : (s.setChannel c x).evalMarks c = State.setChannel
      { s with notices := s.levelNotices c x.level x.markedLevel } c { x with level := x.markedLevel } := by
    rw [State.evalMarks_eq, State.setChannel_get, State.setChannel_levelNotices]
    simp [State.setChannel]
  have hevaluated : s.evalChannel c = ((s.setChannel c x).evalMarks c).evalReady c := rfl
  rw [hevaluated, hmarked, State.evalReady_setChannel, hlevel]
  rfl

end Sys2Proof.Machine
end

section
/-! The directive, flush and notice steps of a close (R62, R124, R141, R155). -/

namespace Sys2Proof.Machine

/-- What the flush step of a close leaves of a channel (R43, R62). -/
def Channel.flushed (x : Channel) : Channel :=
  { x with
    queue := [], usage := x.usage - x.queue.length, credit := 0
    level := .normal, holdRunOut := false, holdDue := none, offered := false }

/-- A channel with an empty queue is at level NORMAL after the mark evaluation, its high mark being at least 1 (R58). -/
theorem Channel.markedLevel_of_empty {x : Channel} (hq : x.queue = []) (hh : 1 ≤ x.config.high) :
    x.markedLevel = .normal := by
  unfold Channel.markedLevel
  cases x.level with
  | normal => exact if_neg (by rw [hq]; exact Nat.not_le.2 hh)
  | filling => exact if_pos (by rw [hq]; exact Nat.zero_le _)

/-- A channel with an empty queue is not ready (R53). -/
theorem Channel.ready_of_empty {x : Channel} (hq : x.queue = []) : x.ready = false := by
  simp [Channel.ready, hq]

/-- Outside an OPEN session no level change is reported (R146). -/
theorem State.levelNotices_of_not_opened {s : State} (h : s.link.session ≠ .opened) (c : ChannelId) (was now : Level) :
    s.levelNotices c was now = s.notices := by
  have hdropped : (s.raise (.channelLevel c now 1)).notices = s.notices := by
    rw [State.raise_notices]
    exact if_neg fun hopen => h hopen.1
  rw [State.levelNotices, hdropped, ite_self]

section
variable {s : State} (h : s.link.session ≠ .opened)
include h

/-- The evaluations of a channel with an empty queue, outside an OPEN session (R49, R146). -/
theorem State.evalChannel_of_empty (c : ChannelId) {x : Channel} (hq : x.queue = []) (hh : 1 ≤ x.config.high) :
    (s.setChannel c x).evalChannel c = s.setChannel c { x with
      level := .normal, holdRunOut := false, holdDue := none, offered := false } := by
  have hhold : x.evalHold s.timeBase = { x with holdRunOut := false, holdDue := none } := Channel.evalHold_nil _ hq
  have hlevel : ({ x with holdRunOut := false, holdDue := none } : Channel).markedLevel = .normal :=
    Channel.markedLevel_of_empty hq hh
  have hready : ({ x with holdRunOut := false, holdDue := none } : Channel).ready = false := Channel.ready_of_empty hq
  have hclosed : (s.setChannel c x).link.session ≠ .opened := h
  rw [State.evalChannel_eq, State.setChannel_get, State.setChannel_timeBase, hhold, hlevel, hready,
    State.levelNotices_of_not_opened hclosed]
  simp [State.setChannel]

/-- The flush step at one channel, outside an OPEN session (R62). -/
theorem State.flushChannel_eq (c : ChannelId) (hh : 1 ≤ (s.channels[c]).config.high) :
    s.flushChannel c = { s with
      channels := setAt s.channels c (s.channels[c]).flushed
      store := s.store.releaseAll ((s.channels[c]).queue.map QueueEntry.slot) } := by
  have hread : (s.flushQueue c).channels[c] = (s.channels[c]).emptied := by rw [State.flushQueue_get, if_pos rfl]
  have hlink : (s.flushQueue c).link.session ≠ .opened := h
  have hevaluated :=
    State.evalChannel_of_empty hlink c (x := { (s.channels[c]).emptied with credit := 0 }) rfl hh
  unfold State.flushChannel
  dsimp only
  rw [hread, hevaluated]
  simp [State.flushQueue, State.setChannel, Channel.flushed, Channel.emptied]

end

/-- References that end in two runs of slots. -/
theorem Store.releaseAll_append (st : Store) (is js : List SlotId) :
    st.releaseAll (is ++ js) = (st.releaseAll is).releaseAll js := List.foldl_append

/-- What the flush step of a close leaves when it has flushed the channels `cs` (R62). -/
def State.flushedAt (s : State) (cs : List ChannelId) : State :=
  { s with
    channels := Vector.ofFn fun c => if c ∈ cs then (s.channels[c]).flushed else s.channels[c]
    store := s.store.releaseAll (cs.flatMap fun c => (s.channels[c]).queue.map QueueEntry.slot) }

theorem State.flushedAt_nil (s : State) : s.flushedAt [] = s := by
  simp [State.flushedAt, Store.releaseAll]

/-- A channel flushed before others is flushed with them. -/
theorem State.flushedAt_cons (s : State) {c : ChannelId} {cs : List ChannelId} (hc : c ∉ cs) :
    ({ s with
      channels := setAt s.channels c (s.channels[c]).flushed
      store := s.store.releaseAll ((s.channels[c]).queue.map QueueEntry.slot) } : State).flushedAt cs =
      s.flushedAt (c :: cs) := by
  have hother : ∀ d, c ≠ d → (setAt s.channels c (s.channels[c]).flushed)[d] = s.channels[d] := fun d hd => by
    rw [get_setAt, if_neg hd]
  have hslots : (cs.flatMap fun d => ((setAt s.channels c (s.channels[c]).flushed)[d]).queue.map QueueEntry.slot)
      = cs.flatMap fun d => (s.channels[d]).queue.map QueueEntry.slot :=
    List.flatMap_congr fun d hd => by rw [hother d (ne_of_mem_of_not_mem hd hc).symm]
  have hchannels : (fun d : ChannelId => if d ∈ cs then
        ((setAt s.channels c (s.channels[c]).flushed)[d]).flushed else (setAt s.channels c (s.channels[c]).flushed)[d])
      = fun d : ChannelId => if d ∈ c :: cs then (s.channels[d]).flushed else s.channels[d] := by
    funext d
    by_cases hd : c = d
    · subst hd
      rw [if_neg hc, if_pos (List.mem_cons_self ..), get_setAt, if_pos rfl]
    · rw [hother d hd]
      exact if_congr ⟨List.mem_cons_of_mem c, fun h => (List.mem_cons.1 h).resolve_left (Ne.symm hd)⟩ rfl rfl
  unfold State.flushedAt
  dsimp only
  rw [hslots, hchannels, List.flatMap_cons, Store.releaseAll_append]

/-- The flush step at several channels, outside an OPEN session (R62). -/
theorem State.flushChannels_eq : ∀ (cs : List ChannelId) {s : State}, cs.Nodup → s.link.session ≠ .opened →
    (∀ c ∈ cs, 1 ≤ (s.channels[c]).config.high) → cs.foldl State.flushChannel s = s.flushedAt cs
  | [], s, _, _, _ => s.flushedAt_nil.symm
  | c :: cs, s, hnodup, h, hh => by
    obtain ⟨hc, hnodup⟩ := List.nodup_cons.1 hnodup
    rw [List.foldl_cons, State.flushChannel_eq h c (hh c (List.mem_cons_self ..)), ← State.flushedAt_cons s hc]
    refine State.flushChannels_eq cs hnodup h fun d hd => ?_
    dsimp only
    rw [get_setAt, if_neg (ne_of_mem_of_not_mem hd hc).symm]
    exact hh d (List.mem_cons_of_mem _ hd)

/-- Settles O12. In a closing session no notice is raised, so the flush of the eight channels is one equation. -/
theorem closeDirectiveStepEmptiesQueues : Obligations.CloseDirectiveStepEmptiesQueues := by
  unfold Obligations.CloseDirectiveStepEmptiesQueues
  intro s tag hreset hsession hstopped hhigh
  have htrunks : s.trunksStopped = true := by
    simp only [State.trunksStopped, Vector.toList_eq_map_finRange, List.all_map, List.all_eq_true]
    exact fun k _ => decide_eq_true (hstopped k)
  have hclosing : (s.setDirectives []).link.session ≠ .opened := by
    simp [hsession]
  have hflush : (s.setDirectives []).flushStep = (s.setDirectives []).flushedAt (List.finRange 8) :=
    State.flushChannels_eq (List.finRange 8) (List.nodup_finRange 8) hclosing fun c _ => hhigh c
  refine (perform_awake hreset closeDirectiveStep).trans ?_
  simp only [closeDirectiveStep, hsession, htrunks, if_true, hflush, State.flushedAt, List.mem_finRange]
  rfl

end Sys2Proof.Machine
end

section
/-! A batch's formation at its channel (R49, R55, R58, R138, R170). -/

namespace Sys2Proof.Machine

/-- The level that the mark evaluation makes (R58). -/
theorem Channel.markedLevel_eq (x : Channel) : x.markedLevel = x.config.levelAt x.level x.queue.length := by
  unfold Channel.markedLevel ChannelConfig.levelAt
  cases x.level <;> rfl

/-- The hold evaluation of a channel whose flag has not run out before (R52). -/
theorem Channel.evalHold_evaluated {x : Channel} (h : x.holdRunOut = false) (now : Time) :
    (x.evalHold now).HoldEvaluated false now := by
  obtain ⟨b, d, hx⟩ := x.evalHold_fields now
  have hqueue : (x.evalHold now).queue = x.queue := by rw [hx]
  have hhold : (x.evalHold now).config.hold = x.config.hold := by rw [hx]
  refine ⟨fun hq => ?_, fun e rest hq => ?_⟩
  · rw [Channel.evalHold_nil now (hqueue ▸ hq)]
    exact ⟨rfl, rfl⟩
  · rw [hhold, Channel.evalHold_cons now (hqueue ▸ hq), h]
    refine ⟨fun hout => ?_, fun _ hwait => ?_⟩
    · rw [if_pos hout]
      exact ⟨rfl, rfl⟩
    · rw [if_neg (by simpa using hwait)]
      exact ⟨rfl, rfl⟩

/-- The channel that has formed a batch, after the evaluations that end the event (R49, R55). -/
def Channel.batched (x : Channel) (now : Time) : Channel :=
  let y := x.formBatch.evalHold now
  { y with level := y.markedLevel, offered := y.ready }

/-- The message of channel `c`'s batch (R55, R132, R170). -/
def State.batchMessage (s : State) (chained : Bool) (c : ChannelId) : Transmission :=
  { what := .batch c, sent := 0
    wire := frameWire chained Config.batchKind 0#8
      (batchBody c (s.store.recordsOf ((s.channels[c]).formBatch).inflight)) }

/-- A channel that takes the arbiter's grant writes itself, the notices for a change of its level, and the link. -/
theorem State.sendBatch_eq (s : State) (chained : Bool) (c : ChannelId) :
    let y := (s.channels[c]).batched s.timeBase
    s.sendBatch chained c = { s with
      channels := setAt s.channels c y
      notices := s.levelNotices c (s.channels[c]).level y.level
      link := { s.link with tx := some (s.batchMessage chained c), nonBatchRun := 0, lastServed := c } } := by
  intro y
  unfold State.sendBatch
  rw [State.evalChannel_eq, State.setChannel_get, State.setChannel_levelNotices]
  simp only [State.setChannel_channels, setAt_setAt]
  rfl

section
variable (x : Channel) (now : Time)

/-- What a batch's formation writes of its channel (R49, R55). -/
theorem Channel.batched_fields : ∃ b d, x.batched now =
    let y : Channel := { x.formBatch with holdRunOut := b, holdDue := d }
    { y with level := y.markedLevel, offered := y.ready } := by
  obtain ⟨b, d, h⟩ := x.formBatch.evalHold_fields now
  exact ⟨b, d, by rw [Channel.batched, h]⟩

theorem Channel.batched_level : (x.batched now).level =
    x.config.levelAt x.level (x.queue.drop x.batchSize).length := by
  obtain ⟨b, d, h⟩ := x.batched_fields now
  rw [h]
  exact Channel.markedLevel_eq _

/-- A ready channel's batch holds a record, so its offer is withdrawn (R53, R55). -/
theorem Channel.batched_offered {x : Channel} (h : x.ready = true) : (x.batched now).offered = false := by
  obtain ⟨-, -, hcredit, hqueue⟩ := Channel.ready_fields h
  have hsize : x.batchSize ≠ 0 := by
    have := List.length_pos_of_ne_nil hqueue
    simp only [Channel.batchSize, Config.maxBatch]
    omega
  obtain ⟨b, d, hx⟩ := x.batched_fields now
  rw [hx]
  simp [Channel.ready, Channel.formBatch, hsize, hqueue]

/-- The hold flag and the armed expiry are those of the new head (R49, R52). -/
theorem Channel.batched_holdEvaluated : (x.batched now).HoldEvaluated false now :=
  Channel.evalHold_evaluated (x := x.formBatch) rfl now

end

/-- The records that a batch carries are those of the entries taken, in order (R55, R170). -/
theorem State.batchMessage_records (s : State) (c : ChannelId) :
    s.store.recordsOf ((s.channels[c]).formBatch).inflight =
      ((s.channels[c]).queue.take (s.channels[c]).batchSize).filterMap fun e =>
        (s.store.slots[e.slot]).map Stored.record :=
  List.filterMap_map

end Sys2Proof.Machine
end

section
/-! What the arbiter is offered: the oldest URGENT notice, and the channel nearest after the last served (R138, R152,
R153). -/

namespace Sys2Proof.Machine

/-! ### The offered notice (R153) -/

section
variable {α : Type} {p : α → Bool}

theorem takeFirst_none : ∀ {l : List α}, (∀ x ∈ l, p x = false) → takeFirst p l = none
  | [], _ => rfl
  | a :: l, h => by
    obtain ⟨ha, hl⟩ := List.forall_mem_cons.1 h
    rw [takeFirst, ha, takeFirst_none hl]
    rfl

/-- The first element taken, behind others that are not. -/
theorem takeFirst_append {a : α} {after : List α} (ha : p a = true) : ∀ {before : List α},
    (∀ x ∈ before, p x = false) → takeFirst p (before ++ a :: after) = some (a, before ++ after)
  | [], _ => by rw [List.nil_append, takeFirst, if_pos ha, List.nil_append]
  | b :: before, h => by
    obtain ⟨hb, hbefore⟩ := List.forall_mem_cons.1 h
    rw [List.cons_append, takeFirst, hb, takeFirst_append ha hbefore]
    rfl

end

section
variable {q : NoticeQueue} {e : NoticeEntry} {after : List NoticeEntry}

/-- The oldest URGENT entry is offered (R153). -/
theorem NoticeQueue.offer_urgent {before : List NoticeEntry} (hq : q.entries = before ++ e :: after)
    (he : e.notice.urgent = true) (hb : ∀ x ∈ before, x.notice.urgent = false) :
    q.offer = some (e, before ++ after) := by
  rw [NoticeQueue.offer, hq, takeFirst_append (p := fun e : NoticeEntry => e.notice.urgent) he hb]

/-- With no URGENT entry the oldest is offered (R153). -/
theorem NoticeQueue.offer_routine (hq : q.entries = e :: after) (h : ∀ x ∈ e :: after, x.notice.urgent = false) :
    q.offer = some (e, after) := by
  rw [NoticeQueue.offer, hq, takeFirst_none h, takeFirst, if_pos rfl]

end

/-- The URGENT notices (Table 8-1). -/
theorem Notice.urgent_iff (n : Notice) : n.urgent = true ↔
    (∃ k was now cause, n = .trunkState k was now cause) ∨ ∃ count, n = .noticeLost count := by
  cases n <;> simp [Notice.urgent]

/-! ### The departure of a notice (R152) -/

section
variable {count : Nat}

theorem addToLost_cons {e : NoticeEntry} (h : ¬ ∃ n, e.notice = .noticeLost n) (es : List NoticeEntry) :
    addToLost count (e :: es) = (addToLost count es).map (e :: ·) := by
  rw [addToLost]
  split
  · rename_i n hn
    exact absurd ⟨n, hn⟩ h
  · rfl

theorem addToLost_none : ∀ {es : List NoticeEntry}, (∀ e ∈ es, ¬ ∃ n, e.notice = .noticeLost n) →
    addToLost count es = none
  | [], _ => rfl
  | e :: es, h => by
    obtain ⟨he, hes⟩ := List.forall_mem_cons.1 h
    rw [addToLost_cons he, addToLost_none hes]
    rfl

/-- The count goes to the first NOTICE_LOST entry. -/
theorem addToLost_append {x : NoticeEntry} {n : Nat} (hx : x.notice = .noticeLost n) (back : List NoticeEntry) :
    ∀ {front : List NoticeEntry}, (∀ e ∈ front, ¬ ∃ n, e.notice = .noticeLost n) →
      addToLost count (front ++ x :: back) =
        some (front ++ { x with notice := .noticeLost (min (n + count) 65535) } :: back)
  | [], _ => by rw [List.nil_append, addToLost, hx]; rfl
  | e :: front, h => by
    obtain ⟨he, hfront⟩ := List.forall_mem_cons.1 h
    rw [List.cons_append, addToLost_cons he, addToLost_append hx back hfront]
    rfl

end

section
variable {q : NoticeQueue} (now : Time)

theorem NoticeQueue.afterDeparture_of_none_lost (h : q.lost = 0) : q.afterDeparture now = q := if_pos h

/-- A lost-notice count without a NOTICE_LOST queued makes one (R152). -/
theorem NoticeQueue.afterDeparture_new (h : q.lost ≠ 0) (hq : ∀ e ∈ q.entries, ¬ ∃ n, e.notice = .noticeLost n) :
    q.afterDeparture now = { q with
      lost := 0
      entries := q.entries ++ [{ time := now, mergeOpen := false, notice := .noticeLost q.lost }] } := by
  rw [NoticeQueue.afterDeparture, if_neg h, addToLost_none hq]

/-- A lost-notice count goes on to the NOTICE_LOST queued (R152). -/
theorem NoticeQueue.afterDeparture_queued {front back : List NoticeEntry} {x : NoticeEntry} {n : Nat} (h : q.lost ≠ 0)
    (hq : q.entries = front ++ x :: back) (hfront : ∀ e ∈ front, ¬ ∃ n, e.notice = .noticeLost n)
    (hx : x.notice = .noticeLost n) :
    q.afterDeparture now = { q with
      lost := 0
      entries := front ++ { x with notice := .noticeLost (min (n + q.lost) 65535) } :: back } := by
  rw [NoticeQueue.afterDeparture, if_neg h, hq, addToLost_append hx back hfront]

end

/-! ### The channel that is served next (R138) -/

/-- How many channels lie between the last served and `c`, counting upward (R138). -/
def distanceFrom (last c : ChannelId) : Nat := (c.1 + 7 - last.1) % 8

theorem distanceFrom_after : ∀ last k : Fin 8, distanceFrom last (last + 1 + k) = k.1 := by decide

/-- The nearest offered channel after the last served is the next (R138). -/
theorem State.nextOffered_of_nearest {s : State} {c : ChannelId} (hc : (s.channels[c]).offered = true)
    (hnear : ∀ d : ChannelId, (s.channels[d]).offered = true →
      distanceFrom s.link.lastServed c ≤ distanceFrom s.link.lastServed d) : s.nextOffered = some c := by
  let start := s.link.lastServed + 1
  have hstart : start + (c - start) = c := add_sub_cancel start c
  obtain ⟨rest, hsplit⟩ := ascending_split (i := c - start) (List.pairwise_lt_finRange 8) (List.mem_finRange _)
  have hfound : (List.finRange 8).find? (fun k => (s.channels[start + k]).offered) = some (c - start) := by
    refine List.find?_eq_some_iff_append.2 ⟨by simpa only [hstart] using hc, _, rest, hsplit, fun k hk => ?_⟩
    have hbefore : k.1 < (c - start).1 := by simpa using hk
    by_contra hoff
    have hle := hnear (start + k) (by simpa using hoff)
    rw [distanceFrom_after, ← hstart, distanceFrom_after] at hle
    omega
  unfold State.nextOffered
  rw [List.find?_map]
  exact (congrArg _ hfound).trans (congrArg some hstart)

end Sys2Proof.Machine
end

section
/-! The pick order of a free transmitter, and the output pins (R49, R52 to R58, R127 to R132, R138, R152, R153, R170,
R171). -/

namespace Sys2Proof.Machine

/-- What a ready channel is after its batch's formation (R49, R52, R55, R58). -/
theorem Channel.batched_of_ready {x : Channel} (h : x.ready = true) (now : Time) :
    let y := x.batched now
    y.inflight = (x.queue.take x.batchSize).map QueueEntry.slot ∧ y.queue = x.queue.drop x.batchSize
      ∧ y.credit = x.credit - x.batchSize ∧ y.usage = x.usage ∧ y.config = x.config ∧ y.enabled = x.enabled
      ∧ y.counters = x.counters ∧ y.offered = false ∧ y.HoldEvaluated false now
      ∧ y.level = x.config.levelAt x.level y.queue.length := by
  intro y
  obtain ⟨b, d, hy⟩ := x.batched_fields now
  have hqueue : y.queue = x.queue.drop x.batchSize := congrArg Channel.queue hy
  refine ⟨congrArg Channel.inflight hy, hqueue, congrArg Channel.credit hy, (congrArg Channel.usage hy :),
    (congrArg Channel.config hy :), (congrArg Channel.enabled hy :), (congrArg Channel.counters hy :),
    Channel.batched_offered now h, x.batched_holdEvaluated now, ?_⟩
  rw [hqueue]
  exact x.batched_level now

/-- The link when channel `c`'s batch has gone into transmission (R138). -/
theorem State.sendBatch_link (s : State) (chained : Bool) (c : ChannelId) : (s.sendBatch chained c).link =
    { s.link with tx := some (s.batchMessage chained c), nonBatchRun := 0, lastServed := c } :=
  congrArg State.link (s.sendBatch_eq chained c)

/-- A reply or a notice that is picked beside an offer raises the non-batch run, and without one ends it (R138). -/
theorem State.nextRun_cases (s : State) {f : Nat → Prop} (h : f s.nextRun) :
    ((∃ c : ChannelId, (s.channels[c]).offered = true) → f (s.link.nonBatchRun + 1))
      ∧ ((¬ ∃ c : ChannelId, (s.channels[c]).offered = true) → f 0) := by
  refine ⟨fun hoffers => ?_, fun hnone => ?_⟩
  · rwa [State.nextRun, if_pos (s.anyOffered_iff.2 hoffers)] at h
  · rwa [State.nextRun, if_neg fun hany => hnone (s.anyOffered_iff.1 hany)] at h

/-- Settles O16. The transmitter that is busy first, then a batch's formation, then the order of the picks: `hpicked`
takes each pick to the end of the step. -/
theorem arbiterPicksInOrder : Obligations.ArbiterPicksInOrder := by
  unfold Obligations.ArbiterPicksInOrder
  intro pin
  have hpin : ∀ u : State, u.inReset = false → u.outPin = pin u := fun u hu => by
    by_cases hspi : u.mode = .spi
    · cases hout : u.hostOut <;> cases htx : u.link.tx <;>
        simp [pin, State.outPin, State.spiByte, LinkMode.isUart, Config.delimiter, hspi, hu, hout, htx]
    · cases htx : u.link.tx <;> simp [pin, State.outPin, LinkMode.isUart, hspi, hu, htx]
  refine ⟨fun s chained m hreset htx => ?_, fun s chained => ?_⟩
  · rw [State.finish_of_tx chained hreset htx, hpin s hreset]
  intro ready size
  refine ⟨fun c hready => ?_, fun hreset htx hoffers => ?_⟩
  · extract_lets x t y
    have ht : t = _ := s.sendBatch_eq chained c
    have hy : y = x.batched s.timeBase := by
      simp only [y, t, s.sendBatch_eq chained c, get_setAt, if_true]
      rfl
    obtain ⟨hinflight, hqueue, hcredit, husage, hconfig, henabled, hcounters, hoffered, hhold, hlevel⟩ :=
      Channel.batched_of_ready ((Channel.ready_iff x).2 hready) s.timeBase
    rw [hy]
    refine ⟨hinflight, hqueue, hcredit, husage, hconfig, henabled, hcounters, hoffered, hhold, hlevel, ?_,
      fun d hd => ?_, ?_⟩
    · rw [ht, apply_ite State.notices]
      rfl
    · rw [ht, get_setAt, if_neg hd.symm]
    · rw [ht]
  intro pins offers sends runs distance batchBytes noticeBytes batch lostEntry urgent leaves
  have hpicked : ∀ (t : State) (m : Transmission), State.pick chained 9 s = t → t.inReset = false →
      t.link.tx = some m → s.finish chained = pins t := fun t m hpick hin ht => by
    rw [State.finish_of_pick chained hreset htx hpick ht, hpin t hin]
  have hbatch : s.BatchTurn → batch := fun hturn c hc hnear => by
    have hready : (s.channels[c]).ready = true := (Channel.ready_iff _).2 ((hoffers c).1 hc)
    have hpick := State.pick_batch chained 8 hturn (State.nextOffered_of_nearest hc hnear) hready
    have hlink := s.sendBatch_link chained c
    refine ⟨hpicked _ _ hpick (by simpa using hreset) (congrArg Link.tx hlink), hlink.trans ?_⟩
    rw [State.batchMessage, State.batchMessage_records]
    rfl
  have hbytes : ∀ e : NoticeEntry, e.body = noticeBytes e := fun ⟨_, _, notice⟩ => by cases notice <;> rfl
  have hurgent : ∀ e, ¬ urgent e → e.notice.urgent = false := fun e he =>
    Bool.eq_false_iff.2 fun hu => he (e.notice.urgent_iff.1 hu)
  have hleaves : ∀ rest q, leaves rest q →
      ({ s.notices with entries := rest } : NoticeQueue).afterDeparture s.timeBase = q := by
    rintro rest q (⟨hlost, rfl⟩ | ⟨hlost, hfresh, rfl⟩ | ⟨hlost, front, x, n, back, rfl, hfront, hx, rfl⟩)
    · exact NoticeQueue.afterDeparture_of_none_lost _ hlost
    · exact NoticeQueue.afterDeparture_new _ hlost hfresh
    · exact NoticeQueue.afterDeparture_queued _ hlost rfl hfront hx
  have hruns : ∀ f, f s.nextRun → runs f := fun f hf => s.nextRun_cases hf
  clear_value runs
  refine ⟨fun hrun hany => hbatch (.inl ⟨hrun, s.anyOffered_iff.2 hany⟩), fun hfree => ?_⟩
  have hturn : ¬ (s.link.nonBatchRun = 4 ∧ s.anyOffered = true) := fun ⟨hrun, hany⟩ =>
    hfree.elim (fun h => h hrun) fun h => h (s.anyOffered_iff.1 hany)
  refine ⟨fun r rest hr => hruns _ ?_, fun hr => ⟨fun before e after q hq hfirst hleft => hruns _ ?_,
    fun hn => ⟨hbatch (.inr ⟨hr, hn⟩), fun hnone => ?_⟩⟩⟩
  · exact hpicked _ _ (State.pick_reply chained 8 hturn hr) hreset rfl
  · have hoffer : s.notices.offer = some (e, before ++ after) := by
      rcases hfirst with ⟨he, hbefore⟩ | ⟨rfl, hroutine⟩
      · exact NoticeQueue.offer_urgent hq (e.notice.urgent_iff.2 he) fun x hx => hurgent x (hbefore x hx)
      · exact NoticeQueue.offer_routine hq fun x hx => hurgent x (hroutine x hx)
    have hsent : s.sendNotice chained e (before ++ after) =
        sends q s.nextRun (.notice e) 0x82#8 0#8 (noticeBytes e) := by
      rw [State.sendNotice, hleaves _ q hleft, hbytes]
      rfl
    exact hpicked _ _ ((State.pick_notice chained 8 hturn hr hoffer).trans hsent) hreset rfl
  · rw [State.finish_idle chained htx hr hn hnone, hpin s hreset]

end Sys2Proof.Machine
end

section
/-! What an event does to the field side of the part, the stations of the roster and the two trunks, said once for each
operation (R67, R74, R90, R93, Table 5-5). -/

namespace Sys2Proof.Machine

/-! ### One trunk -/

/-- A trunk that is neither RUNNING nor STOPPING rests (Table 5-5). -/
theorem Trunk.Sound.resting {x : Trunk} (h : x.Sound) (hs : ¬ (x.state = .running ∨ x.state = .stopping)) :
    x.phase = .idle ∧ x.turn = none := by
  obtain ⟨-, -, rest, -, -⟩ := h
  exact rest (fun e => hs (.inl e)) fun e => hs (.inr e)

/-- A trunk with a turn in flight is in service (Table 5-5). -/
theorem Trunk.Sound.of_turn {x : Trunk} (h : x.Sound) {turn : Turn} (hx : x.turn = some turn) :
    x.state = .running ∨ x.state = .stopping := by
  by_contra hs
  cases hx.symm.trans (h.resting hs).2

/-- And so is one whose phase is not IDLE (Table 5-5). -/
theorem Trunk.Sound.of_phase {x : Trunk} (h : x.Sound) (hx : x.phase ≠ .idle) :
    x.state = .running ∨ x.state = .stopping := by
  by_contra hs
  exact hx (h.resting hs).1

/-- No idle watch runs on a trunk that is not STARTING (R93). -/
theorem Trunk.Sound.watch_none {x : Trunk} (h : x.Sound) (hx : x.state ≠ .starting) : x.watch = none := by
  obtain ⟨-, -, -, -, hwatch⟩ := h
  exact Option.not_isSome_iff_eq_none.1 fun e => hx (hwatch.1 e)

/-- A trunk without an idle watch that is laid at rest is sound in any state but STARTING (R96, R97). -/
theorem Trunk.quiet_sound {x : Trunk} (h : x.watch = none) {state : TrunkState} (hs : state ≠ .starting) (cause : Cause)
    (tag : Option Byte) : ({ x.quiet with state := state, cause := cause, stopTag := tag } : Trunk).Sound :=
  ⟨rfl, rfl, fun _ _ => ⟨rfl, rfl⟩, fun _ => ⟨rfl, rfl⟩, by simp [Trunk.quiet, h, hs]⟩

/-- In service, a trunk may take any turn (R100). -/
theorem Trunk.Sound.setTurn {x : Trunk} (h : x.Sound) (hs : x.state = .running ∨ x.state = .stopping)
    (turn : Option Turn) : ({ x with turn := turn } : Trunk).Sound := by
  obtain ⟨hde, hmark, -, hround, hwatch⟩ := h
  exact ⟨hde, hmark, fun hr hst => (hs.elim hr hst).elim, hround, hwatch⟩

/-- In service, a trunk may enter any phase with its pins to match (Table 5-5). -/
theorem Trunk.Sound.enterPhase {x : Trunk} (h : x.Sound) (hs : x.state = .running ∨ x.state = .stopping) (p : Phase) :
    ({ x with phase := p, de := p.isSending, txMark := !p.isSending } : Trunk).Sound := by
  obtain ⟨-, -, -, hround, hwatch⟩ := h
  exact ⟨rfl, rfl, fun hr hst => (hs.elim hr hst).elim, hround, hwatch⟩

/-- In service and not SENDING, a trunk may enter any other such phase, its pins unchanged (Table 5-5). -/
theorem Trunk.Sound.setPhase {x : Trunk} (h : x.Sound) (hs : x.state = .running ∨ x.state = .stopping)
    (hx : x.phase.isSending = false) {p : Phase} (hp : p.isSending = false) :
    ({ x with phase := p } : Trunk).Sound := by
  obtain ⟨hde, hmark, -, hround, hwatch⟩ := h
  exact ⟨by rw [hde, hx, hp], by rw [hmark, hx, hp], fun hr hst => (hs.elim hr hst).elim, hround, hwatch⟩

/-- A RUNNING trunk may have any round (R70, R73). -/
theorem Trunk.Sound.setRound {x : Trunk} (h : x.Sound) (hs : x.state = .running) (round : Option Round)
    (next : Option Time) : ({ x with round := round, nextRound := next } : Trunk).Sound := by
  obtain ⟨hde, hmark, hrest, -, hwatch⟩ := h
  exact ⟨hde, hmark, hrest, fun hr => (hr hs).elim, hwatch⟩

/-! ### The relation -/

/-- An event between `s` and `t` that keeps the field side: it seats no new station, in the seat of trunk, address and
poll class that each had, and leaves each trunk sound that was so. -/
structure FieldKept (s t : State) : Prop where
  stations : ∀ (i : StationId) (b : Station), t.roster[i] = some b →
    ∃ a, s.roster[i] = some a ∧ b.trunk = a.trunk ∧ b.address = a.address ∧ b.pollClass = a.pollClass
  trunks : ∀ k : TrunkId, (s.trunks[k]).Sound → (t.trunks[k]).Sound

/-- Such an event keeps the roster sound (R67). -/
theorem FieldKept.rosterSound {s t : State} (h : FieldKept s t) (hs : RosterSound s) : RosterSound t := by
  obtain ⟨unique, range⟩ := hs
  refine ⟨fun i j a b ha hb htrunk haddress => ?_, fun i a ha => ?_⟩
  · obtain ⟨a', ha', eta, eaa, -⟩ := h.stations i a ha
    obtain ⟨b', hb', etb, eab, -⟩ := h.stations j b hb
    exact unique i j a' b' ha' hb' (by rw [← eta, ← etb, htrunk]) (by rw [← eaa, ← eab, haddress])
  · obtain ⟨a', ha', -, eaa, epc⟩ := h.stations i a ha
    rw [eaa, epc]
    exact range i a' ha'

/-- And the trunks (R90). -/
theorem FieldKept.trunksSound {s t : State} (h : FieldKept s t) (hs : TrunksSound s) : TrunksSound t :=
  fun k => h.trunks k (hs k)

namespace FieldKept
variable {s t u v : State}

theorem refl (s : State) : FieldKept s s := ⟨fun _ b hb => ⟨b, hb, rfl, rfl, rfl⟩, fun _ h => h⟩

theorem trans (h : FieldKept s t) (g : FieldKept t u) : FieldKept s u where
  stations i b hb := by
    obtain ⟨a, ha, et, ea, ep⟩ := g.stations i b hb
    obtain ⟨c, hc, et', ea', ep'⟩ := h.stations i a ha
    exact ⟨c, hc, et.trans et', ea.trans ea', ep.trans ep'⟩
  trunks k hk := g.trunks k (h.trunks k hk)

/-- What leaves the roster and the trunks. -/
theorem frame (h : FieldKept s u) (hr : v.roster = u.roster) (ht : v.trunks = u.trunks) : FieldKept s v :=
  h.trans ⟨fun _ b hb => ⟨b, hr ▸ hb, rfl, rfl, rfl⟩, fun _ hk => by rw [ht]; exact hk⟩

/-- What replaces a trunk by one that is sound if it was. -/
theorem setTrunk (h : FieldKept s u) {k : TrunkId} {x : Trunk} (hx : (u.trunks[k]).Sound → x.Sound) :
    FieldKept s (u.setTrunk k x) where
  stations := h.stations
  trunks j hj := by
    rw [State.setTrunk_trunks, get_setAt]
    split
    · subst_vars; exact hx (h.trunks j hj)
    · exact h.trunks j hj

/-- What replaces a station by one in its seat. -/
theorem setStation (h : FieldKept s u) {i : StationId} {a : Station} (ha : u.roster[i] = some a) {b : Station}
    (ht : b.trunk = a.trunk) (hd : b.address = a.address) (hp : b.pollClass = a.pollClass) :
    FieldKept s (u.setStation i (some b)) :=
  h.trans ⟨fun j c hc => by
    rw [State.setStation_roster, get_setAt] at hc
    split at hc
    · subst_vars; cases hc; exact ⟨a, ha, ht, hd, hp⟩
    · exact ⟨c, hc, rfl, rfl, rfl⟩, fun _ hk => hk⟩

/-- What frees a slot. -/
theorem freeSlot (h : FieldKept s u) (i : StationId) : FieldKept s (u.setStation i none) :=
  h.trans ⟨fun j c hc => by
    rw [State.setStation_roster, get_setAt] at hc
    split at hc
    · cases hc
    · exact ⟨c, hc, rfl, rfl, rfl⟩, fun _ hk => hk⟩

/-- What changes a station in its seat, if the slot holds one. -/
theorem mapStation (h : FieldKept s u) (i : StationId) {f : Station → Station} (ht : ∀ a, (f a).trunk = a.trunk)
    (hd : ∀ a, (f a).address = a.address) (hp : ∀ a, (f a).pollClass = a.pollClass) :
    FieldKept s (u.mapStation i f) := by
  unfold State.mapStation
  cases e : u.roster[i] with
  | none => exact h.freeSlot i
  | some a => exact h.setStation e (ht a) (hd a) (hp a)

/-! ### The operations the commands share -/

theorem setLink (h : FieldKept s u) (l : Link) : FieldKept s (u.setLink l) := h.frame rfl rfl

theorem setNotices (h : FieldKept s u) (q : NoticeQueue) : FieldKept s (u.setNotices q) := h.frame rfl rfl

theorem setDirectives (h : FieldKept s u) (es : List Directive) : FieldKept s (u.setDirectives es) := h.frame rfl rfl

theorem answer (h : FieldKept s u) (kind tag : Byte) (status : Status) (results : List Byte) :
    FieldKept s (u.answer kind tag status results) := h.setLink _

theorem raise (h : FieldKept s u) (n : Notice) : FieldKept s (u.raise n) := h.frame (by simp) (by simp)

theorem advanceTo (h : FieldKept s u) (due : Time) : FieldKept s (u.advanceTo due) := h.frame (by simp) (by simp)

theorem countStation (h : FieldKept s u) (i : StationId) (f : StationCounters → StationCounters) :
    FieldKept s (u.countStation i f) := h.mapStation i (fun _ => rfl) (fun _ => rfl) fun _ => rfl

theorem countTrunk (h : FieldKept s u) (k : TrunkId) (f : TrunkCounters → TrunkCounters) :
    FieldKept s (u.countTrunk k f) := h.setTrunk fun hx => hx

theorem settle (h : FieldKept s u) (turn : Turn) (ack : Option (Byte × Byte)) : FieldKept s (u.settle turn ack) :=
  h.frame (by simp) (by simp)

theorem attach (h : FieldKept s u) (i : StationId) : FieldKept s (u.attach i).2 := by
  unfold State.attach
  split
  · exact h
  · exact h.setDirectives _

theorem countStray (h : FieldKept s u) (turn : Turn) (n : Byte) : FieldKept s (u.countStray turn n) := by
  unfold State.countStray
  split
  · exact h.countStation _ _
  · exact h

theorem outcome (h : FieldKept s u) (b : Bool) (g : Nat) (is : List RuleId) : FieldKept s (u.outcome b g is) :=
  h.frame rfl rfl

theorem acceptRecord (h : FieldKept s u) (i : StationId) (seq : Byte) (gap : Nat) :
    FieldKept s (u.acceptRecord i seq gap) := by
  unfold State.acceptRecord
  extract_lets moved
  have moved : FieldKept s moved := h.mapStation i (fun _ => rfl) (fun _ => rfl) fun _ => rfl
  split
  · exact moved
  · exact moved.raise _

/-- A turn in flight moves to another stage (R75). -/
theorem setStage (h : FieldKept s u) {k : TrunkId} {old : Turn} (hturn : (u.trunks[k]).turn = some old) (turn : Turn)
    (stage : TurnStage) : FieldKept s (u.setStage k turn stage) :=
  h.setTrunk fun hx => hx.setTurn (hx.of_turn hturn) _

/-! ### Removals and group moves -/

theorem freeStation (h : FieldKept s u) (i : StationId) : FieldKept s (u.freeStation i) :=
  FieldKept.freeSlot (h.frame (by simp) (by simp)) i

theorem completeRemoval (h : FieldKept s u) (i : StationId) (st : Station) :
    FieldKept s (u.completeRemoval i st) := by
  unfold State.completeRemoval
  split
  · exact (h.freeStation i).answer _ _ _ _
  · exact h.freeStation i

/-- What every step of a fold does, the fold does. -/
theorem foldl {α : Type} {f : State → α → State} (hf : ∀ u a, FieldKept s u → FieldKept s (f u a)) :
    ∀ (l : List α) {u : State}, FieldKept s u → FieldKept s (l.foldl f u)
  | [], _, h => h
  | a :: l, _, h => foldl hf l (hf _ a h)

theorem groundStations (h : FieldKept s u) (k : TrunkId) : FieldKept s (u.groundStations k) := by
  refine foldl (fun u i h => ?_) _ h
  unfold State.groundStation
  split
  · rename_i st hst
    split
    · split
      · exact h.completeRemoval i st
      · refine h.setStation hst ?_ ?_ ?_ <;> unfold Station.grounded <;> split <;> rfl
    · exact h
  · exact h

theorem wakeStations (h : FieldKept s u) (k : TrunkId) : FieldKept s (u.wakeStations k) := by
  refine h.trans ⟨fun i b hb => ?_, fun _ hk => hk⟩
  have hmap : (u.wakeStations k).roster[i] = (u.roster[i]).map (Station.woken k) := by simp [State.wakeStations]
  rw [hmap] at hb
  obtain ⟨a, ha, rfl⟩ := Option.map_eq_some_iff.1 hb
  refine ⟨a, ha, ?_, ?_, ?_⟩ <;> unfold Station.woken <;> split <;> rfl

theorem abandonTurn (h : FieldKept s u) (turn : Option Turn) : FieldKept s (u.abandonTurn turn) := by
  unfold State.abandonTurn
  split
  · have settled := h.settle ‹Turn› none
    unfold State.abandonStation
    split
    · rename_i hst
      split
      · exact settled.completeRemoval _ _
      · split
        · exact (settled.setStation hst (by rfl) (by rfl) (by rfl)).raise _
        · exact settled
    · exact settled
  · exact h

theorem closeStation (h : FieldKept s u) (turn : Turn) (limit : Nat) : FieldKept s (u.closeStation turn limit) := by
  unfold State.closeStation
  split
  · rename_i hst
    split
    · exact h.completeRemoval _ _
    · extract_lets outcome now closed
      have moved : FieldKept s closed := h.setStation hst (by rfl) (by rfl) (by rfl)
      split
      · exact moved
      · exact moved.raise _
  · exact h

theorem discardUnwalked (h : FieldKept s u) (i : StationId) (k : TrunkId) :
    FieldKept s (State.discardUnwalked i u k) := by
  unfold State.discardUnwalked
  split
  · rename_i hturn
    split
    · exact FieldKept.countStation (h.setTrunk fun hx => hx.setTurn (hx.of_turn hturn) _) _ _
    · exact h
  · exact h

theorem restartStation (h : FieldKept s u) (i : StationId) : FieldKept s (u.restartStation i) := by
  refine FieldKept.raise (h.mapStation i ?_ ?_ ?_) _ <;> exact fun _ => rfl

end FieldKept
end Sys2Proof.Machine
end

section
/-! What replaces the field side of a state passes through what does not look at it (R115 to R119, R146). -/

namespace Sys2Proof.Machine

/-- The state with another roster and other trunks. -/
def State.onField (s : State) (roster : Vector (Option Station) 64) (trunks : Vector Trunk 2) : State :=
  { s with roster := roster, trunks := trunks }

section
variable (s : State) (r : Vector (Option Station) 64) (ts : Vector Trunk 2)

/-- Raising a notice does not look at the field side (R146). -/
theorem State.raise_onField (n : Notice) : (s.onField r ts).raise n = (s.raise n).onField r ts := by
  unfold State.raise State.onField
  dsimp only
  split <;> rfl

theorem State.completeDirective_onField (d : Directive) (o : DirectiveOutcome) (b : Byte) (n : Nat) :
    (s.onField r ts).completeDirective d o b n = (s.completeDirective d o b n).onField r ts :=
  (s.setDirectives (s.directives.without d.id)).raise_onField r ts _

theorem State.unacknowledged_onField (d : Directive) (mark : Bool) :
    (s.onField r ts).unacknowledged d mark = (s.unacknowledged d mark).onField r ts := by
  unfold State.unacknowledged
  split
  · split
    · exact s.completeDirective_onField r ts _ _ _ _
    · rfl
  · rfl

/-- A settlement looks at the directives only (R115 to R117). -/
theorem State.settle_onField (turn : Turn) (ack : Option (Byte × Byte)) :
    (s.onField r ts).settle turn ack = (s.settle turn ack).onField r ts := by
  have hfind : turn.directive.bind (s.onField r ts).directives.find = turn.directive.bind s.directives.find := rfl
  unfold State.settle
  rw [hfind]
  split
  · rfl
  · split
    · split
      · exact s.completeDirective_onField r ts _ _ _ _
      · exact s.unacknowledged_onField r ts _ _
    · exact s.unacknowledged_onField r ts _ _

end

theorem State.settle_setTrunk (s : State) (k : TrunkId) (x : Trunk) (turn : Turn) (ack : Option (Byte × Byte)) :
    (s.setTrunk k x).settle turn ack = (s.settle turn ack).setTrunk k x := by
  refine (s.settle_onField s.roster (setAt s.trunks k x) turn ack).trans ?_
  unfold State.onField State.setTrunk
  congr 1 <;> simp

theorem State.raise_setTrunk (s : State) (k : TrunkId) (x : Trunk) (n : Notice) :
    (s.setTrunk k x).raise n = (s.raise n).setTrunk k x := by
  refine (s.raise_onField s.roster (setAt s.trunks k x) n).trans ?_
  unfold State.onField State.setTrunk
  congr 1 <;> simp

end Sys2Proof.Machine
end

section
/-! The echo fault and the operations of the trunks, on the field side (R73 to R78, R95 to R107). -/

namespace Sys2Proof.Machine

/-! ### A turn that is abandoned -/

section
variable (s : State) (k : TrunkId) (x : Trunk)

theorem State.completeDirective_setTrunk (d : Directive) (o : DirectiveOutcome) (b : Byte) (n : Nat) :
    (s.setTrunk k x).completeDirective d o b n = (s.completeDirective d o b n).setTrunk k x :=
  (s.setDirectives (s.directives.without d.id)).raise_setTrunk k x _

theorem State.freeStation_setTrunk (i : StationId) :
    (s.setTrunk k x).freeStation i = (s.freeStation i).setTrunk k x := by
  have aborted : (s.setTrunk k x).abortDirectives i = (s.abortDirectives i).setTrunk k x :=
    List.foldl_hom (fun u : State => u.setTrunk k x) fun u d => u.completeDirective_setTrunk k x d _ _ _
  unfold State.freeStation
  rw [aborted]
  rfl

theorem State.completeRemoval_setTrunk (i : StationId) (st : Station) :
    (s.setTrunk k x).completeRemoval i st = (s.completeRemoval i st).setTrunk k x := by
  unfold State.completeRemoval
  rw [State.freeStation_setTrunk]
  split <;> rfl

theorem State.abandonStation_setTrunk (turn : Turn) :
    (s.setTrunk k x).abandonStation turn = (s.abandonStation turn).setTrunk k x := by
  unfold State.abandonStation
  rw [State.setTrunk_roster]
  split
  · split
    · exact s.completeRemoval_setTrunk k x _ _
    · split
      · exact (s.setStation _ _).raise_setTrunk k x _
      · rfl
  · rfl

/-- An abandoned turn ends beside the trunks (R78, R117). -/
theorem State.abandonTurn_setTrunk (turn : Option Turn) :
    (s.setTrunk k x).abandonTurn turn = (s.abandonTurn turn).setTrunk k x := by
  unfold State.abandonTurn
  split
  · rw [State.settle_setTrunk, State.abandonStation_setTrunk]
  · rfl

end

/-! ### The echo fault (R97, R102) -/

/-- A trunk that has counted an echo fault. -/
def Trunk.echoCounted (x : Trunk) : Trunk :=
  { x with echoRun := x.echoRun + 1, counters := { x.counters with echoFaults := bump x.counters.echoFaults 1 } }

section
variable {s : State} {k : TrunkId}

/-- Below the third fault in a row the attempt settles (R102, R107). -/
theorem State.echoFault_below (h : (s.trunks[k]).echoRun + 1 < 3) : s.echoFault k =
    s.setTrunk k { (s.trunks[k]).echoCounted with
      phase := .settling (later s.timeBase (byteTimes (s.trunks[k]).config.rate 3)), de := false, txMark := true } := by
  unfold State.echoFault
  dsimp only
  rw [if_neg (by simp only [Config.maxEchoRun]; omega), State.beginSettling, State.setPhase, State.setTrunk_get,
    State.setTrunk_setTrunk]
  rfl

/-- The trunk whose third echo fault in a row it is has become FAULTED with its stations (R89, R97). -/
def State.echoFaulted (s : State) (k : TrunkId) : State :=
  let x := s.trunks[k]
  ((((s.abandonTurn x.turn).setTrunk k { x.echoCounted.quiet with
    state := .faulted, cause := .echo, stopTag := none }).groundStations k).raise
      (.trunkState k x.state .faulted .echo)).answerStop x.stopTag .faulted

/-- At the third the trunk faults (R97, R102, R110). -/
theorem State.echoFault_third (h : 3 ≤ (s.trunks[k]).echoRun + 1) : s.echoFault k =
    if s.closeStopping then (s.echoFaulted k).stopFaulted k else s.echoFaulted k := by
  unfold State.echoFault
  dsimp only
  rw [if_pos (show Config.maxEchoRun ≤ (s.trunks[k]).echoRun + 1 from h), State.faultTrunk]
  dsimp only
  rw [State.setTrunk_get, State.abandonTurn_setTrunk, State.setTrunk_setTrunk]
  rfl

theorem State.echoFaulted_trunks : (s.echoFaulted k).trunks = setAt s.trunks k
    { (s.trunks[k]).echoCounted.quiet with state := .faulted, cause := .echo, stopTag := none } := by
  simp [State.echoFaulted]

end

/-! ### Trunks that change their state -/

/-- A resting trunk may take any state but the two in service, and RUNNING, with its idle watch to match (R93, R94). -/
theorem Trunk.Sound.setState {x : Trunk} (h : x.Sound) (hx : ¬ (x.state = .running ∨ x.state = .stopping))
    {state : TrunkState} {watch : Option StartWatch} (hw : watch.isSome ↔ state = .starting) :
    ({ x with state := state, watch := watch } : Trunk).Sound := by
  have rests := h.resting hx
  obtain ⟨hde, hmark, -, hround, -⟩ := h
  exact ⟨hde, hmark, fun _ _ => rests, fun _ => hround fun e => hx (.inl e), hw⟩

/-- A RUNNING trunk becomes STOPPING, its round dropped (R74, R95). -/
theorem Trunk.Sound.stopping {x : Trunk} (h : x.Sound) (hx : x.state = .running) (tag : Option Byte) :
    ({ x with state := .stopping, round := none, nextRound := none, stopTag := tag } : Trunk).Sound := by
  have hwatch := h.watch_none (by simp [hx])
  obtain ⟨hde, hmark, -, -, -⟩ := h
  exact ⟨hde, hmark, fun _ hst => (hst rfl).elim, fun _ => ⟨rfl, rfl⟩, by simp [hwatch]⟩

/-- A FAULTED trunk becomes STOPPED (R95, R110). -/
theorem Trunk.Sound.stopFaulted {x : Trunk} (h : x.Sound) (hx : x.state = .faulted) :
    ({ x with state := .stopped } : Trunk).Sound :=
  h.setState (by simp [hx]) (by simp [h.watch_none (by simp [hx])])

/-- The turn and the round of a RUNNING trunk, as a turn begins (R70, R100). -/
theorem Trunk.Sound.beginTurn {x : Trunk} (h : x.Sound) (hx : x.state = .running) (turn : Option Turn)
    (round : Option Round) : ({ x with turn := turn, round := round } : Trunk).Sound :=
  Trunk.Sound.setRound (h.setTurn (.inl hx) turn) hx round _

/-- A trunk that sends is in service (Table 5-5). -/
theorem Trunk.Sound.of_sending {x : Trunk} (h : x.Sound) (hx : x.phase.isSending = true) :
    x.state = .running ∨ x.state = .stopping :=
  h.of_phase fun e => by simp [e, Phase.isSending] at hx

/-- The trunk that an echo fault makes FAULTED rests (R97). -/
theorem Trunk.Sound.echoFaulted {x : Trunk} (h : x.Sound) (hx : x.phase.isSending = true) :
    ({ x.echoCounted.quiet with state := .faulted, cause := .echo, stopTag := none } : Trunk).Sound :=
  Trunk.quiet_sound (x := x.echoCounted) (h.watch_none fun e => by simpa [e] using h.of_sending hx) (by simp) _ _

namespace FieldKept
variable {s t u v : State}

/-! ### Rounds (R70, R73) -/

theorem startRound (h : FieldKept s u) {k : TrunkId} (hk : (u.trunks[k]).state = .running) :
    FieldKept s (u.startRound k) := h.setTrunk fun hx => hx.setRound hk _ _

theorem endRound (h : FieldKept s u) {k : TrunkId} (hk : (u.trunks[k]).state = .running) (turned : Bool) :
    FieldKept s (u.endRound k turned) := h.setTrunk fun hx => hx.setRound hk _ _

theorem endRoundIfDone (h : FieldKept s u) {k : TrunkId} (hk : (u.trunks[k]).state = .running) :
    FieldKept s (u.endRoundIfDone k) := by
  unfold State.endRoundIfDone
  split
  · split
    · exact h.endRound hk _
    · exact h
  · exact h

theorem skipPlace (h : FieldKept s u) {k : TrunkId} (hk : (u.trunks[k]).state = .running) (r : Round)
    (places : List Place) : FieldKept s (u.skipPlace k r places) :=
  FieldKept.endRoundIfDone (h.setTrunk fun hx => hx.setRound hk _ _) (by rw [State.setTrunk_get]; exact hk)

/-! ### Stops and faults (R95 to R98) -/

theorem answerStop (h : FieldKept s u) (tag : Option Byte) (state : TrunkState) :
    FieldKept s (u.answerStop tag state) := by
  unfold State.answerStop
  split
  · exact h.answer _ _ _ _
  · exact h

theorem completeStop (h : FieldKept s u) {k : TrunkId} (hk : (u.trunks[k]).state ≠ .starting) :
    FieldKept s (u.completeStop k) :=
  (((h.setTrunk fun hx => Trunk.quiet_sound (hx.watch_none hk) (by simp) _ _).groundStations k).answerStop _ _).raise _

theorem stopFaulted (h : FieldKept s u) {k : TrunkId} (hk : (u.trunks[k]).state = .faulted) :
    FieldKept s (u.stopFaulted k) :=
  FieldKept.raise (h.setTrunk fun hx => hx.stopFaulted hk) _

theorem echoFault (h : FieldKept s u) {k : TrunkId} (hk : (u.trunks[k]).phase.isSending = true) :
    FieldKept s (u.echoFault k) := by
  by_cases hrun : (u.trunks[k]).echoRun + 1 < 3
  · rw [State.echoFault_below hrun]
    exact h.setTrunk fun hx => hx.enterPhase (hx.of_sending hk) (.settling _)
  · rw [State.echoFault_third (by omega)]
    have htrunks : (u.abandonTurn (u.trunks[k]).turn).trunks = u.trunks := by simp
    have faulted : FieldKept s (u.echoFaulted k) := by
      refine FieldKept.answerStop (FieldKept.raise (FieldKept.groundStations (FieldKept.setTrunk (h.abandonTurn _)
        fun hx => ?_) k) _) _ _
      rw [htrunks] at hx
      exact hx.echoFaulted hk
    split
    · exact faulted.stopFaulted (by rw [State.echoFaulted_trunks, get_setAt, if_pos rfl])
    · exact faulted

/-! ### The poll turn (R100 to R107) -/

theorem beginPoll (h : FieldKept s u) {k : TrunkId} {turn old : Turn} (hturn : (u.trunks[k]).turn = some old) :
    FieldKept s (u.beginPoll k turn) := by
  unfold State.beginPoll
  split
  · exact h.setTrunk fun hx => hx.enterPhase (hx.of_turn hturn) (.sending _ _ _)
  · exact h

theorem beginTurn (h : FieldKept s u) {k : TrunkId} (hk : (u.trunks[k]).state = .running) (i : StationId)
    (st : Station) (places : List Place) : FieldKept s (u.beginTurn k i st places) := by
  have htrunks : (u.attach i).2.trunks = u.trunks := by unfold State.attach; split <;> rfl
  refine FieldKept.beginPoll (FieldKept.setTrunk (h.attach i) fun hx => ?_) (by rw [State.setTrunk_get])
  rw [htrunks] at hx ⊢
  exact hx.beginTurn hk _ _

/-- A phase with a turn in flight, but not SENDING. -/
theorem setPhase (h : FieldKept s u) {k : TrunkId} (hk : (u.trunks[k]).phase ≠ .idle)
    (hp : (u.trunks[k]).phase.isSending = false) {p : Phase} (hq : p.isSending = false) :
    FieldKept s (u.setPhase k p) := h.setTrunk fun hx => hx.setPhase (hx.of_phase hk) hp hq


end FieldKept
end Sys2Proof.Machine
end

section
/-! The end of an attempt, of a turn and of an idle watch, on the field side (R75, R94 to R96, R103 to R107). -/

namespace Sys2Proof.Machine

/-! ### A failed attempt (R106, R107) -/

section
variable (s : State) (k : TrunkId) (x : Trunk)

/-- The settle gap of 3 byte times on a trunk just replaced (R107). -/
theorem State.beginSettling_setTrunk : (s.setTrunk k x).beginSettling k =
    s.setTrunk k { x with phase := .settling (later s.timeBase (byteTimes x.config.rate 3)) } := by
  rw [State.beginSettling, State.setPhase, State.setTrunk_get, State.setTrunk_setTrunk]
  rfl

theorem State.setStage_setTrunk (turn : Turn) (stage : TurnStage) : (s.setTrunk k x).setStage k turn stage =
    s.setTrunk k { x with turn := some { turn with stage := stage } } := by
  rw [State.setStage, State.setTrunk_get, State.setTrunk_setTrunk]

end

section
variable {s : State} {k : TrunkId} {turn : Turn}

/-- With a retry left, the next attempt follows the settle gap (R106). -/
theorem State.failAttempt_retry (h : turn.attempt < 1 + (s.trunks[k]).config.retries) : s.failAttempt k turn =
    s.setTrunk k { s.trunks[k] with
      phase := .settling (later s.timeBase (byteTimes (s.trunks[k]).config.rate 3))
      turn := some { turn with attempt := turn.attempt + 1 } } := by
  unfold State.failAttempt
  dsimp only
  rw [if_pos h, State.beginSettling_setTrunk]

/-- A turn with one more MISS at its station's counters (R75). -/
def StationCounters.missed (c : StationCounters) : StationCounters :=
  { c with turns := bump c.turns 1, misses := bump c.misses 1 }

/-- After the last attempt the turn ends as a MISS (R75, R106). -/
theorem State.failAttempt_miss (h : ¬ turn.attempt < 1 + (s.trunks[k]).config.retries) : s.failAttempt k turn =
    ((s.setTrunk k { s.trunks[k] with
      phase := .settling (later s.timeBase (byteTimes (s.trunks[k]).config.rate 3))
      turn := some { turn with stage := .missed } }).countStation turn.slot StationCounters.missed).settle turn
        none := by
  unfold State.failAttempt
  dsimp only
  rw [if_neg h, State.endAsMiss, State.beginSettling, State.setPhase, State.setStage_setTrunk]
  rfl

end

/-! ### The ends of an idle watch (R74, R94) -/

theorem State.runTrunk_eq (s : State) (k : TrunkId) (w : StartWatch) (due : Time) : s.runTrunk k w due =
    (((((s.advanceTo due).setTrunk k { s.trunks[k] with
      state := .running, watch := none, roundCounter := 0 }).wakeStations k).startRound k).answer 0x29#8 w.tag .ok
        []).raise (.trunkState k .starting .running .request) := rfl

theorem State.failStart_eq (s : State) (k : TrunkId) (w : StartWatch) : s.failStart k w =
    (((s.advanceTo w.limit).setTrunk k { s.trunks[k] with
      state := .faulted, cause := .lineBusy, watch := none }).answer 0x29#8 w.tag .lineBusy []).raise
        (.trunkState k .starting .faulted .lineBusy) := rfl

/-! ### What an end keeps -/

/-- A trunk whose attempt has ended settles, with whatever its turn has become (R107). -/
theorem Trunk.Sound.settles {x : Trunk} (h : x.Sound) {old : Turn} (hold : x.turn = some old)
    (hp : x.phase.isSending = false) (due : Time) (turn : Option Turn) :
    ({ x with phase := .settling due, turn := turn } : Trunk).Sound :=
  Trunk.Sound.setPhase (h.setTurn (h.of_turn hold) turn) (h.of_turn hold) hp rfl

namespace FieldKept
variable {s t u v : State}

section
variable {k : TrunkId} {turn old : Turn}

theorem failAttempt (h : FieldKept s u) (hold : (u.trunks[k]).turn = some old)
    (hp : (u.trunks[k]).phase.isSending = false) : FieldKept s (u.failAttempt k turn) := by
  by_cases hretry : turn.attempt < 1 + (u.trunks[k]).config.retries
  · rw [State.failAttempt_retry hretry]
    exact h.setTrunk fun hx => hx.settles hold hp _ _
  · rw [State.failAttempt_miss hretry]
    exact (FieldKept.countStation (h.setTrunk fun hx => hx.settles hold hp _ _) _ _).settle _ _

/-- An attempt that fails for a cause, which is counted (R103 to R105). -/
theorem failCounted (h : FieldKept s u) (f : TrunkCounters → TrunkCounters) (hold : (u.trunks[k]).turn = some old)
    (hp : (u.trunks[k]).phase.isSending = false) : FieldKept s ((u.countTrunk k f).failAttempt k turn) := by
  have hget : (u.countTrunk k f).trunks[k] = { u.trunks[k] with counters := f (u.trunks[k]).counters } :=
    State.setTrunk_get ..
  exact (h.countTrunk k f).failAttempt (old := old) (by rw [hget]; exact hold) (by rw [hget]; exact hp)

theorem breakReply (h : FieldKept s u) (hold : (u.trunks[k]).turn = some old)
    (hp : (u.trunks[k]).phase.isSending = false) : FieldKept s (u.breakReply k turn) := h.failCounted _ hold hp

/-! ### A HIT (R75, R105) -/

theorem layOut (h : FieldKept s u) (hold : (u.trunks[k]).turn = some old) (rs : List ReplyRecord) :
    FieldKept s (u.layOut k turn rs) := by
  unfold State.layOut
  split
  · split
    · exact (h.setStage hold _ _).countStation _ _
    · exact h.setStage hold _ _
  · exact h.setStage hold _ _

theorem endAsHit (h : FieldKept s u) (hold : (u.trunks[k]).turn = some old)
    (hp : (u.trunks[k]).phase.isSending = false) (frame : ReplyFrame) : FieldKept s (u.endAsHit k turn frame) := by
  unfold State.endAsHit
  extract_lets counted settled
  have htrunks : settled.trunks = counted.trunks := by
    simp only [settled, State.countStray]
    split <;> simp
  have hturn : (counted.trunks[k]).turn = some old := by
    have : counted = (((u.setTrunk k { u.trunks[k] with
        counters := { (u.trunks[k]).counters with
          goodReplies := bump (u.trunks[k]).counters.goodReplies 1 } }).beginSettling k).countHit turn.slot) := rfl
    rw [this, State.beginSettling_setTrunk, State.countHit]
    exact (congrArg Trunk.turn (State.setTrunk_get ..)).trans hold
  have counted : FieldKept s counted := by
    refine FieldKept.mapStation (u := (u.countTrunk k _).beginSettling k) ?_ _ (fun _ => rfl) (fun _ => rfl)
      fun _ => rfl
    rw [State.countTrunk, State.beginSettling_setTrunk]
    exact h.setTrunk fun hx => hx.settles hold hp _ (u.trunks[k]).turn
  have settled : FieldKept s settled := (counted.countStray turn frame.ack).settle turn _
  rw [← htrunks] at hturn
  split
  · exact (settled.restartStation turn.slot).layOut (by simpa [State.restartStation] using hturn) _
  · exact settled.layOut hturn _

theorem completeReply (h : FieldKept s u) (hold : (u.trunks[k]).turn = some old)
    (hp : (u.trunks[k]).phase.isSending = false) (chars : List Byte) : FieldKept s (u.completeReply k turn chars) := by
  unfold State.completeReply
  split
  · exact h.failCounted _ hold hp
  · exact h.failCounted _ hold hp
  · exact h.breakReply hold hp
  · exact h.endAsHit hold hp _

end

/-! ### The close of a turn, and the ends of an idle watch (R75, R94, R96) -/

theorem turnClosed (h : FieldKept s u) {k : TrunkId} {old : Turn} (hold : (u.trunks[k]).turn = some old) :
    FieldKept s (u.turnClosed k) := by
  have closed : FieldKept s (u.setTrunk k { u.trunks[k] with turn := none }) :=
    h.setTrunk fun hx => hx.setTurn (hx.of_turn hold) none
  unfold State.turnClosed
  split
  · rename_i hst
    exact closed.completeStop (by rw [State.setTrunk_get, hst]; simp)
  · rename_i hst
    exact closed.endRoundIfDone (by rw [State.setTrunk_get, hst])
  · exact closed

theorem runTrunk (h : FieldKept s u) {k : TrunkId} (hk : (u.trunks[k]).state = .starting) (w : StartWatch)
    (due : Time) : FieldKept s (u.runTrunk k w due) := by
  rw [State.runTrunk_eq]
  have running : FieldKept s ((u.advanceTo due).setTrunk k
      { u.trunks[k] with state := .running, watch := none, roundCounter := 0 }) :=
    (h.advanceTo due).setTrunk fun hx => Trunk.Sound.setState (x := u.trunks[k]) hx (by rw [hk]; simp) (by simp)
  exact (((running.wakeStations k).startRound (congrArg Trunk.state (State.setTrunk_get ..))).answer _ _ _ _).raise _

theorem failStart (h : FieldKept s u) {k : TrunkId} (hk : (u.trunks[k]).state = .starting) (w : StartWatch) :
    FieldKept s (u.failStart k w) := by
  rw [State.failStart_eq]
  exact FieldKept.raise (FieldKept.answer ((h.advanceTo w.limit).setTrunk fun hx =>
    Trunk.Sound.setState (x := u.trunks[k]) hx (by rw [hk]; simp) (by simp)) _ _ _ _) _

theorem beginStop (h : FieldKept s u) {k : TrunkId} (hk : (u.trunks[k]).state = .running) (tag : Option Byte) :
    FieldKept s (u.beginStop k tag) := by
  have stopping : FieldKept s (u.setTrunk k
      { u.trunks[k] with state := .stopping, round := none, nextRound := none, stopTag := tag }) :=
    h.setTrunk fun hx => hx.stopping hk tag
  unfold State.beginStop
  dsimp only
  split
  · exact stopping.completeStop (by rw [State.setTrunk_get]; simp)
  · exact stopping

theorem closeStopTrunk (h : FieldKept s u) (k : TrunkId) : FieldKept s (u.closeStopTrunk k) := by
  unfold State.closeStopTrunk
  split
  · exact h.stopFaulted ‹_›
  · exact h.beginStop ‹_› none
  all_goals exact h

end FieldKept
end Sys2Proof.Machine
end

section
/-! The requests at their owners, on the field side. -/

namespace Sys2Proof.Machine

/-! ### Work off the field side -/

/-- Work between `s` and `t` that leaves the roster and the trunks. -/
structure OffField (s t : State) : Prop where
  roster : t.roster = s.roster
  trunks : t.trunks = s.trunks

section
variable (tag : Byte) (body : List Byte) (s : State)

theorem linkOpen_offField : OffField s (linkOpen tag body s) := by
  unfold linkOpen
  split
  · exact ⟨rfl, rfl⟩
  · split <;> exact ⟨rfl, rfl⟩

theorem noticeMask_offField : OffField s (noticeMask tag body s) := by
  unfold noticeMask; split <;> exact ⟨rfl, rfl⟩

theorem ruleWrite_offField : OffField s (ruleWrite tag body s) := by
  unfold ruleWrite; split <;> exact ⟨rfl, rfl⟩

theorem ruleErase_offField : OffField s (ruleErase tag body s) := by
  unfold ruleErase; split <;> exact ⟨rfl, rfl⟩

theorem setWrite_offField : OffField s (setWrite tag body s) := by
  unfold setWrite; split <;> exact ⟨rfl, rfl⟩

theorem defaultWrite_offField : OffField s (defaultWrite tag body s) := by
  unfold defaultWrite; split <;> exact ⟨rfl, rfl⟩

theorem ruleCommit_offField : OffField s (ruleCommit tag body s) := by
  unfold ruleCommit; split <;> exact ⟨rfl, rfl⟩

theorem ruleRead_offField : OffField s (ruleRead tag body s) := by
  unfold ruleRead; split <;> exact ⟨rfl, rfl⟩

theorem channelEnable_offField : OffField s (channelEnable tag body s) := by
  unfold channelEnable
  split
  · dsimp only
    split
    · exact ⟨rfl, rfl⟩
    · split <;> exact ⟨rfl, rfl⟩
  · exact ⟨rfl, rfl⟩

theorem channelDisable_offField : OffField s (channelDisable tag body s) := by
  unfold channelDisable; split <;> constructor <;> simp

theorem channelCredit_offField : OffField s (channelCredit tag body s) := by
  unfold channelCredit
  split
  · dsimp only
    split
    · exact ⟨rfl, rfl⟩
    · split <;> exact ⟨rfl, rfl⟩
  · exact ⟨rfl, rfl⟩

theorem channelFlush_offField : OffField s (channelFlush tag body s) := by
  unfold channelFlush; split <;> constructor <;> simp

theorem channelQuery_offField : OffField s (channelQuery tag body s) := by
  unfold channelQuery; split <;> exact ⟨rfl, rfl⟩

theorem stationQuery_offField : OffField s (stationQuery tag body s) := by
  unfold stationQuery; split <;> exact ⟨rfl, rfl⟩

theorem trunkQuery_offField : OffField s (trunkQuery tag body s) := by
  unfold trunkQuery; split <;> exact ⟨rfl, rfl⟩

theorem directiveCancel_offField : OffField s (directiveCancel tag body s) := by
  unfold directiveCancel
  split
  · exact ⟨rfl, rfl⟩
  · split
    · exact ⟨rfl, rfl⟩
    · split <;> exact ⟨rfl, rfl⟩

theorem directiveQuery_offField : OffField s (directiveQuery tag body s) := by
  unfold directiveQuery
  split
  · exact ⟨rfl, rfl⟩
  · split <;> exact ⟨rfl, rfl⟩

theorem closeEnd_offField : OffField s (closeEnd s) := by
  unfold closeEnd
  split
  · split <;> exact ⟨rfl, rfl⟩
  · exact ⟨rfl, rfl⟩

theorem closeDirectiveStep_offField : OffField s (closeDirectiveStep s) := by
  refine ⟨?_, (closeDirectiveStep_work s).trunks⟩
  have flushed : ∀ u : State, u.flushStep.roster = u.roster :=
    foldl_keeps _ _ (fun s c => by simp [State.flushChannel]) _
  unfold closeDirectiveStep
  split
  · split
    · simp [flushed]
    · rfl
  · rfl

theorem holdExpiry_offField (c : ChannelId) : OffField s (holdExpiry c s) := by
  unfold holdExpiry; split <;> constructor <;> simp

end

namespace FieldKept
variable {s t u v : State}

theorem offField (h : FieldKept s u) (hv : OffField u v) : FieldKept s v := h.frame hv.roster hv.trunks

theorem enter (h : FieldKept s u) (kind tag : Byte) : FieldKept s (u.enter kind tag) := h.setLink _

theorem refuse (h : FieldKept s u) (kind tag : Byte) (status : Status) : FieldKept s (u.refuse kind tag status) := by
  unfold State.refuse
  split <;> exact h.setLink _

/-! ### Requests (R69, R84 to R87, R92 to R95, R113, R159) -/

theorem countersRead (h : FieldKept s u) (tag : Byte) (body : List Byte) : FieldKept s (countersRead tag body u) := by
  have clear : ∀ m, FieldKept s (u.clearCounters m) := fun m => by
    cases m with
    | channel c => exact h.frame rfl rfl
    | trunk t => exact h.countTrunk t fun _ => .zero
    | station i st => exact h.countStation i fun _ => .zero
    | link => exact h.setLink _
  unfold Machine.countersRead
  split
  · exact h.answer _ _ _ _
  · refine FieldKept.answer ?_ _ _ _ _
    split
    · exact clear _
    · exact h

theorem stationSuspend (h : FieldKept s u) (tag : Byte) (body : List Byte) :
    FieldKept s (stationSuspend tag body u) := by
  unfold Machine.stationSuspend
  split
  · exact h.answer _ _ _ _
  · rename_i i st hok
    obtain ⟨hst, -, -⟩ := State.rosterCheck_ok hok
    refine FieldKept.answer (h.setStation hst ?_ ?_ ?_) _ _ _ _ <;> split <;> rfl

theorem stationResume (h : FieldKept s u) (tag : Byte) (body : List Byte) :
    FieldKept s (stationResume tag body u) := by
  unfold Machine.stationResume
  split
  · exact h.answer _ _ _ _
  · rename_i i st hok
    obtain ⟨hst, -, -⟩ := State.rosterCheck_ok hok
    split
    · exact (h.setStation hst (by rfl) (by rfl) (by rfl)).answer _ _ _ _
    · exact h.answer _ _ _ _

theorem stationRemove (h : FieldKept s u) (tag : Byte) (body : List Byte) :
    FieldKept s (stationRemove tag body u) := by
  unfold Machine.stationRemove
  split
  · exact h.answer _ _ _ _
  · rename_i i st hok
    obtain ⟨hst, -, -⟩ := State.rosterCheck_ok hok
    split
    · exact foldl (fun u k h => h.discardUnwalked _ k) _ (h.setStation hst (by rfl) (by rfl) (by rfl))
    · exact (h.freeStation _).answer _ _ _ _

theorem directiveSubmit (h : FieldKept s u) (tag : Byte) (body : List Byte) :
    FieldKept s (directiveSubmit tag body u) := by
  unfold Machine.directiveSubmit
  split
  · exact h.answer _ _ _ _
  · split
    · exact h.answer _ _ _ _
    · split
      · exact h.answer _ _ _ _
      · split
        · exact h.answer _ _ _ _
        · extract_lets d
          refine FieldKept.answer (FieldKept.mapStation (h.frame (by rfl) (by rfl)) _ ?_ ?_ ?_) _ _ _ _ <;>
            exact fun _ => rfl

theorem trunkConfig (h : FieldKept s u) (tag : Byte) (body : List Byte) : FieldKept s (trunkConfig tag body u) := by
  unfold Machine.trunkConfig
  split
  · split
    iterate 2 exact FieldKept.answer (h.setTrunk (by exact id)) _ _ _ _
    all_goals exact h.answer _ _ _ _
  · exact h.answer _ _ _ _

theorem trunkStart (h : FieldKept s u) (tag : Byte) (body : List Byte) : FieldKept s (trunkStart tag body u) := by
  unfold Machine.trunkStart
  split
  · split
    · rename_i hst
      exact h.setTrunk fun hx => hx.setState (by rw [hst]; simp) (by simp)
    · rename_i hst
      exact h.setTrunk fun hx => hx.setState (by rw [hst]; simp) (by simp)
    all_goals exact h.answer _ _ _ _
  · exact h.answer _ _ _ _

theorem abortStart (h : FieldKept s u) {k : TrunkId} (hk : (u.trunks[k]).state = .starting) :
    FieldKept s (u.abortStart k) := by
  have stopped : FieldKept s (u.setTrunk k { u.trunks[k] with state := .stopped, watch := none }) :=
    h.setTrunk fun hx => hx.setState (by rw [hk]; simp) (by simp)
  unfold State.abortStart
  dsimp only
  split
  · exact stopped.answer _ _ _ _
  · exact stopped

theorem trunkStop (h : FieldKept s u) (tag : Byte) (body : List Byte) : FieldKept s (trunkStop tag body u) := by
  unfold Machine.trunkStop
  split
  · split
    · exact h.answer _ _ _ _
    · exact ((h.abortStart ‹_›).answer _ _ _ _).raise _
    · exact h.beginStop ‹_› _
    · exact h.answer _ _ _ _
    · exact (h.stopFaulted ‹_›).answer _ _ _ _
  · exact h.answer _ _ _ _

theorem closeStopStep (h : FieldKept s u) : FieldKept s (closeStopStep u) := by
  unfold Machine.closeStopStep
  split
  · split
    · exact foldl (fun u k h => h.closeStopTrunk k) _ (h.setLink _)
    · exact h
  · exact h

end FieldKept
end Sys2Proof.Machine
end

section
/-! Every step keeps the roster and the trunks sound (R67, R74, R90, R93, Table 5-5). -/

namespace Sys2Proof.Machine

/-- The time at which an expiry is taken does not change a trunk (R164). -/
theorem State.advanceTo_trunk (s : State) (due : Time) (k : TrunkId) : (s.advanceTo due).trunks[k] = s.trunks[k] := by
  rw [State.advanceTo_trunks]

/-- The close of a turn at the station's entry leaves the trunks (R76). -/
theorem State.closeStation_trunks (s : State) (turn : Turn) (limit : Nat) :
    (s.closeStation turn limit).trunks = s.trunks := by
  unfold State.closeStation
  split
  · split
    · simp
    · extract_lets outcome now closed
      split
      · rfl
      · rw [closed.raise_frame]
        rfl
  · rfl

namespace FieldKept
variable {s t u v : State}

/-! ### Rounds and turns -/

theorem roundStart (h : FieldKept s u) (k : TrunkId) : FieldKept s (roundStart k u) := by
  unfold Machine.roundStart
  split
  · exact (h.advanceTo _).startRound (k := k) ‹_›
  · exact h

theorem turnBegin (h : FieldKept s u) (k : TrunkId) : FieldKept s (turnBegin k u) := by
  unfold Machine.turnBegin
  split
  · rename_i hk _ _ _
    split
    · exact h.endRound hk _
    · split
      · split
        · exact h.beginTurn hk _ _ _
        · exact h.skipPlace hk _ _
      · exact h.skipPlace hk _ _
  · exact h

/-- The next echo of a POLL is awaited (R102). -/
theorem echoAwaited (h : FieldKept s u) {k : TrunkId} (hk : (u.trunks[k]).phase.isSending = true) (poll : List Byte)
    (start : Time) (n : Nat) : FieldKept s (u.setPhase k (.sending poll start n)) := by
  refine h.setTrunk fun hx => ?_
  have inService := hx.of_sending hk
  obtain ⟨hde, hmark, -, hround, hwatch⟩ := hx
  exact ⟨hde.trans hk, by rw [hmark, hk]; rfl, fun hr hst => (inService.elim hr hst).elim, hround, hwatch⟩

/-- The POLL is sent cleanly (R101, R103). -/
theorem pollSent (h : FieldKept s u) {k : TrunkId} (hk : (u.trunks[k]).phase.isSending = true) (turn : Turn) :
    FieldKept s (u.pollSent k turn) :=
  h.setTrunk fun hx => Trunk.Sound.enterPhase
    (hx.setTurn (hx.of_sending hk) (some { turn with mark := turn.mark || turn.directive.isSome }))
    (hx.of_sending hk) (.waiting (later u.timeBase (u.trunks[k]).config.timeout))

theorem echoTaken (h : FieldKept s u) (k : TrunkId) (b : Byte) (fe : Bool) : FieldKept s (echoTaken k b fe u) := by
  unfold Machine.echoTaken
  dsimp only
  split
  · rename_i hphase _
    have hk : (u.trunks[k]).phase.isSending = true := by rw [hphase]; rfl
    split
    · exact h.echoFault hk
    · split
      · exact h.pollSent hk _
      · exact h.echoAwaited hk _ _ _
  · exact h

theorem echoDeadline (h : FieldKept s u) (k : TrunkId) : FieldKept s (echoDeadline k u) := by
  unfold Machine.echoDeadline
  dsimp only
  split
  · rename_i hphase
    exact (h.advanceTo _).echoFault (by rw [State.advanceTo_trunk, hphase]; rfl)
  · exact h

theorem replyStarted (h : FieldKept s u) (k : TrunkId) : FieldKept s (replyStarted k u) := by
  unfold Machine.replyStarted
  split
  · rename_i hphase
    exact h.setPhase (by rw [hphase]; simp) (by rw [hphase]; rfl) rfl
  · exact h

theorem replyTimeout (h : FieldKept s u) (k : TrunkId) : FieldKept s (replyTimeout k u) := by
  unfold Machine.replyTimeout
  split
  · rename_i hphase hturn
    exact (h.advanceTo _).failCounted _ (by rw [State.advanceTo_trunk]; exact hturn)
      (by rw [State.advanceTo_trunk, hphase]; rfl)
  · exact h

theorem gapExpiry (h : FieldKept s u) (k : TrunkId) : FieldKept s (gapExpiry k u) := by
  unfold Machine.gapExpiry
  split
  · rename_i hphase hturn
    exact (h.advanceTo _).breakReply (by rw [State.advanceTo_trunk]; exact hturn)
      (by rw [State.advanceTo_trunk, hphase]; rfl)
  · exact h

theorem replyTaken (h : FieldKept s u) (k : TrunkId) (b : Byte) (fe : Bool) : FieldKept s (replyTaken k b fe u) := by
  unfold Machine.replyTaken
  split
  · rename_i hphase hturn
    have hk : (u.trunks[k]).phase.isSending = false := congrArg Phase.isSending hphase
    split
    · exact h.breakReply hturn hk
    · split
      · exact h.completeReply hturn hk _
      · exact h.setPhase (by rw [hphase]; simp) hk rfl
  · exact h

/-- The idle watch of a trunk moves, and its counters (R94, R108). -/
theorem moveWatch (h : FieldKept s u) (k : TrunkId) (f : StartWatch → StartWatch) (counters : TrunkCounters) :
    FieldKept s (u.setTrunk k { u.trunks[k] with watch := (u.trunks[k]).watch.map f, counters := counters }) := by
  refine h.setTrunk fun hx => ?_
  obtain ⟨hde, hmark, hrest, hround, hwatch⟩ := hx
  exact ⟨hde, hmark, hrest, hround, by rw [Option.isSome_map]; exact hwatch⟩

theorem strayTaken (h : FieldKept s u) (k : TrunkId) (b : Byte) (fe : Bool) : FieldKept s (strayTaken k b fe u) := by
  unfold Machine.strayTaken
  dsimp only
  split
  · exact h.moveWatch k _ _
  · exact h

theorem lineWentLow (h : FieldKept s u) (k : TrunkId) (lowFor : Nat) : FieldKept s (lineWentLow k lowFor u) := by
  unfold Machine.lineWentLow
  split
  · exact h.moveWatch k _ (u.trunks[k]).counters
  · exact h

theorem settleEnd (h : FieldKept s u) (k : TrunkId) : FieldKept s (settleEnd k u) := by
  unfold Machine.settleEnd
  split
  · rename_i due hphase
    have rests : FieldKept s ((u.advanceTo due).setPhase k .idle) :=
      (h.advanceTo due).setPhase (by rw [State.advanceTo_trunk, hphase]; simp)
        (by rw [State.advanceTo_trunk, hphase]; rfl) rfl
    split
    · rename_i hturn
      split
      · exact (h.advanceTo _).beginPoll (by rw [State.advanceTo_trunk]; exact hturn)
      · exact rests
    · exact rests
  · exact h

theorem turnClose (h : FieldKept s u) (k : TrunkId) : FieldKept s (turnClose k u) := by
  unfold Machine.turnClose
  split
  · rename_i hturn
    split
    · exact (h.closeStation _ _).turnClosed (by rw [State.closeStation_trunks]; exact hturn)
    · exact h
  · exact h

/-! ### The record's way -/

theorem sequenceCheck (h : FieldKept s u) (k : TrunkId) : FieldKept s (sequenceCheck k u) := by
  unfold Machine.sequenceCheck
  split
  · rename_i hturn
    split
    · split
      · exact (h.setStage hturn _ _).countStation _ _
      · unfold State.screen
        dsimp only
        split
        · exact (FieldKept.outcome ((h.setStage hturn _ _).setLink _) _ _ _).acceptRecord _ _ _
        · exact (h.setStage hturn _ _).setLink _
    · exact h
  · exact h

theorem admissionStep (h : FieldKept s u) (k : TrunkId) : FieldKept s (admissionStep k u) := by
  unfold Machine.admissionStep
  split
  · rename_i hturn
    split
    · rename_i x _
      have htrunks : (u.takeAdmission x.record x.channels).2.trunks = u.trunks := by simp
      have taken : FieldKept s (u.takeAdmission x.record x.channels).2 := h.frame (by simp) htrunks
      rw [← htrunks] at hturn
      unfold State.afterAdmission
      split
      · exact ((taken.setStage hturn _ _).outcome _ _ _).countStation _ _
      all_goals exact ((taken.setStage hturn _ _).outcome _ _ _).acceptRecord _ _ _
    · exact h
  · exact h

end FieldKept

/-! ### The two invariants -/

/-- Between `s` and `t` each of the two invariants of the field side is kept. -/
structure FieldSound (s t : State) : Prop where
  roster : RosterSound s → RosterSound t
  trunks : TrunksSound s → TrunksSound t

theorem FieldKept.sound {s t : State} (h : FieldKept s t) : FieldSound s t := ⟨h.rosterSound, h.trunksSound⟩

/-- Work that leaves the trunks and keeps the roster sound. -/
theorem FieldSound.of_trunks {s t : State} (h : RosterSound s → RosterSound t) (ht : t.trunks = s.trunks) :
    FieldSound s t := ⟨h, fun hs k => by rw [ht]; exact hs k⟩

theorem OffField.sound {s t : State} (h : OffField s t) : FieldSound s t := ((FieldKept.refl s).offField h).sound

/-- The roster and the trunks of reset are sound (R65, R91). -/
theorem FieldSound.of_reset {s t : State} (hr : t.roster = State.reset.roster) (ht : t.trunks = State.reset.trunks) :
    FieldSound s t := by
  have empty : ∀ i : StationId, t.roster[i] = none := fun i => by rw [hr]; simp [State.reset]
  refine ⟨fun _ => ⟨fun i j a b ha => ?_, fun i a ha => ?_⟩, fun _ k => ?_⟩
  · cases (empty i).symm.trans ha
  · cases (empty i).symm.trans ha
  · have : t.trunks[k] = Trunk.reset := by rw [ht]; simp [State.reset]
    rw [this]
    exact ⟨rfl, rfl, fun _ _ => ⟨rfl, rfl⟩, fun _ => ⟨rfl, rfl⟩, by decide⟩

/-- A roster in which one slot is filled by a station in range, in a seat that no other slot has (R67). -/
theorem RosterSound.setStation {s : State} (h : RosterSound s) (i : StationId) {b : Station}
    (hfree : ∀ (j : StationId) (a : Station), i ≠ j → s.roster[j] = some a → a.trunk = b.trunk → a.address ≠ b.address)
    (hb : 1 ≤ b.address.toNat ∧ b.address.toNat ≤ 239 ∧ b.pollClass ≤ 3) : RosterSound (s.setStation i (some b)) := by
  obtain ⟨unique, range⟩ := h
  refine ⟨fun j l a c ha hc htrunk haddress => ?_, fun j a ha => ?_⟩
  · rw [State.setStation_roster, get_setAt] at ha hc
    split at ha <;> split at hc
    · subst_vars; rfl
    · rename_i hl; cases ha; exact absurd haddress.symm (hfree l c hl hc htrunk.symm)
    · rename_i hj _; cases hc; exact absurd haddress (hfree j a hj ha htrunk)
    · exact unique j l a c ha hc htrunk haddress
  · rw [State.setStation_roster, get_setAt] at ha
    split at ha
    · cases ha; exact hb
    · exact range j a ha

/-- STATION_SET takes a poll class in range (R68). -/
theorem stationSet_fieldSound (tag : Byte) (body : List Byte) (s : State) : FieldSound s (stationSet tag body s) := by
  unfold stationSet
  split
  · exact ((FieldKept.refl s).answer _ _ _ _).sound
  · rename_i i st hok
    obtain ⟨hst, -, -⟩ := State.rosterCheck_ok hok
    split
    · exact ((FieldKept.refl s).answer _ _ _ _).sound
    · rename_i hclass
      refine .of_trunks (fun h => ?_) rfl
      obtain ⟨low, high, -⟩ := h.2 i st hst
      exact RosterSound.setStation h i
        (fun j a hij ha htrunk haddress => hij (h.1 i j st a hst ha htrunk.symm haddress.symm))
        ⟨low, high, Nat.not_lt.1 hclass⟩

/-- No entry of the roster has the seat that was not found in it (R67). -/
theorem State.stationPresent_eq_false {s : State} {k : TrunkId} {address : Byte} :
    s.stationPresent k address = false ↔
      ∀ (i : StationId) (a : Station), s.roster[i] = some a → a.trunk = k → a.address ≠ address := by
  unfold State.stationPresent
  rw [List.any_eq_false]
  constructor
  · intro h i a ha htrunk haddress
    exact h (some a) (by rw [← ha]; simp) (by simp [htrunk, haddress])
  · rintro h x hx
    obtain ⟨i, hi, hx⟩ := Vector.mem_iff_getElem.1 (Vector.mem_toList_iff.1 hx)
    cases x with
    | none => simp
    | some a => simpa using fun htrunk => h ⟨i, hi⟩ a hx htrunk

/-- STATION_ADD seats a station in range where none sat (R67). -/
theorem stationAdd_fieldSound (tag : Byte) (body : List Byte) (s : State) : FieldSound s (stationAdd tag body s) := by
  have answered : ∀ status, FieldSound s (s.answer 0x20#8 tag status []) := fun _ =>
    ((FieldKept.refl s).answer _ _ _ _).sound
  unfold stationAdd
  split
  · split
    · exact answered _
    · rename_i k _ hrange
      split
      · exact answered _
      · rename_i hpresent
        split
        · exact answered _
        · rename_i i _
          refine .of_trunks (fun h => ?_) rfl
          have free := State.stationPresent_eq_false.1 (Bool.eq_false_iff.2 hpresent)
          simp only [not_or] at hrange
          obtain ⟨low, high, hclass⟩ := hrange
          exact RosterSound.setStation h i (fun j a _ ha => free j a ha)
            ⟨Nat.one_le_iff_ne_zero.2 low, Nat.not_lt.1 high, Nat.not_lt.1 hclass⟩
  · exact answered _

/-- The completion of a message (R57, R139, R143). -/
theorem messageSent_fieldSound (m : Transmission) (s : State) : FieldSound s (s.messageSent m) := by
  unfold State.messageSent State.completed
  split
  · split
    · exact .of_reset rfl rfl
    · exact OffField.sound ⟨rfl, rfl⟩
  · exact OffField.sound ⟨rfl, rfl⟩
  · exact OffField.sound ⟨by simp, by simp⟩

/-- Every part of a step keeps both invariants of the field side. -/
theorem fieldSound_effects : Effects FieldSound where
  refl s := (FieldKept.refl s).sound
  trans _ _ _ h g := ⟨fun hs => g.roster (h.roster hs), fun hs => g.trunks (h.trunks hs)⟩
  elapse _ _ _ := OffField.sound ⟨rfl, rfl⟩
  comeTo _ _ _ := OffField.sound ⟨rfl, rfl⟩
  finish _ _ := OffField.sound ⟨by simp, by simp⟩
  drivePins _ := OffField.sound ⟨rfl, rfl⟩
  resetAssert _ := .of_reset rfl rfl
  resetRelease s _ _ := by
    unfold resetRelease
    split
    · exact .of_reset rfl rfl
    · exact (FieldKept.refl s).sound
  holdAssert _ _ := by
    unfold holdAssert
    split <;> exact OffField.sound ⟨rfl, rfl⟩
  holdRelease _ := OffField.sound ⟨rfl, rfl⟩
  hcsHigh _ := OffField.sound ⟨rfl, rfl⟩
  exchange s _ _ := by
    unfold State.exchange
    split
    · exact (FieldKept.refl s).sound
    · split <;> exact OffField.sound ⟨rfl, rfl⟩
  receive s _ _ := ((FieldKept.refl s).setLink _).sound
  countLink s _ _ := ((FieldKept.refl s).setLink _).sound
  refuse s _ _ _ _ := ((FieldKept.refl s).refuse _ _ _).sound
  linkOpen s _ _ _ _ _ := (((FieldKept.refl s).enter _ _).offField (linkOpen_offField _ _ _)).sound
  partReset s _ _ _ := ((((FieldKept.refl s).enter _ _).answer _ _ _ _).setLink _).sound
  noticeMask s _ _ _ _ _ := (((FieldKept.refl s).enter _ _).offField (noticeMask_offField _ _ _)).sound
  countersRead s _ _ _ _ _ := (((FieldKept.refl s).enter _ _).countersRead _ _).sound
  ruleWrite s _ _ _ _ _ := (((FieldKept.refl s).enter _ _).offField (ruleWrite_offField _ _ _)).sound
  ruleErase s _ _ _ _ _ := (((FieldKept.refl s).enter _ _).offField (ruleErase_offField _ _ _)).sound
  setWrite s _ _ _ _ _ := (((FieldKept.refl s).enter _ _).offField (setWrite_offField _ _ _)).sound
  defaultWrite s _ _ _ _ _ := (((FieldKept.refl s).enter _ _).offField (defaultWrite_offField _ _ _)).sound
  stageLoad _ _ _ _ _ := OffField.sound ⟨rfl, rfl⟩
  ruleCommit s _ _ _ _ _ := (((FieldKept.refl s).enter _ _).offField (ruleCommit_offField _ _ _)).sound
  ruleRead s _ _ _ _ _ := (((FieldKept.refl s).enter _ _).offField (ruleRead_offField _ _ _)).sound
  channelConfigEnable s _ _ _ _ _ := (((FieldKept.refl s).enter _ _).offField (channelEnable_offField _ _ _)).sound
  channelConfigDisable s _ _ _ _ _ := (((FieldKept.refl s).enter _ _).offField (channelDisable_offField _ _ _)).sound
  channelCredit s _ _ _ _ _ := (((FieldKept.refl s).enter _ _).offField (channelCredit_offField _ _ _)).sound
  channelFlush s _ _ _ _ _ := (((FieldKept.refl s).enter _ _).offField (channelFlush_offField _ _ _)).sound
  channelQuery s _ _ _ _ _ := (((FieldKept.refl s).enter _ _).offField (channelQuery_offField _ _ _)).sound
  stationAdd s tag body _ _ _ :=
    have entered := ((FieldKept.refl s).enter 0x20#8 tag).sound
    have added := stationAdd_fieldSound tag body (s.enter 0x20#8 tag)
    ⟨fun hs => added.roster (entered.roster hs), fun hs => added.trunks (entered.trunks hs)⟩
  stationSet s tag body _ _ _ :=
    have entered := ((FieldKept.refl s).enter 0x21#8 tag).sound
    have set := stationSet_fieldSound tag body (s.enter 0x21#8 tag)
    ⟨fun hs => set.roster (entered.roster hs), fun hs => set.trunks (entered.trunks hs)⟩
  stationQuery s _ _ _ _ _ := (((FieldKept.refl s).enter _ _).offField (stationQuery_offField _ _ _)).sound
  stationList s _ _ _ _ := (((FieldKept.refl s).enter _ _).answer _ _ _ _).sound
  stationSuspend s _ _ _ _ _ := (((FieldKept.refl s).enter _ _).stationSuspend _ _).sound
  stationResume s _ _ _ _ _ := (((FieldKept.refl s).enter _ _).stationResume _ _).sound
  stationRemove s _ _ _ _ _ := (((FieldKept.refl s).enter _ _).stationRemove _ _).sound
  trunkConfig s _ _ _ _ _ := (((FieldKept.refl s).enter _ _).trunkConfig _ _).sound
  trunkStart s _ _ _ _ _ := (((FieldKept.refl s).enter _ _).trunkStart _ _).sound
  trunkStop s _ _ _ _ _ := (((FieldKept.refl s).enter _ _).trunkStop _ _).sound
  trunkQuery s _ _ _ _ _ := (((FieldKept.refl s).enter _ _).offField (trunkQuery_offField _ _ _)).sound
  directiveSubmit s _ _ _ _ _ := (((FieldKept.refl s).enter _ _).directiveSubmit _ _).sound
  directiveCancel s _ _ _ _ _ := (((FieldKept.refl s).enter _ _).offField (directiveCancel_offField _ _ _)).sound
  directiveQuery s _ _ _ _ _ := (((FieldKept.refl s).enter _ _).offField (directiveQuery_offField _ _ _)).sound
  linkClose s _ _ _ _ := (((FieldKept.refl s).enter _ _).setLink _).sound
  closeEnd s _ := ((FieldKept.refl s).offField (closeEnd_offField s)).sound
  closeStopStep s _ := (FieldKept.refl s).closeStopStep.sound
  closeDirectiveStep s _ := ((FieldKept.refl s).offField (closeDirectiveStep_offField s)).sound
  runTrunk s _ w due _ hk _ := ((FieldKept.refl s).runTrunk hk w due).sound
  failStart s _ w _ hk _ := ((FieldKept.refl s).failStart hk w).sound
  lineWentLow s k n _ := ((FieldKept.refl s).lineWentLow k n).sound
  roundStart s k _ := ((FieldKept.refl s).roundStart k).sound
  turnBegin s k _ := ((FieldKept.refl s).turnBegin k).sound
  echoTaken s k b fe _ := ((FieldKept.refl s).echoTaken k b fe).sound
  echoDeadline s k _ := ((FieldKept.refl s).echoDeadline k).sound
  replyStarted s k _ := ((FieldKept.refl s).replyStarted k).sound
  replyTimeout s k _ := ((FieldKept.refl s).replyTimeout k).sound
  replyTaken s k b fe _ := ((FieldKept.refl s).replyTaken k b fe).sound
  gapExpiry s k _ := ((FieldKept.refl s).gapExpiry k).sound
  strayTaken s k b fe _ := ((FieldKept.refl s).strayTaken k b fe).sound
  settleEnd s k _ := ((FieldKept.refl s).settleEnd k).sound
  sequenceCheck s k _ := ((FieldKept.refl s).sequenceCheck k).sound
  admissionStep s k _ := ((FieldKept.refl s).admissionStep k).sound
  turnClose s k _ := ((FieldKept.refl s).turnClose k).sound
  holdExpiry s c _ := ((FieldKept.refl s).offField (holdExpiry_offField s c)).sound
  clockedOut _ _ := by
    unfold State.clockedOut
    split <;> exact OffField.sound ⟨rfl, rfl⟩
  messageSent s m _ := messageSent_fieldSound m s

/-- Settles O57: STATION_ADD alone seats a station, where none sat. -/
theorem stepKeepsRosterSound : Obligations.StepKeepsRosterSound := by
  unfold Obligations.StepKeepsRosterSound
  intro s t hs hstep
  exact (fieldSound_effects.step (fun _ _ => OffField.sound ⟨rfl, rfl⟩) hstep).roster hs

/-- Settles O59, across the effects of every command. -/
theorem stepKeepsTrunksSound : Obligations.StepKeepsTrunksSound := by
  unfold Obligations.StepKeepsTrunksSound
  intro s t hs hstep
  exact (fieldSound_effects.step (fun _ _ => OffField.sound ⟨rfl, rfl⟩) hstep).trunks hs

end Sys2Proof.Machine
end

section
/-! STATION_ADD (R67, Table 4-1). -/

namespace Sys2Proof.Machine

/-! ### The checks and the slot (R67) -/

theorem State.stationPresent_eq_true {s : State} {k : TrunkId} {address : Byte} {i : StationId} {st : Station}
    (h : s.roster[i] = some st) (htrunk : st.trunk = k) (haddress : st.address = address) :
    s.stationPresent k address = true := by
  by_contra hn
  exact State.stationPresent_eq_false.1 (by simpa using hn) i st h htrunk haddress

/-- A roster without a free slot (R67). -/
theorem State.lowestFreeStation_none {s : State} (h : ∀ i : StationId, s.roster[i] ≠ none) :
    s.lowestFreeStation = none := by
  refine List.find?_eq_none.2 fun i _ => ?_
  simpa [Option.isNone_iff_eq_none] using h i

/-- The free slot below which every slot is occupied (R67). -/
theorem State.lowestFreeStation_some {s : State} {i : StationId} (h : s.roster[i] = none)
    (hlow : ∀ j : StationId, j < i → s.roster[j] ≠ none) : s.lowestFreeStation = some i := by
  refine List.find?_eq_some_iff_append.2 ⟨by simpa using h, ?_⟩
  obtain ⟨before, after, hsplit⟩ := List.append_of_mem (List.mem_finRange i)
  refine ⟨before, after, hsplit, fun j hj => ?_⟩
  have sorted : (before ++ i :: after).Pairwise (· < ·) := hsplit ▸ List.pairwise_lt_finRange 64
  have hlt : j < i := (List.pairwise_append.1 sorted).2.2 j hj i (by simp)
  simpa [← Option.not_isSome] using Option.ne_none_iff_isSome.1 (hlow j hlt)

/-! ### STATION_ADD at its owner -/

section
variable {s : State} {tag t8 address pollClass : Byte}

theorem stationAdd_badArg (h : 1 < t8.toNat ∨ address = 0#8 ∨ 239 < address.toNat ∨ 3 < pollClass.toNat) :
    stationAdd tag [t8, address, pollClass] s = s.answer 0x20#8 tag .badArg [] := by
  unfold stationAdd
  split
  · rename_i k hindex
    have hk : t8.toNat = k.1 := index?_some hindex
    have hrange : address.toNat = 0 ∨ 239 < address.toNat ∨ 3 < pollClass.toNat := by
      rcases h with h | h | h
      · have := k.isLt; omega
      · exact .inl (by rw [h]; rfl)
      · exact .inr h
    exact if_pos hrange
  · rfl

variable {k : TrunkId} (hk : t8.toNat = k.1) (hzero : address ≠ 0#8) (hhigh : address.toNat ≤ 239)
  (hclass : pollClass.toNat ≤ 3)
include hk hzero hhigh hclass

/-- With fields in range the roster decides (R67). -/
theorem stationAdd_inRange : stationAdd tag [t8, address, pollClass] s =
    if s.stationPresent k address then s.answer 0x20#8 tag .conflict []
    else match s.lowestFreeStation with
      | none => s.answer 0x20#8 tag .noRoom []
      | some i =>
        ({ s with
          nextSerial := s.nextSerial + 1
          roster := setAt s.roster i (some (Station.fresh k address pollClass.toNat (s.trunkRunning k)
            s.nextSerial)) } : State).answer 0x20#8 tag .ok [byteOf i.1] := by
  have hindex : index? 2 (byteAt [t8, address, pollClass] 0) = some k := index?_eq hk
  have hrange : ¬ (natAt [t8, address, pollClass] 1 = 0 ∨ 239 < natAt [t8, address, pollClass] 1
      ∨ 3 < natAt [t8, address, pollClass] 2) := by
    rintro (h | h | h)
    · exact hzero (BitVec.eq_of_toNat_eq h)
    · exact absurd (show 239 < address.toNat from h) (by omega)
    · exact absurd (show 3 < pollClass.toNat from h) (by omega)
  simp only [stationAdd, hindex, hrange, if_false]
  rfl

end

/-- Settles O30, by the checks in their order. -/
theorem stationAddFillsLowestSlot : Obligations.StationAddFillsLowestSlot := by
  unfold Obligations.StationAddFillsLowestSlot
  intro s tag t8 address pollClass h answers
  have answered : ∀ status, stationAdd tag [t8, address, pollClass] (s.enter 0x20#8 tag) =
      (s.enter 0x20#8 tag).answer 0x20#8 tag status [] → answers status := fun status ho =>
    perform_answered s (owner := stationAdd tag [t8, address, pollClass]) h rfl rfl (by simp) ho
  refine ⟨fun hbad => answered _ (stationAdd_badArg hbad), fun k hk hzero hhigh hclass => ⟨?_, ?_⟩⟩
  · rintro ⟨i, st, hst, htrunk, haddress⟩
    have present : (s.enter 0x20#8 tag).stationPresent k address = true :=
      State.stationPresent_eq_true hst htrunk haddress
    exact answered _ (by rw [stationAdd_inRange hk hzero hhigh hclass, if_pos present])
  · intro hfree
    have absent : ¬ (s.enter 0x20#8 tag).stationPresent k address = true :=
      Bool.eq_false_iff.1 (State.stationPresent_eq_false.2 hfree)
    refine ⟨fun hfull => answered _ ?_, fun i hi hlow => ?_⟩
    · have hslot : (s.enter 0x20#8 tag).lowestFreeStation = none := State.lowestFreeStation_none hfull
      rw [stationAdd_inRange hk hzero hhigh hclass, if_neg absent, hslot]
    · have hslot : (s.enter 0x20#8 tag).lowestFreeStation = some i := State.lowestFreeStation_some hi hlow
      refine perform_answered _ (owner := stationAdd tag [t8, address, pollClass]) h (by rfl) rfl (by simp) ?_
      rw [stationAdd_inRange hk hzero hhigh hclass, if_neg absent, hslot]
      dsimp only [Station.fresh, State.trunkRunning]
      simp only [decide_eq_true_eq]
      rfl

end Sys2Proof.Machine
end

section
/-! STATION_SET, STATION_SUSPEND and STATION_RESUME (R66, R68, R84, R85). -/

namespace Sys2Proof.Machine

/-- A turn is in flight for slot `i` exactly when some trunk's turn is of that slot (R72). -/
theorem State.turnInFlight_iff (s : State) (i : StationId) :
    s.turnInFlight i = true ↔ ∃ (k : TrunkId) (turn : Turn), (s.trunks[k]).turn = some turn ∧ turn.slot = i := by
  rw [State.turnInFlight_eq, List.any_eq_true]
  constructor
  · rintro ⟨x, hx, hturn⟩
    obtain ⟨k, hk, rfl⟩ := Vector.mem_iff_getElem.1 (Vector.mem_toList_iff.1 hx)
    obtain ⟨turn, hturn, hslot⟩ := Option.map_eq_some_iff.1 (of_decide_eq_true hturn)
    exact ⟨⟨k, hk⟩, turn, hturn, hslot⟩
  · rintro ⟨k, turn, hturn, hslot⟩
    exact ⟨s.trunks[k], by simp, by rw [hturn]; simpa using hslot⟩

theorem State.turnInFlight_eq_false {s : State} {i : StationId}
    (h : ∀ (k : TrunkId) (turn : Turn), (s.trunks[k]).turn = some turn → turn.slot ≠ i) : s.turnInFlight i = false := by
  refine Bool.eq_false_iff.2 fun hflight => ?_
  obtain ⟨k, turn, hturn, hslot⟩ := (s.turnInFlight_iff i).1 hflight
  exact h k turn hturn hslot

/-! ### The three requests at acceptance -/

section
variable {s : State} {tag b : Byte} (h : TakesRequest s tag)
include h

/-- A slot that fails its checks (R66). -/
theorem exec_station_error {status : Status} (hb : s.rosterCheck b = .error status) (pollClass : Byte) :
    exec (.stationSet tag [b, pollClass]) s = .next ((s.replied 0x21#8 tag status []).finish false)
      ∧ exec (.stationSuspend tag [b]) s = .next ((s.replied 0x24#8 tag status []).finish false)
      ∧ exec (.stationResume tag [b]) s = .next ((s.replied 0x25#8 tag status []).finish false) := by
  have hcheck : ∀ (kind : Byte) (l : List Byte), (s.enter kind tag).rosterCheck (byteAt (b :: l) 0) = .error status :=
    fun _ _ => hb
  refine ⟨?_, ?_, ?_⟩
  · exact perform_answered s (owner := stationSet tag [b, pollClass]) h rfl rfl (by simp)
      (by simp only [stationSet, hcheck])
  · exact perform_answered s (owner := stationSuspend tag [b]) h rfl rfl (by simp)
      (by simp only [stationSuspend, hcheck])
  · exact perform_answered s (owner := stationResume tag [b]) h rfl rfl (by simp)
      (by simp only [stationResume, hcheck])

variable {i : StationId} {st : Station} (hb : s.rosterCheck b = .ok (i, st))
include hb

theorem exec_stationSet_badArg {pollClass : Byte} (hclass : 3 < pollClass.toNat) :
    exec (.stationSet tag [b, pollClass]) s = .next ((s.replied 0x21#8 tag .badArg []).finish false) := by
  refine perform_answered s (owner := stationSet tag [b, pollClass]) h rfl rfl (by simp) ?_
  have hcheck : (s.enter 0x21#8 tag).rosterCheck (byteAt [b, pollClass] 0) = .ok (i, st) := hb
  have hbad : 3 < natAt [b, pollClass] 1 := hclass
  simp only [stationSet, hcheck, if_pos hbad]

theorem exec_stationSet_ok {pollClass : Byte} (hclass : pollClass.toNat ≤ 3) :
    exec (.stationSet tag [b, pollClass]) s = .next (State.finish (State.replied
      (s.setStation i (some { st with pollClass := pollClass.toNat })) 0x21#8 tag .ok []) false) := by
  refine perform_answered _ (owner := stationSet tag [b, pollClass]) h (by rfl) rfl (by simp) ?_
  have hcheck : (s.enter 0x21#8 tag).rosterCheck (byteAt [b, pollClass] 0) = .ok (i, st) := hb
  have hgood : ¬ 3 < natAt [b, pollClass] 1 := Nat.not_lt.2 hclass
  simp only [stationSet, hcheck, if_neg hgood]
  rfl

/-- STATION_SUSPEND sets the pending flag while a turn is in flight, and else the state (R84). -/
theorem exec_stationSuspend_ok : exec (.stationSuspend tag [b]) s = .next (State.finish (State.replied
    (s.setStation i (some (if s.turnInFlight i then { st with suspendPending := true }
      else { st with state := .suspended }))) 0x24#8 tag .ok []) false) := by
  refine perform_answered _ (owner := stationSuspend tag [b]) h (by rfl) rfl (by simp) ?_
  have hcheck : (s.enter 0x24#8 tag).rosterCheck (byteAt [b] 0) = .ok (i, st) := hb
  simp only [stationSuspend, hcheck]
  rfl

theorem exec_stationResume_wrongState (hst : st.state ≠ .suspended) :
    exec (.stationResume tag [b]) s = .next ((s.replied 0x25#8 tag .wrongState []).finish false) := by
  refine perform_answered s (owner := stationResume tag [b]) h rfl rfl (by simp) ?_
  have hcheck : (s.enter 0x25#8 tag).rosterCheck (byteAt [b] 0) = .ok (i, st) := hb
  simp only [stationResume, hcheck, if_neg hst]

theorem exec_stationResume_ok (hst : st.state = .suspended) :
    exec (.stationResume tag [b]) s = .next (State.finish (State.replied (s.setStation i (some { st with
      state := if (s.trunks[st.trunk]).state = .running then .probing else .idle, missCount := 0 }))
        0x25#8 tag .ok []) false) := by
  refine perform_answered _ (owner := stationResume tag [b]) h (by rfl) rfl (by simp) ?_
  have hcheck : (s.enter 0x25#8 tag).rosterCheck (byteAt [b] 0) = .ok (i, st) := hb
  simp only [stationResume, hcheck, if_pos hst, State.trunkRunning, decide_eq_true_eq]
  rfl

end

/-- Settles O31, by the checks of the slot and then by the station and its turn. -/
theorem stationSetSuspendResume : Obligations.StationSetSuspendResume := by
  unfold Obligations.StationSetSuspendResume
  intro s tag b pollClass h answers all
  refine ⟨fun hb => exec_station_error h (State.rosterCheck_badArg hb) pollClass, fun i hi => ⟨fun hnone =>
    exec_station_error h (State.rosterCheck_notFound hi hnone) pollClass, fun st hst => ⟨fun hr =>
      exec_station_error h (State.rosterCheck_removing hi hst hr) pollClass, fun hr => ?_⟩⟩⟩
  have hb := State.rosterCheck_of_station hi hst hr
  have suspends := exec_stationSuspend_ok h hb
  refine ⟨exec_stationSet_badArg h hb, exec_stationSet_ok h hb, fun hidle => ?_, fun hflight => ?_,
    exec_stationResume_ok h hb, exec_stationResume_wrongState h hb⟩
  · rwa [if_neg (by rw [State.turnInFlight_eq_false hidle]; simp)] at suspends
  · rwa [if_pos ((s.turnInFlight_iff i).2 hflight)] at suspends

end Sys2Proof.Machine
end

section
/-! A request that has taken its slot of the table stays there while its owner works: what notices, removals and group
moves make of the link (R87, R89, R123, R134). -/

namespace Sys2Proof.Machine

/-- The state with one more request in the table, answered or not (R134). -/
def State.entered (s : State) (kind tag : Byte) (answered : Bool) : State :=
  s.setLink { s.link with requests := s.link.requests ++ [{ tag := tag, kind := kind, answered := answered }] }

section
variable (s : State) (kind tag : Byte) (b : Bool)

theorem State.raise_entered (n : Notice) : (s.entered kind tag b).raise n = (s.raise n).entered kind tag b := by
  unfold State.raise
  by_cases h : s.link.session = .opened ∧ s.notices.enables n = true
  · rw [if_pos h]; exact if_pos h
  · rw [if_neg h]; exact if_neg h

/-- The freeing of an entry does not look at the requests (R86). -/
theorem State.stationFreed_entered (i : StationId) :
    (s.entered kind tag b).stationFreed i = (s.stationFreed i).entered kind tag b := by
  have reported := List.foldl_hom (fun u : State => u.entered kind tag b)
    (l := s.directives.entries.filter fun d => decide (d.slot = i)) (init := s)
    (g₁ := fun u (d : Directive) => u.raise (.directiveDone d.id i .aborted 0#8 d.attempts))
    (g₂ := fun u (d : Directive) => u.raise (.directiveDone d.id i .aborted 0#8 d.attempts))
    fun u d => u.raise_entered kind tag b _
  exact (congrArg (fun u : State => ({ s with
    link := (s.entered kind tag b).link
    roster := setAt s.roster i none
    directives := { s.directives with entries := s.directives.entries.filter fun d => decide (d.slot ≠ i) }
    notices := u.notices.closeMerging i } : State)) reported :)

/-- A late reply marks the request too when it bears its tag (R134). -/
theorem State.repliedLate_entered (kind' tag' : Byte) (status : Status) (results : List Byte) :
    (s.entered kind tag b).repliedLate kind' tag' status results =
      (s.repliedLate kind' tag' status results).entered kind tag (b || decide (tag = tag')) := by
  have marked : (if tag = tag' then ({ tag := tag, kind := kind, answered := true } : Request)
      else { tag := tag, kind := kind, answered := b }) =
        { tag := tag, kind := kind, answered := b || decide (tag = tag') } := by
    split <;> simp [*]
  unfold State.repliedLate State.entered
  dsimp only [State.setLink_link]
  rw [List.map_append, List.map_cons, List.map_nil]
  dsimp only
  rw [marked]
  rfl

theorem State.removalDone_entered (i : StationId) (st : Station) :
    ∃ b', (s.entered kind tag b).removalDone i st = (s.removalDone i st).entered kind tag b' := by
  unfold State.removalDone
  rw [State.stationFreed_entered]
  cases st.removeTag with
  | none => exact ⟨b, rfl⟩
  | some t => exact ⟨_, (s.stationFreed i).repliedLate_entered kind tag b _ _ _ _⟩

theorem State.groundedAt_entered (k : TrunkId) (i : StationId) :
    ∃ b', State.groundedAt k (s.entered kind tag b) i = (State.groundedAt k s i).entered kind tag b' := by
  have hroster : (s.entered kind tag b).roster = s.roster := rfl
  unfold State.groundedAt
  rw [hroster]
  split
  · split
    · exact ⟨b, rfl⟩
    · split
      · exact s.removalDone_entered kind tag b _ _
      · split
        · exact ⟨b, rfl⟩
        · exact ⟨b, rfl⟩
  · exact ⟨b, rfl⟩

/-- A group move keeps the request in the table (R89, R134). -/
theorem State.grounded_entered (k : TrunkId) :
    ∃ b', (s.entered kind tag b).grounded k = (s.grounded k).entered kind tag b' := by
  unfold State.grounded
  generalize List.finRange 64 = l
  induction l generalizing s b with
  | nil => exact ⟨b, rfl⟩
  | cons i l ih =>
    obtain ⟨b', h⟩ := s.groundedAt_entered kind tag b k i
    rw [List.foldl_cons, List.foldl_cons, h]
    exact ih _ b'

/-- The reply to the request: beside it in the table it stands answered, whatever has been marked before (R134). -/
theorem State.answer_of_entered (h : ∀ r ∈ s.link.requests, r.tag ≠ tag) (status : Status) (results : List Byte) :
    (s.entered kind tag b).answer kind tag status results = s.replied kind tag status results := by
  have hmark := markAnswered_self h
  unfold markAnswered at hmark
  unfold State.answer State.entered State.replied markAnswered
  dsimp only [State.setLink_link]
  rw [List.map_append, hmark, List.map_cons, if_pos rfl]
  rfl

end

/-! ### What a group move leaves -/

/-- Between `s` and `t` the session and the tags of the requests in the table are as they were. -/
structure SameSession (s t : State) : Prop where
  session : t.link.session = s.link.session
  tags : t.link.requests.map Request.tag = s.link.requests.map Request.tag

theorem SameSession.trans {s t u : State} (h : SameSession s t) (g : SameSession t u) : SameSession s u :=
  ⟨g.session.trans h.session, g.tags.trans h.tags⟩

theorem State.repliedLate_sameSession (s : State) (kind tag : Byte) (status : Status) (results : List Byte) :
    SameSession s (s.repliedLate kind tag status results) := by
  refine ⟨rfl, ?_⟩
  unfold State.repliedLate
  rw [List.map_map]
  refine List.map_congr_left fun r _ => ?_
  simp only [Function.comp_apply]
  split <;> rfl

theorem State.groundedAt_sameSession (k : TrunkId) (s : State) (i : StationId) :
    SameSession s (State.groundedAt k s i) := by
  have same : ∀ t : State, t.link = s.link → SameSession s t := fun t h => ⟨by rw [h], by rw [h]⟩
  unfold State.groundedAt
  split
  · split
    · exact same _ rfl
    · split
      · unfold State.removalDone
        split
        · exact (same (s.stationFreed i) rfl).trans ((s.stationFreed i).repliedLate_sameSession _ _ _ _)
        · exact same _ rfl
      · split <;> exact same _ rfl
  · exact same _ rfl

theorem State.grounded_sameSession (s : State) (k : TrunkId) : SameSession s (s.grounded k) := by
  unfold State.grounded
  generalize List.finRange 64 = l
  induction l generalizing s with
  | nil => exact ⟨rfl, rfl⟩
  | cons i l ih => exact (State.groundedAt_sameSession k s i).trans (ih _)

/-- No request of the table bears a tag that none bore before. -/
theorem SameSession.tag_free {s t : State} (h : SameSession s t) {tag : Byte}
    (ht : ∀ r ∈ s.link.requests, r.tag ≠ tag) : ∀ r ∈ t.link.requests, r.tag ≠ tag := by
  intro r hr e
  have hmem : tag ∈ t.link.requests.map Request.tag := List.mem_map.2 ⟨r, hr, e⟩
  rw [h.tags] at hmem
  obtain ⟨r', hr', e'⟩ := List.mem_map.1 hmem
  exact ht r' hr' e'

/-- A group move leaves the ids of the directives distinct (R87). -/
theorem State.grounded_ids (s : State) (k : TrunkId) (h : (s.directives.entries.map Directive.id).Nodup) :
    ((s.grounded k).directives.entries.map Directive.id).Nodup := by
  unfold State.grounded
  generalize List.finRange 64 = l
  induction l generalizing s with
  | nil => exact h
  | cons i l ih => exact ih _ (s.groundStation_eq k i h).2

end Sys2Proof.Machine
end

section
/-! STATION_REMOVE (R66, R86, R87, R123, R148). -/

namespace Sys2Proof.Machine

/-! ### The records without an outcome (R87) -/

section
variable {s : State} {i : StationId} {k : TrunkId} {turn : Turn} {st : Station}

theorem State.discardUnwalked_other (h : ∀ turn, (s.trunks[k]).turn = some turn → turn.slot ≠ i) :
    State.discardUnwalked i s k = s := by
  unfold State.discardUnwalked
  split
  · exact if_neg (h _ ‹_›)
  · rfl

theorem State.discardUnwalked_of_turn (hturn : (s.trunks[k]).turn = some turn) (hslot : turn.slot = i)
    (hst : s.roster[i] = some st) : State.discardUnwalked i s k = { s with
      roster := setAt s.roster i (some { st with
        counters := { st.counters with discarded := bump st.counters.discarded turn.stage.unwalked } })
      trunks := setAt s.trunks k { s.trunks[k] with turn := some { turn with stage := turn.stage.cut } } } := by
  simp only [State.discardUnwalked, hturn, if_pos hslot]
  exact State.countStation_of_some (s := s.setTrunk k _) hst _

/-- With one turn of the slot in flight, that turn's records are discarded and no other's (R87). -/
theorem State.discardUnwalked_all (hturn : (s.trunks[k]).turn = some turn) (hslot : turn.slot = i)
    (hother : ∀ (j : TrunkId) (other : Turn), j ≠ k → (s.trunks[j]).turn = some other → other.slot ≠ i)
    (hst : s.roster[i] = some st) : (List.finRange 2).foldl (State.discardUnwalked i) s = { s with
      roster := setAt s.roster i (some { st with
        counters := { st.counters with discarded := bump st.counters.discarded turn.stage.unwalked } })
      trunks := setAt s.trunks k { s.trunks[k] with turn := some { turn with stage := turn.stage.cut } } } := by
  rw [← State.discardUnwalked_of_turn hturn hslot hst]
  have untouched : ∀ j : TrunkId, j ≠ k → (State.discardUnwalked i s k).trunks[j] = s.trunks[j] := fun j hj => by
    simp only [State.discardUnwalked, hturn, if_pos hslot, State.countStation_keeps, State.setTrunk_trunks]
    rw [get_setAt, if_neg hj.symm]
  have order : List.finRange 2 = [0, 1] := rfl
  rw [order, List.foldl_cons, List.foldl_cons, List.foldl_nil]
  match k, hother, untouched with
  | 0, hother, untouched =>
    refine State.discardUnwalked_other fun other h => hother 1 other (by decide) ?_
    rw [← untouched 1 (by decide)]
    exact h
  | 1, hother, untouched =>
    rw [State.discardUnwalked_other fun other => hother 0 other (by decide)]

end

/-! ### STATION_REMOVE at acceptance -/

section
variable {s : State} {tag b : Byte} (h : TakesRequest s tag)
include h

theorem exec_stationRemove_error {status : Status} (hb : s.rosterCheck b = .error status) :
    exec (.stationRemove tag [b]) s = .next ((s.replied 0x26#8 tag status []).finish false) := by
  refine perform_answered s (owner := stationRemove tag [b]) h rfl rfl (by simp) ?_
  have hcheck : (s.enter 0x26#8 tag).rosterCheck (byteAt [b] 0) = .error status := hb
  simp only [stationRemove, hcheck]

variable {i : StationId} {st : Station} (hb : s.rosterCheck b = .ok (i, st))
include hb

theorem exec_stationRemove_now (hids : (s.directives.entries.map Directive.id).Nodup)
    (hidle : s.turnInFlight i = false) :
    exec (.stationRemove tag [b]) s = .next (((s.stationFreed i).replied 0x26#8 tag .ok [0#8]).finish false) := by
  refine perform_answered _ (owner := stationRemove tag [b]) h (by rfl) rfl (by simp) ?_
  have hcheck : (s.enter 0x26#8 tag).rosterCheck (byteAt [b] 0) = .ok (i, st) := hb
  have hflight : ¬ (s.enter 0x26#8 tag).turnInFlight i = true := Bool.eq_false_iff.1 hidle
  have hfreed : (s.enter 0x26#8 tag).freeStation i = (s.stationFreed i).enter 0x26#8 tag :=
    ((s.enter 0x26#8 tag).freeStation_eq i hids).trans (s.stationFreed_entered 0x26#8 tag false i)
  simp only [stationRemove, hcheck, if_neg hflight, hfreed]

theorem exec_stationRemove_later (hflight : s.turnInFlight i = true) : exec (.stationRemove tag [b]) s =
    .next (((List.finRange 2).foldl (State.discardUnwalked i) ((s.enter 0x26#8 tag).setStation i
      (some { st with state := .removing, removeTag := some tag }))).finish false) := by
  refine (perform_accepted _ (stationRemove tag [b]) h rfl (by simp)).trans ?_
  have hcheck : (s.enter 0x26#8 tag).rosterCheck (byteAt [b] 0) = .ok (i, st) := hb
  have hflight' : (s.enter 0x26#8 tag).turnInFlight i = true := hflight
  simp only [stationRemove, hcheck, if_pos hflight']

end

/-- Settles O32, by the checks of the slot and then by whether a turn of the station is in flight. -/
theorem stationRemoveAtOnceOrDeferred : Obligations.StationRemoveAtOnceOrDeferred := by
  unfold Obligations.StationRemoveAtOnceOrDeferred
  intro s tag b h hd answers
  obtain ⟨-, hids, -⟩ := hd
  refine ⟨fun hb => exec_stationRemove_error h (State.rosterCheck_badArg hb), fun i hi => ⟨fun hnone =>
    exec_stationRemove_error h (State.rosterCheck_notFound hi hnone), fun st hst => ⟨fun hr =>
      exec_stationRemove_error h (State.rosterCheck_removing hi hst hr), fun hr => ?_⟩⟩⟩
  have hb := State.rosterCheck_of_station hi hst hr
  refine ⟨fun hidle => exec_stationRemove_now h hb hids (State.turnInFlight_eq_false hidle), ?_⟩
  intro k turn hturn hslot hother unwalked stage
  have hunwalked : turn.stage.unwalked = unwalked := by
    simp only [unwalked]
    cases turn.stage with
    | replied stamp todo screened => cases screened <;> rfl
    | polling => rfl
    | missed => rfl
  have hstage : turn.stage.cut = stage := by
    simp only [stage]
    cases turn.stage <;> rfl
  have discarded := State.discardUnwalked_all (s := (s.enter 0x26#8 tag).setStation i
    (some { st with state := .removing, removeTag := some tag })) hturn hslot hother (State.setStation_get ..)
  rw [exec_stationRemove_later h hb ((s.turnInFlight_iff i).2 ⟨k, turn, hturn, hslot⟩), discarded, hunwalked, hstage,
    State.setStation_roster, setAt_setAt]
  rfl

end Sys2Proof.Machine
end

section
/-! TRUNK_CONFIG and TRUNK_START (R74, R92, R93, R158, Table 5-4). -/

namespace Sys2Proof.Machine

/-- The ranges of a TRUNK_CONFIG's settings (Table 5-3). -/
def TrunkSettingsInRange (rate : Byte) (timeout : Nat) (retries missLimit : Byte) (period : Nat) : Prop :=
  rate.toNat ≤ 7 ∧ 100 ≤ timeout ∧ retries.toNat ≤ 3 ∧ 1 ≤ missLimit.toNat ∧ missLimit.toNat ≤ 15 ∧ period ≤ 1000

section
variable {t8 rate low high retries missLimit periodLow periodHigh : Byte}

theorem decodeTrunkConfig_of_inRange {r : Fin 8} (hr : rate.toNat = r.1)
    (h : TrunkSettingsInRange rate (low.toNat + 256 * high.toNat) retries missLimit
      (periodLow.toNat + 256 * periodHigh.toNat)) :
    decodeTrunkConfig [t8, rate, low, high, retries, missLimit, periodLow, periodHigh] =
      some { rate := r, timeout := low.toNat + 256 * high.toNat, retries := retries.toNat
             missLimit := missLimit.toNat, period := periodLow.toNat + 256 * periodHigh.toNat } := by
  obtain ⟨-, hsettings⟩ := h
  have hindex : index? 8 (byteAt [t8, rate, low, high, retries, missLimit, periodLow, periodHigh] 1) = some r :=
    index?_eq hr
  unfold decodeTrunkConfig
  rw [hindex]
  exact if_pos hsettings

theorem decodeTrunkConfig_none (h : ¬ TrunkSettingsInRange rate (low.toNat + 256 * high.toNat) retries missLimit
    (periodLow.toNat + 256 * periodHigh.toNat)) :
    decodeTrunkConfig [t8, rate, low, high, retries, missLimit, periodLow, periodHigh] = none := by
  unfold decodeTrunkConfig
  split
  · rename_i r hindex
    have hr : rate.toNat = r.1 := index?_some hindex
    exact if_neg fun hsettings => h ⟨by omega, hsettings⟩
  · rfl

end

/-- A trunk that is not in use is STOPPED or FAULTED (Table 5-2). -/
theorem TrunkState.out_of_use {x : TrunkState} (h : ¬ (x = .starting ∨ x = .running ∨ x = .stopping)) :
    x = .stopped ∨ x = .faulted := by
  cases x <;> simp_all

/-! ### The requests at acceptance -/

section
variable {s : State} {tag : Byte} (h : TakesRequest s tag)
include h

theorem exec_trunkConfig_badArg {body : List Byte} (hlen : body.length = 8)
    (hbad : index? 2 (byteAt body 0) = none ∨ decodeTrunkConfig body = none) :
    exec (.trunkConfig tag body) s = .next ((s.replied 0x28#8 tag .badArg []).finish false) := by
  refine perform_answered s (owner := trunkConfig tag body) h rfl rfl (by simp [hlen]) ?_
  unfold trunkConfig
  split
  · rename_i hk hconfig
    rcases hbad with hbad | hbad
    · cases hbad.symm.trans hk
    · cases hbad.symm.trans hconfig
  · rfl

theorem exec_trunkStart_badArg {t8 : Byte} (ht : 1 < t8.toNat) :
    exec (.trunkStart tag [t8]) s = .next ((s.replied 0x29#8 tag .badArg []).finish false) := by
  refine perform_answered s (owner := trunkStart tag [t8]) h rfl rfl (by simp) ?_
  have hindex : index? 2 (byteAt [t8] 0) = none := index?_none ht
  simp only [trunkStart, hindex]

variable {k : TrunkId}

section
variable {body : List Byte} (hlen : body.length = 8) (hk : index? 2 (byteAt body 0) = some k) {config : TrunkConfig}
  (hconfig : decodeTrunkConfig body = some config)
include hlen hk hconfig

/-- A trunk in use keeps its settings (R92). -/
theorem exec_trunkConfig_wrongState
    (hs : (s.trunks[k]).state = .starting ∨ (s.trunks[k]).state = .running ∨ (s.trunks[k]).state = .stopping) :
    exec (.trunkConfig tag body) s = .next ((s.replied 0x28#8 tag .wrongState []).finish false) := by
  refine perform_answered s (owner := trunkConfig tag body) h rfl rfl (by simp [hlen]) ?_
  have hget : (s.enter 0x28#8 tag).trunks[k] = s.trunks[k] := rfl
  simp only [trunkConfig, hk, hconfig, hget]
  rcases hs with hs | hs | hs <;> rw [hs]

theorem exec_trunkConfig_ok
    (hs : ¬ ((s.trunks[k]).state = .starting ∨ (s.trunks[k]).state = .running ∨ (s.trunks[k]).state = .stopping)) :
    exec (.trunkConfig tag body) s = .next (State.finish (State.replied
      (s.setTrunk k { s.trunks[k] with config := config }) 0x28#8 tag .ok []) false) := by
  refine perform_answered _ (owner := trunkConfig tag body) h (by rfl) rfl (by simp [hlen]) ?_
  have hget : (s.enter 0x28#8 tag).trunks[k] = s.trunks[k] := rfl
  simp only [trunkConfig, hk, hconfig, hget]
  rcases TrunkState.out_of_use hs with hs | hs <;> rw [hs] <;> rfl

end

variable {t8 : Byte} (hk : t8.toNat = k.1)
include hk

theorem exec_trunkStart_wrongState
    (hs : (s.trunks[k]).state = .starting ∨ (s.trunks[k]).state = .running ∨ (s.trunks[k]).state = .stopping) :
    exec (.trunkStart tag [t8]) s = .next ((s.replied 0x29#8 tag .wrongState []).finish false) := by
  refine perform_answered s (owner := trunkStart tag [t8]) h rfl rfl (by simp) ?_
  have hindex : index? 2 (byteAt [t8] 0) = some k := index?_eq hk
  have hget : (s.enter 0x29#8 tag).trunks[k] = s.trunks[k] := rfl
  simp only [trunkStart, hindex, hget]
  rcases hs with hs | hs | hs <;> rw [hs]

/-- A trunk out of use starts its idle watch, its reply owed (R93). -/
theorem exec_trunkStart_ok
    (hs : ¬ ((s.trunks[k]).state = .starting ∨ (s.trunks[k]).state = .running ∨ (s.trunks[k]).state = .stopping)) :
    exec (.trunkStart tag [t8]) s = .next (State.finish (State.owing (s.setTrunk k { s.trunks[k] with
      state := .starting, cause := .none, echoRun := 0, roundCounter := 0
      watch := some { idleFrom := some s.timeBase, limit := s.timeBase + 100000#32, tag := tag } }) 0x29#8 tag)
        false) := by
  refine (perform_accepted _ (trunkStart tag [t8]) h rfl (by simp)).trans ?_
  have hindex : index? 2 (byteAt [t8] 0) = some k := index?_eq hk
  have hget : (s.enter 0x29#8 tag).trunks[k] = s.trunks[k] := rfl
  simp only [trunkStart, hindex, hget]
  rcases TrunkState.out_of_use hs with hs | hs <;> rw [hs] <;> rfl

end

/-- Settles O33, by the settings and by the state of the trunk. -/
theorem trunkConfigAndStart : Obligations.TrunkConfigAndStart := by
  unfold Obligations.TrunkConfigAndStart
  intro s tag t8 rate low high retries missLimit periodLow periodHigh h timeout period config inRange answers
  refine ⟨fun hbad => ?_, exec_trunkStart_badArg h, fun k hk => ?_⟩
  · refine exec_trunkConfig_badArg h rfl ?_
    by_cases ht : t8.toNat ≤ 1
    · exact .inr (decodeTrunkConfig_none fun hsettings => hbad ⟨ht, hsettings⟩)
    · exact .inl (index?_none (b := t8) (by omega))
  intro x active
  refine ⟨fun hs => ⟨fun hin => ?_, ?_⟩, fun hs => ⟨fun hin r hr => ?_, ?_⟩⟩
  · obtain ⟨-, hrate, hsettings⟩ := hin
    exact exec_trunkConfig_wrongState h rfl (show index? 2 (byteAt (t8 :: _) 0) = some k from index?_eq (b := t8) hk)
      (decodeTrunkConfig_of_inRange (r := ⟨rate.toNat, by omega⟩) rfl ⟨hrate, hsettings⟩) hs
  · exact exec_trunkStart_wrongState h hk hs
  · obtain ⟨-, hsettings⟩ := hin
    exact exec_trunkConfig_ok h rfl (show index? 2 (byteAt (t8 :: _) 0) = some k from index?_eq (b := t8) hk)
      (decodeTrunkConfig_of_inRange hr hsettings) hs
  · exact exec_trunkStart_ok h hk hs

end Sys2Proof.Machine
end

section
/-! TRUNK_STOP and the stop step of a close (R87, R89, R95, R96, R98, R110). -/

namespace Sys2Proof.Machine

/-! ### A stop that begins or completes (R95, R96) -/

section
variable {s : State} {k : TrunkId}

/-- A STOPPING trunk completes its stop: it rests, its stations move with it, and its TRUNK_STOP is answered (R89,
R96). -/
theorem State.completeStop_eq (hids : (s.directives.entries.map Directive.id).Nodup) : s.completeStop k =
    (((s.setTrunk k ((s.trunks[k]).atRest .stopped)).grounded k).answerStop (s.trunks[k]).stopTag .stopped).raise
      (.trunkState k .stopping .stopped .request) := by
  have moved := (s.setTrunk k ((s.trunks[k]).atRest .stopped)).groundStations_eq k hids
  rw [← moved]
  rfl

/-- With no turn in flight the stop completes at once (R95). -/
theorem State.beginStop_idle (hids : (s.directives.entries.map Directive.id).Nodup) (hturn : (s.trunks[k]).turn = none)
    (tag : Option Byte) : s.beginStop k tag =
      (((s.setTrunk k ((s.trunks[k]).atRest .stopped)).grounded k).answerStop tag .stopped).raise
        (.trunkState k .stopping .stopped .request) := by
  have none : (s.trunks[k]).turn.isNone = true := by rw [hturn]; rfl
  unfold State.beginStop
  rw [if_pos none]
  refine (State.completeStop_eq (s := s.setTrunk k _) hids).trans ?_
  rw [State.setTrunk_get, State.setTrunk_setTrunk]
  rfl

theorem State.beginStop_turn {turn : Turn} (hturn : (s.trunks[k]).turn = some turn) (tag : Option Byte) :
    s.beginStop k tag = s.setTrunk k { s.trunks[k] with
      state := .stopping, round := none, nextRound := none, stopTag := tag } := by
  have some : ¬ (s.trunks[k]).turn.isNone = true := by rw [hturn]; exact Bool.false_ne_true
  unfold State.beginStop
  exact if_neg some

end

/-! ### TRUNK_STOP at acceptance (R95) -/

/-- A notice does not look at the replies (R146). -/
theorem State.raise_replied (s : State) (n : Notice) (kind tag : Byte) (status : Status) (results : List Byte) :
    (s.replied kind tag status results).raise n = (s.raise n).replied kind tag status results := by
  unfold State.raise
  by_cases h : s.link.session = .opened ∧ s.notices.enables n = true
  · rw [if_pos h]; exact if_pos h
  · rw [if_neg h]; exact if_neg h

section
variable {s : State} {tag t8 : Byte} (h : TakesRequest s tag)
include h

theorem exec_trunkStop_badArg (ht : 1 < t8.toNat) :
    exec (.trunkStop tag [t8]) s = .next ((s.replied 0x2A#8 tag .badArg []).finish false) := by
  refine perform_answered s (owner := trunkStop tag [t8]) h rfl rfl (by simp) ?_
  have hindex : index? 2 (byteAt [t8] 0) = none := index?_none ht
  simp only [trunkStop, hindex]

end

section
variable {s : State} {tag t8 : Byte} {k : TrunkId} (hk : t8.toNat = k.1)
include hk

theorem trunkStop_at (u : State) : trunkStop tag [t8] u = match (u.trunks[k]).state with
    | .stopped => u.answer 0x2A#8 tag .ok [TrunkState.stopped.code]
    | .starting =>
      ((u.abortStart k).answer 0x2A#8 tag .ok [TrunkState.stopped.code]).raise
        (.trunkState k .starting .stopped .request)
    | .running => u.beginStop k (some tag)
    | .stopping => u.answer 0x2A#8 tag .wrongState []
    | .faulted => (u.stopFaulted k).answer 0x2A#8 tag .ok [TrunkState.stopped.code] := by
  have hindex : index? 2 (byteAt [t8] 0) = some k := index?_eq hk
  unfold trunkStop
  simp only [hindex] <;> rfl

variable (h : TakesRequest s tag)
include h

/-- A trunk that is STOPPED or STOPPING answers and stays (R95). -/
theorem exec_trunkStop_stays {status : Status} {results : List Byte}
    (hs : ((s.trunks[k]).state = .stopped ∧ status = .ok ∧ results = [0#8])
      ∨ ((s.trunks[k]).state = .stopping ∧ status = .wrongState ∧ results = [])) :
    exec (.trunkStop tag [t8]) s = .next ((s.replied 0x2A#8 tag status results).finish false) := by
  refine perform_answered s (owner := trunkStop tag [t8]) h rfl rfl (by simp) ?_
  have hget : (s.enter 0x2A#8 tag).trunks[k] = s.trunks[k] := rfl
  rw [trunkStop_at hk, hget]
  obtain ⟨hs, rfl, rfl⟩ | ⟨hs, rfl, rfl⟩ := hs
  · rw [hs]; rfl
  · rw [hs]

/-- With its turn in flight a RUNNING trunk goes STOPPING, its reply owed (R95). -/
theorem exec_trunkStop_turn (hs : (s.trunks[k]).state = .running) {turn : Turn}
    (hturn : (s.trunks[k]).turn = some turn) :
    exec (.trunkStop tag [t8]) s = .next (State.finish (State.owing (s.setTrunk k { s.trunks[k] with
      state := .stopping, round := none, nextRound := none, stopTag := some tag }) 0x2A#8 tag) false) := by
  refine (perform_accepted _ (trunkStop tag [t8]) h rfl (by simp)).trans ?_
  have hget : (s.enter 0x2A#8 tag).trunks[k] = s.trunks[k] := rfl
  rw [trunkStop_at hk, hget, hs]
  dsimp only
  rw [State.beginStop_turn (s := s.enter 0x2A#8 tag) hturn]
  rfl

/-- Between its turns a RUNNING trunk stops at once (R89, R95, R96). -/
theorem exec_trunkStop_idle (hs : (s.trunks[k]).state = .running) (hturn : (s.trunks[k]).turn = none)
    (hids : (s.directives.entries.map Directive.id).Nodup) : exec (.trunkStop tag [t8]) s =
      .next (State.finish (((((s.setTrunk k ((s.trunks[k]).atRest .stopped)).grounded k).replied 0x2A#8 tag .ok
        [0#8]).raise (.trunkState k .stopping .stopped .request))) false) := by
  obtain ⟨-, -, -, -, htag, -⟩ := id h
  refine (perform_accepted _ (trunkStop tag [t8]) h rfl (by simp)).trans ?_
  have hget : (s.enter 0x2A#8 tag).trunks[k] = s.trunks[k] := rfl
  obtain ⟨b, moved⟩ := (s.setTrunk k ((s.trunks[k]).atRest .stopped)).grounded_entered 0x2A#8 tag false k
  have replied := State.answer_of_entered ((s.setTrunk k ((s.trunks[k]).atRest .stopped)).grounded k) 0x2A#8 tag b
    ((State.grounded_sameSession _ k).tag_free htag) .ok [0#8]
  rw [trunkStop_at hk, hget, hs]
  dsimp only
  rw [State.beginStop_idle (s := s.enter 0x2A#8 tag) hids hturn, ← replied, ← moved]
  rfl

/-- A STARTING trunk gives its start up: TRUNK_START is answered before TRUNK_STOP (R95, R98). -/
theorem exec_trunkStop_starting (hs : (s.trunks[k]).state = .starting) {w : StartWatch}
    (hw : (s.trunks[k]).watch = some w) : exec (.trunkStop tag [t8]) s = .next (State.finish
      ((((s.setTrunk k { s.trunks[k] with state := .stopped, watch := none }).repliedLate 0x29#8 w.tag .aborted
        []).replied 0x2A#8 tag .ok [0#8]).raise (.trunkState k .starting .stopped .request)) false) := by
  obtain ⟨-, -, -, -, htag, -⟩ := id h
  refine (perform_accepted _ (trunkStop tag [t8]) h rfl (by simp)).trans ?_
  have hget : (s.enter 0x2A#8 tag).trunks[k] = s.trunks[k] := rfl
  generalize hstopped : s.setTrunk k { s.trunks[k] with state := .stopped, watch := none } = stopped
  have aborted : (s.enter 0x2A#8 tag).abortStart k =
      (stopped.entered 0x2A#8 tag false).repliedLate 0x29#8 w.tag .aborted [] := by
    subst hstopped
    unfold State.abortStart
    rw [hget, hw]
    rfl
  have htag' : ∀ r ∈ (stopped.repliedLate 0x29#8 w.tag .aborted []).link.requests, r.tag ≠ tag :=
    (stopped.repliedLate_sameSession 0x29#8 w.tag .aborted []).tag_free (by subst hstopped; exact htag)
  rw [trunkStop_at hk, hget, hs]
  dsimp only
  rw [aborted, State.repliedLate_entered]
  refine congrArg (fun u : State => Host.Outcome.next ((u.raise _).finish false)) ?_
  exact State.answer_of_entered _ _ _ _ htag' .ok [0#8]

/-- A FAULTED trunk becomes STOPPED (R95, R98). -/
theorem exec_trunkStop_faulted (hs : (s.trunks[k]).state = .faulted) : exec (.trunkStop tag [t8]) s =
    .next (State.finish (((s.setTrunk k { s.trunks[k] with state := .stopped }).replied 0x2A#8 tag .ok [0#8]).raise
      (.trunkState k .faulted .stopped .request)) false) := by
  rw [State.raise_replied]
  refine perform_answered _ (owner := trunkStop tag [t8]) h (by simp) rfl (by simp) ?_
  have hget : (s.enter 0x2A#8 tag).trunks[k] = s.trunks[k] := rfl
  rw [trunkStop_at hk, hget, hs]
  dsimp only
  refine congrArg (fun u : State => u.answer 0x2A#8 tag .ok [0#8]) ?_
  exact State.raise_entered (s.setTrunk k { s.trunks[k] with state := .stopped }) 0x2A#8 tag false _

end

/-- Settles O34, by the state of the trunk. -/
theorem trunkStopInEveryState : Obligations.TrunkStopInEveryState := by
  unfold Obligations.TrunkStopInEveryState
  intro s tag t8 h hd
  obtain ⟨-, hids, -⟩ := hd
  refine ⟨exec_trunkStop_badArg h, fun k hk => ⟨?_, ?_, ?_, ?_, ?_, ?_⟩⟩
  · exact fun hs => exec_trunkStop_stays hk h (.inl ⟨hs, rfl, rfl⟩)
  · exact fun w hs hw => exec_trunkStop_starting hk h hs hw
  · exact fun hs hturn => exec_trunkStop_idle hk h hs hturn hids
  · exact fun turn hs hturn => exec_trunkStop_turn hk h hs hturn
  · exact fun hs => exec_trunkStop_stays hk h (.inr ⟨hs, rfl, rfl⟩)
  · exact fun hs => exec_trunkStop_faulted hk h hs

/-! ### The stop step of a close (R110, R141) -/

/-- Outside an OPEN session no notice is kept (R146). -/
theorem State.raise_of_session {s : State} (h : s.link.session ≠ .opened) (n : Notice) : s.raise n = s := by
  unfold State.raise
  exact if_neg fun enabled => h enabled.1

/-- What the stop step makes of a trunk (R95, R110). -/
def State.closeStopped (u : State) (k : TrunkId) : State :=
  let x := u.trunks[k]
  match x.state with
  | .stopped | .starting | .stopping => u
  | .faulted => u.setTrunk k { x with state := .stopped }
  | .running =>
    if x.turn = none then (u.setTrunk k (x.atRest .stopped)).grounded k
    else u.setTrunk k { x with state := .stopping, round := none, nextRound := none, stopTag := none }

section
variable {u : State} {k : TrunkId} (hsession : u.link.session ≠ .opened)
  (hids : (u.directives.entries.map Directive.id).Nodup)
include hsession hids

theorem State.closeStopTrunk_eq : u.closeStopTrunk k = u.closeStopped k := by
  unfold State.closeStopTrunk State.closeStopped
  dsimp only
  cases hs : (u.trunks[k]).state with
  | stopped => rfl
  | starting => rfl
  | stopping => rfl
  | faulted => exact State.raise_of_session (s := u.setTrunk k _) hsession _
  | running =>
    dsimp only
    by_cases hturn : (u.trunks[k]).turn = none
    · rw [State.beginStop_idle hids hturn, if_pos hturn]
      refine State.raise_of_session (s := (u.setTrunk k _).grounded k) ?_ _
      rw [(State.grounded_sameSession _ k).session]
      exact hsession
    · obtain ⟨turn, hturn'⟩ := Option.ne_none_iff_exists'.1 hturn
      rw [State.beginStop_turn hturn' none, if_neg hturn]

/-- The stop step of one trunk leaves the session and the distinct ids to the other (R110). -/
theorem State.closeStopped_keeps : (u.closeStopped k).link.session ≠ .opened
    ∧ ((u.closeStopped k).directives.entries.map Directive.id).Nodup := by
  unfold State.closeStopped
  dsimp only
  split
  case h_5 =>
    split
    · refine ⟨?_, State.grounded_ids _ k hids⟩
      rw [(State.grounded_sameSession _ k).session]
      exact hsession
    · exact ⟨hsession, hids⟩
  all_goals exact ⟨hsession, hids⟩

end

/-- Settles O11: both trunks in turn, the notices of a CLOSING session not kept. -/
theorem closeStopStepStopsTrunks : Obligations.CloseStopStepStopsTrunks := by
  unfold Obligations.CloseStopStepStopsTrunks
  intro s tag hreset hsession
  refine ⟨fun ⟨r, hr, howed, hother⟩ => ?_, fun answered hd => ?_⟩
  · have waits : s.earlierAnswered tag = false := by
      simp only [State.earlierAnswered, List.all_eq_false]
      exact ⟨r, hr, by simp [howed, hother]⟩
    refine (perform_awake hreset closeStopStep).trans ?_
    simp only [closeStopStep, hsession, waits, Bool.false_eq_true, if_false]
  · intro stop closing
    obtain ⟨-, hids, -⟩ := hd
    have done : s.earlierAnswered tag = true := by
      simp only [State.earlierAnswered, List.all_eq_true]
      exact fun r hr => by simpa using answered r hr
    have hclosing : closing.link.session ≠ .opened := by simp [closing]
    obtain ⟨hsession', hids'⟩ := State.closeStopped_keeps (k := 0) hclosing hids
    have both : (List.finRange 2).foldl State.closeStopTrunk closing = stop (stop closing 0) 1 := by
      have order : List.finRange 2 = [0, 1] := rfl
      rw [order, List.foldl_cons, List.foldl_cons, List.foldl_nil, State.closeStopTrunk_eq hclosing hids,
        State.closeStopTrunk_eq hsession' hids']
      rfl
    refine (perform_awake hreset closeStopStep).trans ?_
    rw [← both]
    simp only [closeStopStep, hsession, done, if_true]
    rfl

end Sys2Proof.Machine
end

section
/-! The idle watch and its two ends (R70, R89, R90, R94, R98). -/

namespace Sys2Proof.Machine

/-! ### Times (R90, R164) -/

theorem passed_iff {due now : Time} : passed due now = true ↔ Before due now := by
  unfold passed reached elapsed
  rw [Bool.and_eq_true, decide_eq_true_iff, decide_eq_true_iff]

theorem rateOf_pos (rate : Fin 8) : 0 < rateOf rate := by
  revert rate
  decide

/-- Byte times are rounded up to whole microseconds (R90). -/
theorem byteTimes_bounds (rate : Fin 8) (n : Nat) : n * 10000000 ≤ byteTimes rate n * rateOf rate
    ∧ byteTimes rate n * rateOf rate < n * 10000000 + rateOf rate := by
  unfold byteTimes
  have hpos := rateOf_pos rate
  generalize rateOf rate = rate at hpos
  cases rate with
  | zero => exact absurd hpos (Nat.lt_irrefl 0)
  | succ r =>
    dsimp only
    have below := Nat.div_mul_le_self (n * 10000000 + r) (r + 1)
    have above := Nat.lt_div_mul_add (a := n * 10000000 + r) (show 0 < r + 1 from Nat.succ_pos r)
    constructor <;> omega

/-! ### The ends of the watch (R94) -/

section
variable (s : State) (k : TrunkId)

/-- A round that starts on a trunk just replaced (R70). -/
theorem State.startRound_setTrunk (x : Trunk) : (s.setTrunk k x).startRound k = s.setTrunk k { x with
    roundStart := s.timeBase
    round := some { places := s.dueList k x.roundCounter, turned := false }
    nextRound := none
    counters := { x.counters with rounds := bump x.counters.rounds 1 } } := by
  unfold State.startRound
  dsimp only
  rw [State.setTrunk_get, State.setTrunk_setTrunk]
  rfl

/-- The idle run complete: the trunk is RUNNING and its round 0 has started (R70, R89, R94). -/
theorem State.runTrunk_startedAt (w : StartWatch) (due : Time) :
    s.runTrunk k w due = s.startedAt k w.tag (s.expiryAt due) := by
  have started := ((s.advanceTo due).wakeStations k).startRound_setTrunk k
    { s.trunks[k] with state := .running, watch := none, roundCounter := 0 }
  rw [State.runTrunk_eq]
  refine congrArg (fun u : State => (u.answer 0x29#8 w.tag .ok []).raise _) (Eq.trans started ?_)
  rw [State.advanceTo_eq]
  rfl

theorem State.failStart_startFailedAt (w : StartWatch) :
    s.failStart k w = s.startFailedAt k w.tag (s.expiryAt w.limit) := by
  rw [State.failStart_eq, State.advanceTo_eq]
  rfl

end

section
variable {s : State} {k : TrunkId}

theorem idleComplete_of_ne (hs : (s.trunks[k]).state ≠ .starting) : idleComplete k s = s := by
  unfold idleComplete
  split
  · exact absurd ‹_› hs
  · rfl

theorem startLimitExpiry_of_ne (hs : (s.trunks[k]).state ≠ .starting) : startLimitExpiry k s = s := by
  unfold startLimitExpiry
  split
  · exact absurd ‹_› hs
  · rfl

variable {w : StartWatch} (hs : (s.trunks[k]).state = .starting) (hw : (s.trunks[k]).watch = some w)
include hs hw

/-- The idle run is complete at `due`, unless the start limit falls before (R94). -/
theorem idleComplete_of_watch : idleComplete k s = match w.idleDue (s.trunks[k]).config.rate with
    | some due => if Before w.limit due then s else s.startedAt k w.tag (s.expiryAt due)
    | none => s := by
  unfold idleComplete
  rw [hs, hw]
  dsimp only
  cases w.idleDue (s.trunks[k]).config.rate with
  | none => rfl
  | some due =>
    dsimp only
    rw [State.runTrunk_startedAt]
    simp only [passed_iff]

/-- The start limit, unless the idle run is complete before (R94). -/
theorem startLimitExpiry_of_watch : startLimitExpiry k s = match w.idleDue (s.trunks[k]).config.rate with
    | some due => if Before due w.limit then s else s.startFailedAt k w.tag (s.expiryAt w.limit)
    | none => s.startFailedAt k w.tag (s.expiryAt w.limit) := by
  unfold startLimitExpiry
  rw [hs, hw]
  rw [← State.failStart_startFailedAt]
  dsimp only
  cases w.idleDue (s.trunks[k]).config.rate with
  | none => rfl
  | some due => simp only [passed_iff]

end

/-- Settles O35: each end is the event that falls first. -/
theorem idleWatchEnds : Obligations.IdleWatchEnds := by
  unfold Obligations.IdleWatchEnds
  refine ⟨byteTimes_bounds, fun s k hreset => ?_⟩
  intro x idle limit
  have idleIs : ∀ u, idleComplete k s = u → idle u := fun u h => h ▸ perform_awake hreset (idleComplete k)
  have limitIs : ∀ u, startLimitExpiry k s = u → limit u := fun u h => h ▸ perform_awake hreset (startLimitExpiry k)
  refine ⟨fun hs => ⟨idleIs s (idleComplete_of_ne hs), limitIs s (startLimitExpiry_of_ne hs)⟩, fun w hs hw => ?_⟩
  have completes := idleComplete_of_watch hs hw
  have expires := startLimitExpiry_of_watch hs hw
  unfold StartWatch.idleDue at completes expires
  refine ⟨fun hidle => ?_, fun f hf => ?_⟩
  · rw [hidle] at completes expires
    exact ⟨idleIs _ completes, limitIs _ expires⟩
  · intro due
    rw [hf] at completes expires
    exact ⟨fun h => idleIs _ (completes.trans (if_neg h)), fun h => idleIs _ (completes.trans (if_pos h)),
      fun h => limitIs _ (expires.trans (if_neg h)), fun h => limitIs _ (expires.trans (if_pos h))⟩

end Sys2Proof.Machine
end

section
/-! The start of a round (R70, R73, Table 4-2). -/

namespace Sys2Proof.Machine

/-! ### The due list -/

/-- Table 4-2, state by state. -/
theorem Station.dueIn_iff (st : Station) (slot r : Nat) : st.dueIn slot r = true ↔
    st.state = .probing ∨ st.state = .lagging ∨ (st.state = .active ∧ r % 2 ^ st.pollClass = slot % 2 ^ st.pollClass)
      ∨ (st.state = .lost ∧ r % 16 = slot % 16) := by
  unfold Station.dueIn
  cases st.state <;> simp

section
variable (s : State) (k : TrunkId) (r : Nat)

/-- The place of slot `i` in the due list, if its station is due (R70). -/
def State.duePlace (i : StationId) : Option Place :=
  match s.roster[i] with
  | some st => if st.trunk = k ∧ st.dueIn i.1 r then some { slot := i, serial := st.serial } else none
  | none => none

theorem State.dueList_eq : s.dueList k r = (List.finRange 64).filterMap (s.duePlace k r) := rfl

variable {s k r}

theorem State.duePlace_eq_some {i : StationId} {p : Place} : s.duePlace k r i = some p ↔ p.slot = i ∧
    ∃ st, s.roster[i] = some st ∧ st.serial = p.serial ∧ st.trunk = k ∧ st.dueIn i.1 r = true := by
  unfold State.duePlace
  cases s.roster[i] with
  | none => simp
  | some st =>
    dsimp only
    constructor
    · intro h
      split at h
      · obtain ⟨htrunk, hdue⟩ := ‹_ ∧ _›
        cases h
        exact ⟨rfl, st, rfl, rfl, htrunk, hdue⟩
      · cases h
    · rintro ⟨rfl, st', hst, hserial, htrunk, hdue⟩
      cases hst
      rw [if_pos ⟨htrunk, hdue⟩, hserial]

/-- The places stand in ascending slot order (R70). -/
theorem State.dueList_ascending : ((s.dueList k r).map fun p => p.slot.1).Pairwise (· < ·) := by
  rw [List.pairwise_map, State.dueList_eq, List.pairwise_filterMap]
  refine (List.pairwise_lt_finRange 64).imp fun {i j} hij p hp q hq => ?_
  obtain ⟨rfl, -⟩ := State.duePlace_eq_some.1 hp
  obtain ⟨rfl, -⟩ := State.duePlace_eq_some.1 hq
  exact hij

theorem State.mem_dueList {p : Place} : p ∈ s.dueList k r ↔
    ∃ st, s.roster[p.slot] = some st ∧ st.serial = p.serial ∧ st.trunk = k ∧ st.dueIn p.slot.1 r = true := by
  rw [State.dueList_eq, List.mem_filterMap]
  constructor
  · rintro ⟨i, -, hp⟩
    obtain ⟨rfl, hst⟩ := State.duePlace_eq_some.1 hp
    exact hst
  · exact fun hst => ⟨p.slot, List.mem_finRange _, State.duePlace_eq_some.2 ⟨rfl, hst⟩⟩

end

/-! ### The event -/

section
variable {s : State} {k : TrunkId}

theorem roundStart_at {due : Time} (hs : (s.trunks[k]).state = .running) (hround : (s.trunks[k]).round = none)
    (hdue : (s.trunks[k]).nextRound = some due) : roundStart k s = (s.advanceTo due).startRound k := by
  unfold roundStart
  rw [hs, hround, hdue]

theorem roundStart_idle
    (h : (s.trunks[k]).state ≠ .running ∨ (s.trunks[k]).round ≠ none ∨ (s.trunks[k]).nextRound = none) :
    roundStart k s = s := by
  unfold roundStart
  split
  · rename_i hs hround hdue
    rcases h with h | h | h
    · exact absurd hs h
    · exact absurd hround h
    · cases h.symm.trans hdue
  · rfl

end

/-- Settles O37. -/
theorem roundStartFixesDueList : Obligations.RoundStartFixesDueList := by
  unfold Obligations.RoundStartFixesDueList
  intro s k hreset
  refine ⟨fun due hs hround hdue => ?_, fun h => ?_, fun r => ⟨State.dueList_ascending, fun p => ?_⟩⟩
  · intro x now
    refine (perform_awake hreset (roundStart k)).trans ?_
    rw [roundStart_at hs hround hdue, State.advanceTo_eq]
    rfl
  · refine (perform_awake hreset (roundStart k)).trans ?_
    rw [roundStart_idle h]
  · simp only [State.mem_dueList, Station.dueIn_iff]

end Sys2Proof.Machine
end

section
/-! Places and the turns they begin (R71, R72, R73, R100, R101, R114, R172). -/

namespace Sys2Proof.Machine

/-! ### The end of a round (R73) -/

section
variable (s : State) (k : TrunkId) (x : Trunk)

theorem State.endRound_eq (turned : Bool) :
    s.endRound k turned = s.setTrunk k ((s.trunks[k]).roundEnded s.timeBase turned) := rfl

/-- The round of a trunk just replaced ends with its last place (R73). -/
theorem State.endRoundIfDone_setTrunk {r : Round} (hr : x.round = some r) : (s.setTrunk k x).endRoundIfDone k =
    s.setTrunk k (if r.places = [] then x.roundEnded s.timeBase r.turned else x) := by
  unfold State.endRoundIfDone
  rw [State.setTrunk_get, hr]
  dsimp only
  rw [State.endRound_eq, State.setTrunk_get, State.setTrunk_setTrunk]
  cases r.places with
  | nil => rfl
  | cons p ps => exact congrArg (s.setTrunk k) (if_neg (List.cons_ne_nil p ps)).symm

theorem State.skipPlace_eq (r : Round) (rest : List Place) : s.skipPlace k r rest = s.setTrunk k
    (if rest = [] then
      ({ s.trunks[k] with round := some { r with places := rest } } : Trunk).roundEnded s.timeBase r.turned
      else { s.trunks[k] with round := some { r with places := rest } }) :=
  s.endRoundIfDone_setTrunk k { s.trunks[k] with round := some { r with places := rest } }
    (r := { r with places := rest }) rfl

end

/-! ### The attached directive (R114) -/

section
variable {q : DirectiveQueue} {before after : List Directive} {d : Directive} (hq : q.entries = before ++ d :: after)
include hq

/-- A change of the entry that holds an id changes no other. -/
theorem DirectiveQueue.modify_eq (hids : (q.entries.map Directive.id).Nodup) (f : Directive → Directive) :
    q.modify d.id f = before ++ f d :: after := by
  rw [hq, List.map_append, List.map_cons, List.nodup_append, List.nodup_cons] at hids
  obtain ⟨-, ⟨hafter, -⟩, hbefore⟩ := hids
  have same : ∀ l : List Directive, (∀ e ∈ l, e.id ≠ d.id) → (l.map fun e => if e.id = d.id then f e else e) = l :=
    fun l h => (List.map_congr_left fun e he => if_neg (h e he)).trans (List.map_id l)
  unfold DirectiveQueue.modify
  rw [hq, List.map_append, List.map_cons, if_pos rfl,
    same before fun e he => hbefore _ (List.mem_map_of_mem he) _ List.mem_cons_self,
    same after fun e he h => hafter (List.mem_map.2 ⟨e, he, h⟩)]

theorem DirectiveQueue.ids_before (hids : (q.entries.map Directive.id).Nodup) : ∀ e ∈ before, e.id ≠ d.id := by
  rw [hq, List.map_append, List.map_cons, List.nodup_append] at hids
  obtain ⟨-, -, hbefore⟩ := hids
  exact fun e he => hbefore _ (List.mem_map_of_mem he) _ List.mem_cons_self

theorem DirectiveQueue.ofStation_cons (hfirst : ∀ e ∈ before, e.slot ≠ d.slot) :
    ∃ rest, q.ofStation d.slot = d :: rest := by
  refine ⟨after.filter fun e => decide (e.slot = d.slot), ?_⟩
  unfold DirectiveQueue.ofStation
  rw [hq, List.filter_append, List.filter_eq_nil_iff.2 (by simpa using hfirst), List.filter_cons, if_pos (by simp)]
  rfl

end

/-- A directive as an attempt of it is under way: attached, and whether it was awaiting before (R114). -/
def Directive.taken (d : Directive) : Directive := { d with state := .attached (decide (d.state = .awaiting)) }

section
variable {s : State} {i : StationId}

theorem State.attach_none (h : ∀ d ∈ s.directives.entries, d.slot ≠ i) : s.attach i = (none, s) := by
  have empty : s.directives.ofStation i = [] := List.filter_eq_nil_iff.2 (by simpa using h)
  unfold State.attach
  rw [empty]

/-- The station's oldest directive is attached, and stands where it stood (R114). -/
theorem State.attach_oldest {before after : List Directive} {d : Directive}
    (hids : (s.directives.entries.map Directive.id).Nodup) (hq : s.directives.entries = before ++ d :: after)
    (hfirst : ∀ e ∈ before, e.slot ≠ d.slot) :
    s.attach d.slot = (some d.id, s.setDirectives (before ++ d.taken :: after)) := by
  obtain ⟨rest, hrest⟩ := DirectiveQueue.ofStation_cons hq hfirst
  unfold State.attach
  rw [hrest]
  dsimp only
  rw [DirectiveQueue.modify_eq hq hids]
  rfl

end

/-! ### The POLL (R101, Table 10-14) -/

theorem pollBytes_none (address : Byte) (baseline : Option Byte) :
    let head := [address, 4#8, byteOf (if baseline.isSome then 1 else 0), baseline.getD 0#8, 0#8, 0#8]
    pollBytes address baseline none = [0x3C#8] ++ head ++ crcBytes (crc16 head) := by
  rfl

theorem pollBytes_some (address : Byte) (baseline : Option Byte) (d : Directive) :
    let head := [address, byteOf (4 + d.payload.length), byteOf ((if baseline.isSome then 1 else 0) + 2),
      baseline.getD 0#8, byteOf d.number, byteOf d.payload.length] ++ d.payload
    pollBytes address baseline (some d) = [0x3C#8] ++ head ++ crcBytes (crc16 head) := by
  intro head
  have hhead : pollHead address baseline (some d) = head := by
    simp [pollHead, head, pollFlags, directiveBytes]
    congr 1; omega
  unfold pollBytes
  rw [hhead]
  rfl

/-! ### The event (R71, R100) -/

section
variable {s : State} {k : TrunkId} {r : Round}

/-- The turn of a station begins: its directive as the attachment left it, its POLL on the line (R72, R100, R101). -/
theorem State.beginTurn_eq {i : StationId} {st : Station} {d : Option Nat} {es : List Directive}
    (hattach : s.attach i = (d, s.setDirectives es)) (hst : s.roster[i] = some st) (places : List Place) :
    s.beginTurn k i st places = (s.setDirectives es).setTrunk k { s.trunks[k] with
      turn := some { slot := i, attempt := 1, directive := d, mark := false, startState := st.state, stage := .polling }
      round := some { places := places, turned := true }
      phase := .sending (pollBytes st.address st.baseline (d.bind (s.setDirectives es).directives.find)) s.timeBase 0
      de := true, txMark := false } := by
  unfold State.beginTurn State.beginPoll
  rw [hattach]
  dsimp only [State.setTrunk_roster, State.setDirectives_roster]
  rw [hst]
  dsimp only
  rw [State.setTrunk_get, State.setTrunk_setTrunk]
  rfl

section
variable (hs : (s.trunks[k]).state = .running) (hphase : (s.trunks[k]).phase = .idle)
  (hturn : (s.trunks[k]).turn = none) (hround : (s.trunks[k]).round = some r)
include hs hphase hturn hround

theorem turnBegin_done (hp : r.places = []) :
    turnBegin k s = s.setTrunk k ((s.trunks[k]).roundEnded s.timeBase r.turned) := by
  unfold turnBegin
  rw [hs, hphase, hturn, hround]
  dsimp only
  rw [hp]
  rfl

variable {p : Place} {rest : List Place} (hp : r.places = p :: rest)
include hp

theorem turnBegin_skips (h : ∀ st, s.roster[p.slot] = some st → ¬ (st.serial = p.serial ∧ st.state.pollable = true)) :
    turnBegin k s = s.skipPlace k r rest := by
  unfold turnBegin
  rw [hs, hphase, hturn, hround]
  dsimp only
  rw [hp]
  dsimp only
  split
  · exact if_neg (h _ ‹_›)
  · rfl

theorem turnBegin_polls {st : Station} (hst : s.roster[p.slot] = some st)
    (h : st.serial = p.serial ∧ st.state.pollable = true) : turnBegin k s = s.beginTurn k p.slot st rest := by
  unfold turnBegin
  rw [hs, hphase, hturn, hround]
  dsimp only
  rw [hp]
  dsimp only
  rw [hst]
  exact if_pos h

end

end

theorem StationState.pollable_iff (x : StationState) :
    x.pollable = true ↔ x = .probing ∨ x = .active ∨ x = .lagging ∨ x = .lost := by
  cases x <;> decide

/-- Settles O38: the end of the round, the skipped place, and the turn with or without a directive. -/
theorem turnBeginTakesNextPlace : Obligations.TurnBeginTakesNextPlace := by
  unfold Obligations.TurnBeginTakesNextPlace
  intro s k r hreset hd hs hphase hturn hround x put
  obtain ⟨-, hids, -⟩ := hd
  have steps : ∀ u, turnBegin k s = u → exec (.turnBegin k) s = .next (u.finish false) :=
    fun u h => h ▸ perform_awake hreset (turnBegin k)
  refine ⟨fun hp => steps _ (turnBegin_done hs hphase hturn hround hp), fun p rest hp => ?_⟩
  intro polled
  refine ⟨fun h => steps _ ?_, fun st hst h => ?_⟩
  · refine (turnBegin_skips hs hphase hturn hround hp fun st hst e => h st hst ?_).trans (s.skipPlace_eq k r rest)
    exact ⟨e.1, (StationState.pollable_iff _).1 e.2⟩
  · intro begun ack valid
    obtain ⟨hserial, hstate⟩ := h
    have polls := turnBegin_polls hs hphase hturn hround hp hst ⟨hserial, (StationState.pollable_iff _).2 hstate⟩
    refine ⟨fun hnone => steps _ ?_, fun before d after hq hslot hfirst => steps _ ?_⟩
    · rw [polls, State.beginTurn_eq (es := s.directives.entries) (State.attach_none hnone) hst, Option.bind_none,
        pollBytes_none]
      rfl
    · obtain ⟨i, serial⟩ := p
      obtain rfl : d.slot = i := hslot
      have hbefore : ∀ e ∈ before, e.id ≠ d.id := DirectiveQueue.ids_before hq hids
      have found : (s.setDirectives (before ++ d.taken :: after)).directives.find d.id = some d.taken :=
        DirectiveQueue.find_eq (d := d.taken) rfl hbefore
      rw [polls, State.beginTurn_eq (State.attach_oldest hids hq hfirst) hst, Option.bind_some, found, pollBytes_some]
      rfl

end Sys2Proof.Machine
end

section
/-! REPLY frames: the records and the body a station lays out, and the judgement on it (R104, R105, R173). -/

namespace Sys2Proof.Machine

/-! ### The layout (R173) -/

/-- The bytes of records, one after the other. -/
def recordBytes (rs : List ReplyRecord) : List Byte :=
  rs.flatMap fun r => [r.kind, r.seq, byteOf r.payload.length] ++ r.payload

/-- The body of a REPLY with these flags, acknowledgement and records. -/
def replyBody (flags ack result : Byte) (rs : List ReplyRecord) : List Byte :=
  [flags, ack, result, byteOf rs.length] ++ recordBytes rs

/-- The bytes are the body of a REPLY of at most 4 records with payloads of at most 56 bytes. -/
def LaidOut (body : List Byte) : Prop :=
  ∃ (flags ack result : Byte) (rs : List ReplyRecord), rs.length ≤ 4 ∧ (∀ r ∈ rs, r.payload.length ≤ 56)
    ∧ body = replyBody flags ack result rs

/-- Records are read back as they were laid out. -/
theorem replyRecords_bytes : ∀ {rs : List ReplyRecord}, (∀ r ∈ rs, r.payload.length ≤ 56) →
    replyRecords rs.length (recordBytes rs) = some rs
  | [], _ => rfl
  | r :: rs, h => by
    have hlen : (byteOf r.payload.length).toNat = r.payload.length :=
      byteOf_toNat (Nat.lt_of_le_of_lt (h r List.mem_cons_self) (by decide))
    have ih := replyRecords_bytes fun x hx => h x (List.mem_cons_of_mem r hx)
    have hbytes : recordBytes (r :: rs) =
        r.kind :: r.seq :: byteOf r.payload.length :: (r.payload ++ recordBytes rs) := by
      simp [recordBytes]
    have hfits : r.payload.length ≤ 56 ∧ r.payload.length ≤ (r.payload ++ recordBytes rs).length := by
      rw [List.length_append]
      exact ⟨h r List.mem_cons_self, Nat.le_add_right ..⟩
    rw [hbytes, List.length_cons, replyRecords, hlen, if_pos hfits, List.drop_left, List.take_left, ih]
    rfl

/-- What is read as records is laid out so. -/
theorem bytes_of_replyRecords : ∀ {n : Nat} {bytes : List Byte} {rs : List ReplyRecord},
    replyRecords n bytes = some rs → rs.length = n ∧ (∀ r ∈ rs, r.payload.length ≤ 56) ∧ bytes = recordBytes rs
  | 0, [], rs, h => by
    cases h
    exact ⟨rfl, by simp, rfl⟩
  | 0, _ :: _, _, h => nomatch h
  | _ + 1, [], _, h => nomatch h
  | _ + 1, [_], _, h => nomatch h
  | _ + 1, [_, _], _, h => nomatch h
  | n + 1, kind :: seq :: len :: rest, rs, h => by
    rw [replyRecords] at h
    split at h
    case isFalse => cases h
    case isTrue hfits =>
      obtain ⟨hsmall, hrest⟩ := hfits
      obtain ⟨rs', hrs', rfl⟩ := Option.map_eq_some_iff.1 h
      obtain ⟨rfl, hpayloads, hbytes⟩ := bytes_of_replyRecords hrs'
      have htake : (rest.take len.toNat).length = len.toNat := List.length_take_of_le hrest
      refine ⟨rfl, List.forall_mem_cons.2 ⟨htake.trans_le hsmall, hpayloads⟩, ?_⟩
      calc kind :: seq :: len :: rest
          = kind :: seq :: len :: (rest.take len.toNat ++ rest.drop len.toNat) := by rw [List.take_append_drop]
        _ = _ := by rw [hbytes]; simp [recordBytes, htake, byteOf]

/-- The structure check takes exactly what is laid out (R105, R173). -/
theorem replyStructure_body {flags ack result : Byte} {rs : List ReplyRecord} (hcount : rs.length ≤ 4)
    (hpayloads : ∀ r ∈ rs, r.payload.length ≤ 56) : replyStructure (replyBody flags ack result rs) =
      some { restart := flags.getLsbD 0, ack := ack, result := result, records := rs } := by
  have hlen : (byteOf rs.length).toNat = rs.length := byteOf_toNat (by omega)
  show replyStructure (flags :: ack :: result :: byteOf rs.length :: recordBytes rs) = _
  rw [replyStructure, hlen, if_pos hcount, replyRecords_bytes hpayloads]
  rfl

theorem replyStructure_none {body : List Byte} (h : ¬ LaidOut body) : replyStructure body = none := by
  unfold replyStructure
  split
  · rename_i flags ack result count rest
    split
    · rename_i hcount
      refine Option.map_eq_none_iff.2 (Option.eq_none_iff_forall_ne_some.2 fun rs hrs => h ?_)
      obtain ⟨hlen, hpayloads, rfl⟩ := bytes_of_replyRecords hrs
      refine ⟨flags, ack, result, rs, by omega, hpayloads, ?_⟩
      rw [replyBody, byteOf_of_toNat hlen.symm]
      rfl
    · rfl
  · rfl

/-! ### The judgement (R105) -/

section
variable {address : Byte} {chars : List Byte}

/-- The check word of a complete REPLY is right. -/
def ReplyCrcGood (chars : List Byte) : Prop :=
  crcBytes (crc16 ((chars.drop 1).take (2 + replyLength chars))) = (chars.drop (3 + replyLength chars)).take 2

theorem judgeReply_crcFailure (h : ¬ ReplyCrcGood chars) : judgeReply address chars = .crcFailure := if_pos h

variable (hcrc : ReplyCrcGood chars)
include hcrc

theorem judgeReply_misaddressed (h : byteAt chars 1 ≠ address) : judgeReply address chars = .misaddressed :=
  (if_neg (not_not.2 hcrc)).trans (if_pos h)

theorem judgeReply_addressed (h : byteAt chars 1 = address) : judgeReply address chars =
    match replyStructure ((chars.drop 3).take (replyLength chars)) with
    | some frame => .valid frame
    | none => .broken :=
  (if_neg (not_not.2 hcrc)).trans (if_neg (not_not.2 h))

theorem judgeReply_broken (h : byteAt chars 1 = address) (hbody : ¬ LaidOut ((chars.drop 3).take (replyLength chars))) :
    judgeReply address chars = .broken := by
  rw [judgeReply_addressed hcrc h, replyStructure_none hbody]

theorem judgeReply_valid (h : byteAt chars 1 = address) {flags ack result : Byte} {rs : List ReplyRecord}
    (hcount : rs.length ≤ 4) (hpayloads : ∀ r ∈ rs, r.payload.length ≤ 56)
    (hbody : (chars.drop 3).take (replyLength chars) = replyBody flags ack result rs) : judgeReply address chars =
      .valid { restart := flags.getLsbD 0, ack := ack, result := result, records := rs } := by
  rw [judgeReply_addressed hcrc h, hbody, replyStructure_body hcount hpayloads]

end

end Sys2Proof.Machine
end

section
/-! A failed attempt, and the characters that meet a trunk after its expiry (R75, R94, R102 to R108, R116). -/

namespace Sys2Proof.Machine

/-! ### A failed attempt (R106) -/

/-- The attempt of a turn has failed at this event, the trunk's counters having become these: the next attempt settles,
or the turn ends as a MISS with its counts and its directive settled (R75, R106, R107, R116). -/
def State.attemptFailed (s : State) (k : TrunkId) (turn : Turn) (counters : TrunkCounters) : State :=
  let x := s.trunks[k]
  let settling : Phase := .settling (later s.timeBase (byteTimes x.config.rate 3))
  if turn.attempt < 1 + x.config.retries then
    s.setTrunk k { x with
      phase := settling, counters := counters, turn := some { turn with attempt := turn.attempt + 1 } }
  else State.settle ({ s with
    trunks := setAt s.trunks k { x with
      phase := settling, counters := counters, turn := some { turn with stage := .missed } }
    roster := setAt s.roster turn.slot ((s.roster[turn.slot]).map fun st =>
      { st with counters := st.counters.missed }) } : State) turn none

section
variable (s : State) (k : TrunkId) (turn : Turn)

theorem State.failAttempt_counted (f : TrunkCounters → TrunkCounters) :
    (s.countTrunk k f).failAttempt k turn = s.attemptFailed k turn (f (s.trunks[k]).counters) := by
  have hget : (s.countTrunk k f).trunks[k] = { s.trunks[k] with counters := f (s.trunks[k]).counters } :=
    State.setTrunk_get ..
  unfold State.attemptFailed
  dsimp only
  by_cases h : turn.attempt < 1 + (s.trunks[k]).config.retries
  · rw [if_pos h, State.failAttempt_retry (by rw [hget]; exact h), hget, State.countTrunk, State.setTrunk_setTrunk]
    rfl
  · rw [if_neg h, State.failAttempt_miss (by rw [hget]; exact h), hget, State.countTrunk, State.setTrunk_setTrunk]
    rfl

theorem State.settle_trunk (ack : Option (Byte × Byte)) : (s.settle turn ack).trunks[k] = s.trunks[k] :=
  congrArg (fun v : Vector Trunk 2 => v[k]) (by simp)

/-- The trunk of a failed attempt settles (R107). -/
theorem State.attemptFailed_trunk (counters : TrunkCounters) : ∃ turn', (s.attemptFailed k turn counters).trunks[k] =
    { s.trunks[k] with
      phase := .settling (later s.timeBase (byteTimes (s.trunks[k]).config.rate 3)), counters := counters
      turn := turn' } := by
  unfold State.attemptFailed
  dsimp only
  split
  · exact ⟨_, State.setTrunk_get ..⟩
  · rw [State.settle_trunk]
    exact ⟨_, State.setTrunk_get ..⟩

/-! ### What meets the trunk then (R103, R104, R108) -/

variable {s k turn}

/-- A reply that starts on a trunk which does not wait for one starts nothing (R103). -/
theorem replyStarted_settling {due : Time} (h : (s.trunks[k]).phase = .settling due) : replyStarted k s = s := by
  unfold replyStarted
  rw [h]

/-- A character on a trunk in service between attempts and turns is a stray byte (R108). -/
theorem characterTaken_settling {due : Time} (h : (s.trunks[k]).phase = .settling due)
    (hs : (s.trunks[k]).state = .running ∨ (s.trunks[k]).state = .stopping) (hwatch : (s.trunks[k]).watch = none)
    (value : Byte) (fe : Bool) : characterTaken k value fe s = s.setTrunk k (s.trunks[k]).strayCounted := by
  have hears : (s.trunks[k]).hearsStray = true := by
    unfold Trunk.hearsStray
    rw [h]
    obtain hs | hs := hs <;> rw [hs]
  unfold characterTaken
  rw [h]
  dsimp only
  unfold strayTaken
  dsimp only
  rw [if_pos hears, hwatch]
  unfold Trunk.strayCounted
  rw [hwatch]
  rfl

end

/-! ### The expiry before an event on the line (R102 to R104) -/

section
variable {s : State} {k : TrunkId} (low now : Time)

/-- While SENDING the expiry is the echo deadline, judged at the time the character is taken (R102). -/
theorem State.expireBefore_sending {poll : List Byte} {start : Time} {echoed : Nat}
    (hphase : (s.trunks[k]).phase = .sending poll start echoed) : s.expireBefore k low now =
      if Before (echoDue (s.trunks[k]).config.rate (echoed + 1) start) now then echoDeadline k s else s := by
  unfold State.expireBefore
  dsimp only
  rw [hphase]
  simp only [passed_iff]

/-- While WAITING it is the reply timeout, judged at the start of the character (R103). -/
theorem State.expireBefore_waiting {due : Time} (hphase : (s.trunks[k]).phase = .waiting due) :
    s.expireBefore k low now = if Before due low then replyTimeout k s else s := by
  unfold State.expireBefore
  dsimp only
  rw [hphase]
  simp only [passed_iff]

/-- While RECEIVING it is the gap expiry, judged there too (R104). -/
theorem State.expireBefore_receiving {chars : List Byte} {due : Time}
    (hphase : (s.trunks[k]).phase = .receiving chars (some due)) :
    s.expireBefore k low now = if Before due low then gapExpiry k s else s := by
  unfold State.expireBefore
  dsimp only
  rw [hphase]
  simp only [passed_iff]

/-- The first character of a REPLY has no gap expiry before it (R104). -/
theorem State.expireBefore_first {chars : List Byte} (hphase : (s.trunks[k]).phase = .receiving chars none) :
    s.expireBefore k low now = s := by
  unfold State.expireBefore
  dsimp only
  rw [hphase]

end

/-! ### A character of the REPLY (R104) -/

/-- What breaks a reply at once (R104, R173). -/
theorem breaksReply_iff {chars : List Byte} {value : Byte} {fe : Bool} : breaksReply chars value fe = true ↔
    fe = true ∨ (chars = [] ∧ value ≠ 0x3E#8) ∨ (chars.length = 2 ∧ 240 < value.toNat) := by
  unfold breaksReply
  simp only [Bool.or_eq_true, Bool.and_eq_true, decide_eq_true_iff, List.isEmpty_iff, or_assoc]
  rfl

section
variable {s : State} {k : TrunkId} {chars : List Byte} {gap : Option Time} {dt : Nat}

/-- A character that has started no later than the gap expiry is one of the REPLY (R104). -/
theorem replyCharacter_inTime (hphase : (s.trunks[k]).phase = .receiving chars gap)
    (hgood : ∀ due, gap = some due → ¬ Before due (s.charStart k (later s.timeBase dt))) (value : Byte) (fe : Bool) :
    replyCharacter k dt value fe s = replyTaken k value fe (s.comeTo (later s.timeBase dt)) := by
  have kept : s.lineTo k (s.charStart k (later s.timeBase dt)) (later s.timeBase dt) =
      s.comeTo (later s.timeBase dt) := by
    unfold State.lineTo
    cases gap with
    | none => rw [State.expireBefore_first _ _ hphase]
    | some due => rw [State.expireBefore_receiving _ _ hphase, if_neg (hgood due rfl)]
  have hphase' : ((s.comeTo (later s.timeBase dt)).trunks[k]).phase = .receiving chars gap := hphase
  unfold replyCharacter
  rw [hphase]
  dsimp only
  rw [State.character, kept, characterTaken, hphase']

end

/-! ### The events that fail an attempt (R103 to R105) -/

section
variable {s : State} {k : TrunkId} {turn : Turn} (hturn : (s.trunks[k]).turn = some turn)

theorem State.breakReply_eq (s : State) (k : TrunkId) (turn : Turn) : s.breakReply k turn = s.attemptFailed k turn
    { (s.trunks[k]).counters with broken := bump (s.trunks[k]).counters.broken 1 } :=
  s.failAttempt_counted k turn _

include hturn

/-- The reply timeout fails the attempt at its own time (R103, R106). -/
theorem replyTimeout_at {due : Time} (hphase : (s.trunks[k]).phase = .waiting due) : replyTimeout k s =
    (s.advanceTo due).attemptFailed k turn
      { (s.trunks[k]).counters with timeouts := bump (s.trunks[k]).counters.timeouts 1 } := by
  unfold replyTimeout
  rw [hphase, hturn]
  dsimp only
  rw [State.failAttempt_counted, State.advanceTo_trunk]

/-- The gap expiry fails the attempt at its own time (R104, R106). -/
theorem gapExpiry_at {chars : List Byte} {due : Time} (hphase : (s.trunks[k]).phase = .receiving chars (some due)) :
    gapExpiry k s = (s.advanceTo due).attemptFailed k turn
      { (s.trunks[k]).counters with broken := bump (s.trunks[k]).counters.broken 1 } := by
  unfold gapExpiry
  rw [hphase, hturn]
  dsimp only
  rw [State.breakReply_eq, State.advanceTo_trunk]

/-- A reply that starts after the timeout meets an attempt that has failed (R103). -/
theorem replyStart_late {due : Time} (hphase : (s.trunks[k]).phase = .waiting due) {dt : Nat}
    (hlate : Before due (later s.timeBase dt)) :
    replyStart k dt s = (replyTimeout k s).comeTo (later s.timeBase dt) := by
  obtain ⟨turn', htrunk⟩ := (s.advanceTo due).attemptFailed_trunk k turn
    { (s.trunks[k]).counters with timeouts := bump (s.trunks[k]).counters.timeouts 1 }
  rw [← replyTimeout_at hturn hphase] at htrunk
  have expired : s.lineTo k (later s.timeBase dt) (later s.timeBase dt) =
      (replyTimeout k s).comeTo (later s.timeBase dt) := by
    rw [State.lineTo, State.expireBefore_waiting _ _ hphase, if_pos hlate]
  unfold replyStart
  rw [hphase]
  dsimp only
  rw [expired]
  exact replyStarted_settling (s := (replyTimeout k s).comeTo (later s.timeBase dt)) (congrArg Trunk.phase htrunk)

section
variable {chars : List Byte} {gap : Option Time} (hphase : (s.trunks[k]).phase = .receiving chars gap) {dt : Nat}
  (value : Byte) (fe : Bool)
include hphase

/-- A character after the gap expiry meets an attempt that has failed, and is a stray byte (R104, R108). -/
theorem replyCharacter_late {due : Time} (hgap : gap = some due)
    (hlate : Before due (s.charStart k (later s.timeBase dt)))
    (hs : (s.trunks[k]).state = .running ∨ (s.trunks[k]).state = .stopping) (hwatch : (s.trunks[k]).watch = none) :
    replyCharacter k dt value fe s = (gapExpiry k s).strayAt k (later s.timeBase dt) := by
  subst hgap
  obtain ⟨turn', htrunk⟩ := (s.advanceTo due).attemptFailed_trunk k turn
    { (s.trunks[k]).counters with broken := bump (s.trunks[k]).counters.broken 1 }
  rw [← gapExpiry_at hturn hphase, State.advanceTo_trunk] at htrunk
  have expired : s.lineTo k (s.charStart k (later s.timeBase dt)) (later s.timeBase dt) =
      (gapExpiry k s).comeTo (later s.timeBase dt) := by
    rw [State.lineTo, State.expireBefore_receiving _ _ hphase, if_pos hlate]
  unfold replyCharacter
  rw [hphase]
  dsimp only
  rw [State.character, expired]
  exact characterTaken_settling (s := (gapExpiry k s).comeTo (later s.timeBase dt)) (congrArg Trunk.phase htrunk)
    ((congrArg Trunk.state htrunk) ▸ hs) ((congrArg Trunk.watch htrunk).trans hwatch) value fe

end

section
variable {chars : List Byte} {gap : Option Time} (hphase : (s.trunks[k]).phase = .receiving chars gap)
  {value : Byte} {fe : Bool}
include hphase

theorem replyTaken_breaks (h : breaksReply chars value fe = true) :
    replyTaken k value fe s = s.breakReply k turn := by
  unfold replyTaken
  rw [hphase, hturn]
  exact if_pos h

theorem replyTaken_completes (h : ¬ breaksReply chars value fe = true) (hlen : 3 ≤ (chars ++ [value]).length)
    (hall : 5 + replyLength (chars ++ [value]) ≤ (chars ++ [value]).length) :
    replyTaken k value fe s = s.completeReply k turn (chars ++ [value]) := by
  have complete : replyComplete (chars ++ [value]) = true := by
    rw [replyComplete, decide_eq_true hlen, decide_eq_true hall]
    rfl
  unfold replyTaken
  rw [hphase, hturn]
  dsimp only
  rw [if_neg h, if_pos complete]

end

end

/-! ### A complete REPLY that is no good (R105) -/

section
variable {s : State} {k : TrunkId} {turn : Turn} {st : Station} (hst : s.roster[turn.slot] = some st)
  {chars : List Byte}

theorem State.completeReply_crcFailure (h : ¬ ReplyCrcGood chars) : s.completeReply k turn chars =
    s.attemptFailed k turn
      { (s.trunks[k]).counters with crcFailures := bump (s.trunks[k]).counters.crcFailures 1 } := by
  unfold State.completeReply
  rw [judgeReply_crcFailure h]
  exact s.failAttempt_counted k turn _

include hst

theorem State.polledAddress_eq : s.polledAddress turn = st.address := by
  unfold State.polledAddress
  rw [hst]

variable (hcrc : ReplyCrcGood chars)
include hcrc

theorem State.completeReply_misaddressed (h : byteAt chars 1 ≠ st.address) : s.completeReply k turn chars =
    s.attemptFailed k turn
      { (s.trunks[k]).counters with misaddressed := bump (s.trunks[k]).counters.misaddressed 1 } := by
  unfold State.completeReply
  rw [State.polledAddress_eq hst, judgeReply_misaddressed hcrc h]
  exact s.failAttempt_counted k turn _

theorem State.completeReply_broken (h : byteAt chars 1 = st.address)
    (hbody : ¬ LaidOut ((chars.drop 3).take (replyLength chars))) : s.completeReply k turn chars =
      s.attemptFailed k turn { (s.trunks[k]).counters with broken := bump (s.trunks[k]).counters.broken 1 } := by
  unfold State.completeReply
  rw [State.polledAddress_eq hst, judgeReply_broken hcrc h hbody]
  exact s.breakReply_eq k turn

end

/-- Settles O43: each cause by the event that brings it. -/
theorem attemptFailsOnce : Obligations.AttemptFailsOnce := by
  unfold Obligations.AttemptFailsOnce
  intro s k turn hreset hturn x failed broken timedOut
  refine ⟨fun due hphase => ⟨?_, fun dt hlate => ?_⟩, fun chars due hphase => ?_,
    fun chars gap dt value fe hphase => ?_⟩
  · refine (perform_awake hreset (replyTimeout k)).trans ?_
    rw [replyTimeout_at hturn hphase, State.advanceTo_eq]
    rfl
  · refine (perform_awake hreset (replyStart k dt)).trans ?_
    rw [replyStart_late hturn hphase hlate, replyTimeout_at hturn hphase, State.advanceTo_eq]
    rfl
  · refine (perform_awake hreset (gapExpiry k)).trans ?_
    rw [gapExpiry_at hturn hphase, State.advanceTo_eq]
    rfl
  intro now low all ends breaks
  have steps : ∀ u, replyCharacter k dt value fe s = u → ends u :=
    fun u h => h ▸ perform_awake hreset (replyCharacter k dt value fe)
  refine ⟨fun due hgap hlate hs hwatch => steps _ ?_, fun hgood => ?_⟩
  · rw [replyCharacter_late hturn hphase value fe hgap hlate hs hwatch]
    subst hgap
    rw [gapExpiry_at hturn hphase, State.advanceTo_eq]
    rfl
  have taken := replyCharacter_inTime hphase hgood value fe
  have hphase' : ((s.comeTo (later s.timeBase dt)).trunks[k]).phase = .receiving chars gap := hphase
  have hturn' : ((s.comeTo (later s.timeBase dt)).trunks[k]).turn = some turn := hturn
  refine ⟨fun hbreaks => steps _ ?_, fun st hkept hlen hall hst => ?_⟩
  · rw [taken, replyTaken_breaks hturn' hphase' (breaksReply_iff.2 hbreaks), State.breakReply_eq]
    rfl
  have completes := taken.trans
    (replyTaken_completes hturn' hphase' (fun h => hkept (breaksReply_iff.1 h)) hlen hall)
  have hst' : (s.comeTo (later s.timeBase dt)).roster[turn.slot] = some st := hst
  intro n crcGood laidOut
  refine ⟨fun hcrc => steps _ ?_, fun hcrc haddress => steps _ ?_, fun hcrc haddress hbody => steps _ ?_⟩
  · rw [completes, State.completeReply_crcFailure hcrc]
    rfl
  · rw [completes, State.completeReply_misaddressed hst' hcrc haddress]
    rfl
  · rw [completes, State.completeReply_broken hst' hcrc haddress hbody]
    rfl

end Sys2Proof.Machine
end

section
/-! Settlement and the HIT of a valid REPLY (R75, R80, R87, R104, R105, R115, R118, R173). -/

namespace Sys2Proof.Machine

/-! ### Settlement (R115 to R118) -/

section
variable (s : State) (turn : Turn) (ack : Option (Byte × Byte))

/-- A settlement writes directives and notices only. -/
theorem State.settle_frame : s.settle turn ack =
    { s with directives := (s.settle turn ack).directives, notices := (s.settle turn ack).notices } := by
  have kept := s.settle_keeps turn ack
  generalize s.settle turn ack = u at kept ⊢
  obtain ⟨hpending, hreset, hhold, hhcs, hattn, hout, hmode, htime, hlink, hactive, hstaging, hstore, hchannels,
    hroster, hserial, htrunks⟩ := kept
  cases u
  subst hpending hreset hhold hhcs hattn hout hmode htime
  subst hlink hactive hstaging hstore hchannels hroster hserial htrunks
  rfl

/-- With a notice after it, or none. -/
theorem State.reported_frame (b : Bool) (n : Notice) : (if b then (s.settle turn ack).raise n else s.settle turn ack) =
    { s with
      directives := (s.settle turn ack).directives
      notices := (if b then (s.settle turn ack).raise n else s.settle turn ack).notices } := by
  have settled := s.settle_frame turn ack
  cases b with
  | false => exact settled
  | true =>
    refine ((s.settle turn ack).raise_frame n).trans ?_
    exact congrArg (fun u : State => { u with notices := ((s.settle turn ack).raise n).notices }) settled

/-- A change of one entry that leaves its id leaves the ids. -/
theorem DirectiveQueue.modify_ids (q : DirectiveQueue) (id : Nat) {f : Directive → Directive}
    (hf : ∀ d, (f d).id = d.id) :
    (q.modify id f).map Directive.id = q.entries.map Directive.id := by
  unfold DirectiveQueue.modify
  rw [List.map_map]
  refine List.map_congr_left fun d _ => ?_
  rw [Function.comp_apply]
  split
  · exact hf d
  · rfl

theorem State.completeDirective_ids (d : Directive) (outcome : DirectiveOutcome) (result : Byte) (attempts : Nat)
    (h : (s.directives.entries.map Directive.id).Nodup) :
    ((s.completeDirective d outcome result attempts).directives.entries.map Directive.id).Nodup := by
  have left : (s.completeDirective d outcome result attempts).directives.entries = s.directives.without d.id := by
    unfold State.completeDirective
    rw [State.raise_frame]
    rfl
  rw [left]
  exact (List.filter_sublist.map _).nodup h

theorem State.modified_ids (id : Nat) {f : Directive → Directive} (hf : ∀ d, (f d).id = d.id)
    (h : (s.directives.entries.map Directive.id).Nodup) :
    ((s.setDirectives (s.directives.modify id f)).directives.entries.map Directive.id).Nodup :=
  (s.directives.modify_ids id hf).symm ▸ h

theorem State.unacknowledged_ids (d : Directive) (mark : Bool) (h : (s.directives.entries.map Directive.id).Nodup) :
    ((s.unacknowledged d mark).directives.entries.map Directive.id).Nodup := by
  unfold State.unacknowledged
  split
  · split
    · exact s.completeDirective_ids d _ _ _ h
    · exact s.modified_ids d.id (fun _ => rfl) h
  · exact s.modified_ids d.id (fun _ => rfl) h

/-- A settlement leaves the ids of the directives distinct. -/
theorem State.settle_ids (h : (s.directives.entries.map Directive.id).Nodup) :
    ((s.settle turn ack).directives.entries.map Directive.id).Nodup := by
  unfold State.settle
  split
  · exact h
  · split
    · split
      · exact s.completeDirective_ids _ _ _ _ h
      · exact s.unacknowledged_ids _ _ h
    · exact s.unacknowledged_ids _ _ h

/-- What makes an acknowledgement stray (R118). -/
theorem State.strayAck_iff (number : Byte) : s.strayAck turn number = true ↔ number ≠ 0#8 ∧ ∀ id d,
    turn.directive = some id → s.directives.entries.find? (fun e => decide (e.id = id)) = some d →
      number.toNat ≠ d.number := by
  unfold State.strayAck
  rw [Bool.and_eq_true, decide_eq_true_iff]
  refine and_congr_right fun _ => ?_
  cases turn.directive with
  | none => simp
  | some id =>
    rw [Option.bind_some]
    show _ ↔ ∀ id' d, some id = some id' → s.directives.find id' = some d → _
    cases hfind : s.directives.find id with
    | none =>
      refine ⟨fun _ id' d e hd => ?_, fun _ => rfl⟩
      cases e
      cases hfind.symm.trans hd
    | some d =>
      refine ⟨fun h id' d' e hd => ?_, fun h => decide_eq_true (h id d rfl hfind)⟩
      cases e
      cases hfind.symm.trans hd
      exact of_decide_eq_true h

end

/-! ### A HIT, on the field side (R75) -/

/-- The station whose turn ends as a HIT at `now`. -/
def Station.hitAt (st : Station) (now : Time) : Station :=
  { st with
    lastHit := some now
    counters := { st.counters with turns := bump st.counters.turns 1, hits := bump st.counters.hits 1 } }

/-- The station whose REPLY has said a number that is stray, or not (R118). -/
def Station.strayCounted (st : Station) (stray : Bool) : Station :=
  { st with counters := { st.counters with
      strayAcks := if stray then bump st.counters.strayAcks 1 else st.counters.strayAcks } }

/-- The station whose REPLY bears the restart flag, or not (R80). -/
def Station.restarted (st : Station) (restart : Bool) : Station :=
  { st with
    baseline := if restart then none else st.baseline
    counters := { st.counters with
      restarts := if restart then bump st.counters.restarts 1 else st.counters.restarts } }

/-- The station whose REPLY holds this many records: a REMOVING one has them discarded (R87). -/
def Station.laidOut (st : Station) (records : Nat) : Station :=
  { st with counters := { st.counters with
      discarded := if st.state = .removing then bump st.counters.discarded records else st.counters.discarded } }

section
variable {s : State} {r : Vector (Option Station) 64} {ts : Vector Trunk 2} {st : Station} {k : TrunkId} {turn : Turn}
  {x : Trunk} {i : StationId}

theorem State.onField_station : (s.onField (setAt r i (some st)) ts).roster[i] = some st :=
  (get_setAt ..).trans (if_pos rfl)

theorem State.mapStation_onField (f : Station → Station) :
    (s.onField (setAt r i (some st)) ts).mapStation i f = s.onField (setAt r i (some (f st))) ts := by
  rw [State.mapStation_of_some State.onField_station]
  unfold State.onField
  rw [setAt_setAt]

theorem State.countStray_onField (number : Byte) :
    (s.onField (setAt r turn.slot (some st)) ts).countStray turn number =
      s.onField (setAt r turn.slot (some (st.strayCounted (s.strayAck turn number)))) ts := by
  have same : (s.onField (setAt r turn.slot (some st)) ts).strayAck turn number = s.strayAck turn number := rfl
  unfold State.countStray
  rw [same]
  cases s.strayAck turn number with
  | true => exact State.mapStation_onField _
  | false => rfl

/-- The restart flag drops the baseline and is reported (R80). -/
theorem State.restart_onField (restart : Bool) :
    (if restart then (s.onField (setAt r i (some st)) ts).restartStation i else s.onField (setAt r i (some st)) ts) =
      (if restart then s.raise (.sequence i 0 1) else s).onField (setAt r i (some (st.restarted restart))) ts := by
  cases restart with
  | false => rfl
  | true =>
    rw [if_pos rfl, if_pos rfl, State.restartStation, State.mapStation_onField, State.raise_onField]
    rfl

/-- The records of the HIT are set out, or discarded (R75, R87). -/
theorem State.layOut_onField (records : List ReplyRecord) :
    (s.onField (setAt r turn.slot (some st)) (setAt ts k x)).layOut k turn records =
      s.onField (setAt r turn.slot (some (st.laidOut records.length))) (setAt ts k { x with
        turn := some { turn with
          stage := .replied s.timeBase (if st.state = .removing then [] else records) none } }) := by
  have hstage : ∀ stage, (s.onField (setAt r turn.slot (some st)) (setAt ts k x)).setStage k turn stage =
      s.onField (setAt r turn.slot (some st)) (setAt ts k { x with turn := some { turn with stage := stage } }) :=
    fun stage => (State.setStage_setTrunk (s.onField (setAt r turn.slot (some st)) ts) k x turn stage)
  unfold State.layOut
  rw [State.onField_station, hstage, hstage]
  dsimp only
  by_cases h : st.state = .removing
  · rw [if_pos h, if_pos h]
    refine (State.mapStation_onField _).trans ?_
    unfold Station.laidOut
    rw [if_pos h]
    rfl
  · rw [if_neg h, if_neg h]
    unfold Station.laidOut
    rw [if_neg h]
    rfl

/-- A HIT, as one equation: the settlement beside the counts, the stamp and the records (R75, R80, R115, R118). -/
theorem State.endAsHit_eq (hst : s.roster[turn.slot] = some st) (frame : ReplyFrame) : s.endAsHit k turn frame =
    (if frame.restart then (s.settle turn (some (frame.ack, frame.result))).raise (.sequence turn.slot 0 1)
      else s.settle turn (some (frame.ack, frame.result))).onField
      (setAt s.roster turn.slot (some ((((st.hitAt s.timeBase).strayCounted (s.strayAck turn frame.ack)).restarted
        frame.restart).laidOut frame.records.length)))
      (setAt s.trunks k { s.trunks[k] with
        phase := .settling (later s.timeBase (byteTimes (s.trunks[k]).config.rate 3))
        counters := { (s.trunks[k]).counters with goodReplies := bump (s.trunks[k]).counters.goodReplies 1 }
        turn := some { turn with
          stage := .replied s.timeBase (if st.state = .removing then [] else frame.records) none } }) := by
  have counted : ((s.countTrunk k fun c => { c with goodReplies := bump c.goodReplies 1 }).beginSettling k).countHit
      turn.slot = s.onField (setAt s.roster turn.slot (some (st.hitAt s.timeBase))) (setAt s.trunks k { s.trunks[k] with
        phase := .settling (later s.timeBase (byteTimes (s.trunks[k]).config.rate 3))
        counters := { (s.trunks[k]).counters with goodReplies := bump (s.trunks[k]).counters.goodReplies 1 } }) := by
    rw [State.countTrunk, State.beginSettling_setTrunk]
    exact State.mapStation_of_some (s := s.setTrunk k _) hst _
  have settledTime : (if frame.restart then (s.settle turn (some (frame.ack, frame.result))).raise
      (.sequence turn.slot 0 1) else s.settle turn (some (frame.ack, frame.result))).timeBase = s.timeBase := by
    split <;> simp
  unfold State.endAsHit
  dsimp only
  rw [counted, State.countStray_onField, State.settle_onField, State.restart_onField, State.layOut_onField, settledTime]
  rfl

end

/-! ### The bytes of a REPLY (R104, R173) -/

/-- The bytes of a REPLY from this address with this body. -/
def replyBytes (address : Byte) (body : List Byte) : List Byte :=
  [0x3E#8] ++ ([address, byteOf body.length] ++ body) ++ crcBytes (crc16 ([address, byteOf body.length] ++ body))

theorem crcBytes_length (crc : BitVec 16) : (crcBytes crc).length = 2 := rfl

theorem recordBytes_length : ∀ {rs : List ReplyRecord}, (∀ r ∈ rs, r.payload.length ≤ 56) →
    (recordBytes rs).length ≤ 59 * rs.length
  | [], _ => Nat.le_refl 0
  | r :: rs, h => by
    have ih := recordBytes_length fun x hx => h x (List.mem_cons_of_mem r hx)
    have hr := h r List.mem_cons_self
    have hsplit : recordBytes (r :: rs) = [r.kind, r.seq, byteOf r.payload.length] ++ r.payload ++ recordBytes rs := by
      simp [recordBytes]
    simp only [hsplit, List.length_append, List.length_cons, List.length_nil]
    omega

section
variable {flags ack result : Byte} {rs : List ReplyRecord}

theorem replyBody_length (hcount : rs.length ≤ 4) (hpayloads : ∀ r ∈ rs, r.payload.length ≤ 56) :
    (replyBody flags ack result rs).length ≤ 240 := by
  have records := recordBytes_length hpayloads
  simp only [replyBody, List.length_append, List.length_cons, List.length_nil]
  omega

end

section
variable {address : Byte} {body : List Byte}

theorem replyBytes_length : (replyBytes address body).length = 5 + body.length := by
  simp only [replyBytes, List.length_append, List.length_cons, List.length_nil, crcBytes_length]
  omega

theorem replyBytes_address : byteAt (replyBytes address body) 1 = address := rfl

variable (hbody : body.length ≤ 240)
include hbody

theorem replyLength_replyBytes : replyLength (replyBytes address body) = body.length :=
  byteOf_toNat (Nat.lt_of_le_of_lt hbody (by decide))

theorem replyBytes_body : ((replyBytes address body).drop 3).take (replyLength (replyBytes address body)) = body := by
  rw [replyLength_replyBytes hbody]
  show (body ++ crcBytes _).take body.length = body
  exact List.take_left

theorem replyBytes_crcGood : ReplyCrcGood (replyBytes address body) := by
  unfold ReplyCrcGood
  rw [replyLength_replyBytes hbody]
  have hhead : ((replyBytes address body).drop 1).take (2 + body.length) = [address, byteOf body.length] ++ body := by
    show (([address, byteOf body.length] ++ body) ++ crcBytes _).take (2 + body.length) = _
    refine List.take_left' ?_
    rw [List.length_append]
    rfl
  have hword : (replyBytes address body).drop (3 + body.length) =
      crcBytes (crc16 ([address, byteOf body.length] ++ body)) := by
    refine List.drop_left' ?_
    simp only [List.length_append, List.length_cons, List.length_nil]
    omega
  rw [hhead, hword]
  rfl

end

/-- Settles O44: the REPLY is judged valid, and ends its turn as a HIT. -/
theorem validReplyIsAHit : Obligations.ValidReplyIsAHit := by
  unfold Obligations.ValidReplyIsAHit
  intro s k turn st chars gap dt value flags ack result rs hreset hturn hst hphase x now hgood hcount hpayloads
    body head hbytes restart stray settled reported
  have hbody : body.length ≤ 240 := replyBody_length hcount hpayloads
  have hall : chars ++ [value] = replyBytes st.address body := hbytes
  have hlen : chars.length + 1 = 5 + body.length := by
    rw [← replyBytes_length (address := st.address), ← hall, List.length_append]
    rfl
  have good : ¬ breaksReply chars value false = true := fun h => by
    rcases breaksReply_iff.1 h with h | ⟨rfl, -⟩ | ⟨h, -⟩
    · cases h
    · rw [List.length_nil] at hlen; omega
    · omega
  have hit := State.endAsHit_eq (s := s.comeTo now) (k := k) (turn := turn) hst
    { restart := restart, ack := ack, result := result, records := rs }
  have taken : replyCharacter k dt value false s = (s.comeTo now).endAsHit k turn
      { restart := restart, ack := ack, result := result, records := rs } := by
    rw [replyCharacter_inTime hphase hgood value false]
    refine (replyTaken_completes (s := s.comeTo now) hturn hphase good ?_ ?_).trans ?_
    · rw [List.length_append, List.length_singleton]; omega
    · rw [hall, replyLength_replyBytes hbody, replyBytes_length]
    · unfold State.completeReply
      rw [State.polledAddress_eq (s := s.comeTo now) hst, hall,
        judgeReply_valid (replyBytes_crcGood hbody) replyBytes_address hcount hpayloads (replyBytes_body hbody)]
  refine ⟨((st.hitAt now).strayCounted ((s.comeTo now).strayAck turn ack)).counters.strayAcks, fun h => ?_,
    fun h => ?_, ?_⟩
  · have hstray : (s.comeTo now).strayAck turn ack = true := (State.strayAck_iff ..).2 h
    rw [hstray]
    rfl
  · have hstray : (s.comeTo now).strayAck turn ack = false :=
      Bool.eq_false_iff.2 fun e => h ((State.strayAck_iff ..).1 e)
    rw [hstray]
    rfl
  refine (perform_awake hreset (replyCharacter k dt value false)).trans ?_
  rw [taken, hit]
  rw [State.reported_frame]
  rfl

end Sys2Proof.Machine
end

section
/-! The third echo fault in a row (R78, R84, R87, R89, R97, R98, R102, R108, R110, R117, R123). -/

namespace Sys2Proof.Machine

/-! ### An abandoned turn (R78, R84, R87, R117) -/

/-- The turn is abandoned: its directive is settled, a removal completes, a pending suspension takes effect (R78). -/
def State.turnAbandoned (s : State) (turn : Turn) : State :=
  let settled := s.settle turn none
  match s.roster[turn.slot] with
  | some st =>
    if st.state = .removing then settled.removalDone turn.slot st
    else if st.suspendPending then
      State.raise { settled with
        roster := setAt s.roster turn.slot (some { st with state := .suspended, suspendPending := false }) }
        (.stationState turn.slot st.trunk st.address turn.startState .suspended 1)
    else settled
  | none => settled

section
variable {s : State} (turn : Turn)

theorem State.abandonTurn_eq (hids : (s.directives.entries.map Directive.id).Nodup) :
    s.abandonTurn (some turn) = s.turnAbandoned turn := by
  have hroster : (s.settle turn none).roster = s.roster := by simp
  unfold State.abandonTurn State.abandonStation State.turnAbandoned State.setStation
  dsimp only
  rw [hroster]
  cases s.roster[turn.slot] with
  | none => rfl
  | some st =>
    dsimp only
    rw [(s.settle turn none).completeRemoval_eq turn.slot st (s.settle_ids turn none hids)]

theorem State.turnAbandoned_ids (hids : (s.directives.entries.map Directive.id).Nodup) :
    ((s.turnAbandoned turn).directives.entries.map Directive.id).Nodup := by
  have settled := s.settle_ids turn none hids
  unfold State.turnAbandoned
  dsimp only
  split
  · split
    · exact State.removalDone_ids _ _ _ settled
    · split
      · rw [State.raise_frame]
        exact settled
      · exact settled
  · exact settled

theorem State.removalDone_sameSession (s : State) (i : StationId) (st : Station) :
    SameSession s (s.removalDone i st) := by
  unfold State.removalDone
  split
  · exact SameSession.trans (t := s.stationFreed i) ⟨rfl, rfl⟩ ((s.stationFreed i).repliedLate_sameSession _ _ _ _)
  · exact ⟨rfl, rfl⟩

theorem State.turnAbandoned_session (s : State) : (s.turnAbandoned turn).link.session = s.link.session := by
  have settled : (s.settle turn none).link.session = s.link.session := by simp
  unfold State.turnAbandoned
  dsimp only
  split
  · split
    · rw [(State.removalDone_sameSession _ _ _).session, settled]
    · split
      · rw [State.raise_frame]
        exact settled
      · exact settled
  · exact settled

theorem State.turnAbandoned_trunks (s : State) : (s.turnAbandoned turn).trunks = s.trunks := by
  have settled : (s.settle turn none).trunks = s.trunks := by simp
  unfold State.turnAbandoned State.removalDone
  dsimp only
  split
  · split
    · split <;> exact settled
    · split
      · rw [State.raise_frame]
        exact settled
      · exact settled
  · exact settled

end

/-! ### A group move beside a trunk (R89) -/

theorem State.groundStation_setTrunk (s : State) (k : TrunkId) (x : Trunk) (j : TrunkId) (i : StationId) :
    State.groundStation j (s.setTrunk k x) i = (State.groundStation j s i).setTrunk k x := by
  unfold State.groundStation
  rw [State.setTrunk_roster]
  cases s.roster[i] with
  | none => rfl
  | some st =>
    dsimp only
    by_cases htrunk : st.trunk = j
    · by_cases hstate : st.state = .removing
      · rw [if_pos htrunk, if_pos htrunk, if_pos hstate, if_pos hstate]
        exact s.completeRemoval_setTrunk k x _ _
      · rw [if_pos htrunk, if_pos htrunk, if_neg hstate, if_neg hstate]
        rfl
    · rw [if_neg htrunk, if_neg htrunk]

theorem State.groundStations_setTrunk (s : State) (k : TrunkId) (x : Trunk) (j : TrunkId) :
    (s.setTrunk k x).groundStations j = (s.groundStations j).setTrunk k x :=
  List.foldl_hom (fun u : State => u.setTrunk k x) fun u i => u.groundStation_setTrunk k x j i

/-! ### The trunk that faults (R97, R98, R110) -/

theorem State.answerStop_setTrunk (s : State) (k : TrunkId) (x : Trunk) (tag : Option Byte) (state : TrunkState) :
    (s.setTrunk k x).answerStop tag state = (s.answerStop tag state).setTrunk k x := by
  cases tag <;> rfl

/-- How a trunk ends whose third echo fault in a row it is: in the stop step of a close it is STOPPED (R97, R110). -/
def State.faultEnding (s : State) : TrunkState :=
  match s.link.session with
  | .closing .stopping _ => .stopped
  | _ => .faulted

theorem State.faultEnding_eq (s : State) : s.faultEnding = if s.closeStopping then .stopped else .faulted := by
  unfold State.faultEnding State.closeStopping
  cases s.link.session with
  | closed => rfl
  | opened => rfl
  | closing stage tag => cases stage <;> rfl

theorem State.session_of_closeStopping {s : State} (h : s.closeStopping = true) :
    s.link.session ≠ .opened := fun e => by
  unfold State.closeStopping at h
  rw [e] at h
  cases h

/-- A trunk faults, or has faulted and been stopped: it rests in the state `ending`, its stations move with it, and its
deferred TRUNK_STOP is answered (R89, R97, R98). -/
def State.trunkDown (s : State) (k : TrunkId) (x : Trunk) (ending : TrunkState) : State :=
  (((s.setTrunk k { x.atRest ending with
    cause := .echo, echoRun := 3
    counters := { x.counters with echoFaults := bump x.counters.echoFaults 1 } }).grounded k).raise
      (.trunkState k x.state .faulted .echo)).answerStop x.stopTag .faulted

section
variable {s : State} {k : TrunkId} {x : Trunk} {ending : TrunkState}

theorem State.trunkDown_eq (hids : (s.directives.entries.map Directive.id).Nodup) : s.trunkDown k x ending =
    (((s.grounded k).raise (.trunkState k x.state .faulted .echo)).answerStop x.stopTag .faulted).setTrunk k
      { x.atRest ending with
        cause := .echo, echoRun := 3
        counters := { x.counters with echoFaults := bump x.counters.echoFaults 1 } } := by
  unfold State.trunkDown
  rw [← State.groundStations_eq (s.setTrunk k _) k hids, State.groundStations_setTrunk, State.raise_setTrunk,
    State.answerStop_setTrunk, State.groundStations_eq s k hids]

theorem State.trunkDown_trunk (hids : (s.directives.entries.map Directive.id).Nodup) :
    (s.trunkDown k x ending).trunks[k] = { x.atRest ending with
      cause := .echo, echoRun := 3
      counters := { x.counters with echoFaults := bump x.counters.echoFaults 1 } } := by
  rw [State.trunkDown_eq hids, State.setTrunk_get]

theorem State.trunkDown_session : (s.trunkDown k x ending).link.session = s.link.session := by
  have answered : ∀ (u : State) (tag : Option Byte), (u.answerStop tag .faulted).link.session = u.link.session :=
    fun u tag => by cases tag <;> rfl
  unfold State.trunkDown
  rw [answered, State.raise_frame]
  dsimp only
  rw [(State.grounded_sameSession _ k).session]
  rfl

/-- A trunk that has faulted in the stop step of a close is STOPPED at once, and no notice is kept of it (R110). -/
theorem State.stopFaulted_trunkDown (hids : (s.directives.entries.map Directive.id).Nodup)
    (hsession : s.link.session ≠ .opened) :
    (s.trunkDown k x .faulted).stopFaulted k = s.trunkDown k x .stopped := by
  have unheard : ∀ y n, ((s.trunkDown k x .faulted).setTrunk k y).raise n = (s.trunkDown k x .faulted).setTrunk k y :=
    fun y n => State.raise_of_session (s := (s.trunkDown k x .faulted).setTrunk k y)
      (fun e => hsession (State.trunkDown_session.symm.trans e)) n
  unfold State.stopFaulted
  rw [unheard, State.trunkDown_trunk hids, State.trunkDown_eq hids, State.trunkDown_eq hids, State.setTrunk_setTrunk]
  rfl

end

/-! ### The third fault (R102) -/

section
variable {s : State} {k : TrunkId} {turn : Turn} (hturn : (s.trunks[k]).turn = some turn)
  (hids : (s.directives.entries.map Directive.id).Nodup) (hrun : (s.trunks[k]).echoRun = 2)
include hturn hids hrun

theorem State.echoFaulted_eq : s.echoFaulted k = (s.turnAbandoned turn).trunkDown k s.trunks[k] .faulted := by
  have ids := State.turnAbandoned_ids turn hids
  unfold State.echoFaulted State.trunkDown
  dsimp only
  rw [hturn, State.abandonTurn_eq turn hids, State.groundStations_eq ((s.turnAbandoned turn).setTrunk k _) k ids]
  unfold Trunk.echoCounted
  rw [hrun]
  rfl

/-- The third echo fault in a row: the turn is abandoned and the trunk goes down (R78, R97, R102, R110). -/
theorem State.echoFault_eq : s.echoFault k = (s.turnAbandoned turn).trunkDown k s.trunks[k] s.faultEnding := by
  rw [State.echoFault_third (by omega), State.faultEnding_eq, State.echoFaulted_eq hturn hids hrun]
  cases hclose : s.closeStopping with
  | false => rfl
  | true =>
    refine State.stopFaulted_trunkDown (State.turnAbandoned_ids turn hids) ?_
    rw [State.turnAbandoned_session]
    exact State.session_of_closeStopping hclose

end

/-! ### The events (R102, R108) -/

section
variable {s : State} {k : TrunkId} {poll : List Byte} {start : Time} {echoed : Nat}
  (hphase : (s.trunks[k]).phase = .sending poll start echoed)
include hphase

theorem echoDeadline_at : echoDeadline k s =
    (s.advanceTo (echoDue (s.trunks[k]).config.rate (echoed + 1) start)).echoFault k := by
  unfold echoDeadline
  dsimp only
  rw [hphase]

variable {dt : Nat} (value : Byte) (fe : Bool)

/-- A character no later than its deadline stands for the echo (R102). -/
theorem echoCharacter_inTime
    (hgood : ¬ Before (echoDue (s.trunks[k]).config.rate (echoed + 1) start) (later s.timeBase dt)) :
    echoCharacter k dt value fe s = echoTaken k value fe (s.comeTo (later s.timeBase dt)) := by
  have kept : s.lineTo k (s.charStart k (later s.timeBase dt)) (later s.timeBase dt) =
      s.comeTo (later s.timeBase dt) := by
    rw [State.lineTo, State.expireBefore_sending _ _ hphase, if_neg hgood]
  have hphase' : ((s.comeTo (later s.timeBase dt)).trunks[k]).phase = .sending poll start echoed := hphase
  unfold echoCharacter
  rw [hphase]
  dsimp only
  rw [State.character, kept, characterTaken, hphase']

/-- A character that is no good echo, or comes before the byte's stop bit has been sent, is an echo fault (R102). -/
theorem echoTaken_fault {turn : Turn} (hturn : (s.trunks[k]).turn = some turn)
    (h : poll.length ≤ echoed ∨ elapsed start s.timeBase < sentTime (s.trunks[k]).config.rate (echoed + 1) ∨ fe = true
      ∨ byteAt poll echoed ≠ value) : echoTaken k value fe s = s.echoFault k := by
  unfold echoTaken
  dsimp only
  rw [hphase, hturn]
  exact if_pos h

/-- A character after the deadline of a third fault meets a trunk that does not listen (R102, R108). -/
theorem echoCharacter_late (hlate : Before (echoDue (s.trunks[k]).config.rate (echoed + 1) start) (later s.timeBase dt))
    (hrest : ((echoDeadline k s).trunks[k]).phase = .idle)
    (hs : ((echoDeadline k s).trunks[k]).state = .faulted ∨ ((echoDeadline k s).trunks[k]).state = .stopped) :
    echoCharacter k dt value fe s = (echoDeadline k s).comeTo (later s.timeBase dt) := by
  have expired : s.lineTo k (s.charStart k (later s.timeBase dt)) (later s.timeBase dt) =
      (echoDeadline k s).comeTo (later s.timeBase dt) := by
    rw [State.lineTo, State.expireBefore_sending _ _ hphase, if_pos hlate]
  have hrest' : (((echoDeadline k s).comeTo (later s.timeBase dt)).trunks[k]).phase = .idle := hrest
  have deaf : ¬ (((echoDeadline k s).comeTo (later s.timeBase dt)).trunks[k]).hearsStray = true := by
    have hs' : (((echoDeadline k s).comeTo (later s.timeBase dt)).trunks[k]).state = .faulted
      ∨ (((echoDeadline k s).comeTo (later s.timeBase dt)).trunks[k]).state = .stopped := hs
    unfold Trunk.hearsStray
    rw [hrest']
    obtain hs' | hs' := hs' <;> rw [hs'] <;> exact Bool.false_ne_true
  unfold echoCharacter
  rw [hphase]
  dsimp only
  rw [State.character, expired, characterTaken, hrest']
  exact if_neg deaf

end

/-- Settles O41: the fault by a character and by the deadline, and the character after it. -/
theorem thirdEchoFaultFaultsTrunk : Obligations.ThirdEchoFaultFaultsTrunk := by
  unfold Obligations.ThirdEchoFaultFaultsTrunk
  intro s k poll start echoed turn hreset hd hphase hturn hrun x sent due ending faults
  obtain ⟨-, hids, -⟩ := hd
  have faultsAt : ∀ now, (s.comeTo now).echoFault k = faults now := fun now => by
    rw [State.echoFault_eq (s := s.comeTo now) hturn hids hrun]
    unfold State.trunkDown State.setTrunk
    rw [State.turnAbandoned_trunks]
    dsimp only [faults]
    have hget : (s.comeTo now).trunks[k] = x := rfl
    rw [hget]
    cases x.stopTag with
    | none =>
      refine congrArg (fun u : State => (u.grounded k).raise (.trunkState k x.state .faulted .echo)) ?_
      rfl
    | some tag =>
      refine congrArg (fun u : State => ((u.grounded k).raise (.trunkState k x.state .faulted .echo)).repliedLate
        0x2A#8 tag .ok [4#8]) ?_
      rfl
  have expires : echoDeadline k s = faults (s.expiryAt due) := by
    rw [echoDeadline_at hphase, State.advanceTo_eq]
    exact faultsAt _
  have faultedTrunk : ∀ now, ((faults now).trunks[k]).phase = .idle ∧
      (((faults now).trunks[k]).state = .faulted ∨ ((faults now).trunks[k]).state = .stopped) := fun now => by
    rw [← faultsAt, State.echoFault_eq (s := s.comeTo now) hturn hids hrun,
      State.trunkDown_trunk (State.turnAbandoned_ids turn (s := s.comeTo now) hids)]
    refine ⟨rfl, ?_⟩
    show (s.comeTo now).faultEnding = _ ∨ (s.comeTo now).faultEnding = _
    rw [State.faultEnding_eq]
    split
    · exact .inr rfl
    · exact .inl rfl
  refine ⟨fun dt value fe => ⟨fun hgood hfault => ?_, fun hlate => ?_⟩, ?_⟩
  · refine (perform_awake hreset (echoCharacter k dt value fe)).trans ?_
    have fault : poll.length ≤ echoed ∨ (later s.timeBase dt - start).toNat < sent ∨ fe = true
        ∨ byteAt poll echoed ≠ value := by
      obtain h | h | h | h := hfault
      · exact .inl h
      · exact .inr (.inr (.inl h))
      · exact .inr (.inr (.inr h))
      · exact .inr (.inl h)
    rw [echoCharacter_inTime hphase value fe hgood,
      echoTaken_fault (s := s.comeTo (later s.timeBase dt)) hphase value fe hturn fault, faultsAt]
    rfl
  · refine (perform_awake hreset (echoCharacter k dt value fe)).trans ?_
    obtain ⟨hrest, hs⟩ := faultedTrunk (s.expiryAt due)
    rw [← expires] at hrest hs ⊢
    rw [echoCharacter_late hphase value fe hlate hrest hs]
    rfl
  · refine (perform_awake hreset (echoDeadline k)).trans ?_
    rw [expires]

end Sys2Proof.Machine
end

section
/-! The close of a turn (R73, R75, R76, R84, R87, R89, R96, R98, R123). -/

namespace Sys2Proof.Machine

/-! ### The station's side (R76, R84, R87) -/

/-- Table 4-3, from a state in which a station is polled. -/
theorem turnOutcome_eq {startState : StationState}
    (h : startState = .probing ∨ startState = .active ∨ startState = .lagging ∨ startState = .lost)
    (missCount limit : Nat) (hit : Bool) : turnOutcome startState missCount limit hit =
      if hit then (.active, 0)
      else if startState = .active then (if limit ≤ 1 then .lost else .lagging, 1)
      else if startState = .lost then (.lost, missCount)
      else (if limit ≤ missCount + 1 then .lost else startState, missCount + 1) := by
  unfold turnOutcome
  cases hit with
  | true => rfl
  | false =>
    obtain rfl | rfl | rfl | rfl := h
    · rfl
    · rfl
    · rfl
    · rfl

section
variable {s : State} {turn : Turn} {st : Station} (hst : s.roster[turn.slot] = some st)
include hst

/-- The station as the close of its turn leaves it: removed, or moved and reported (R76, R84, R87). -/
theorem State.closeStation_eq (hids : (s.directives.entries.map Directive.id).Nodup) (limit : Nat)
    {outcome : StationState × Nat}
    (houtcome : turnOutcome turn.startState st.missCount limit turn.stage.isHit = outcome) : s.closeStation turn limit =
      let now := if st.suspendPending then .suspended else outcome.1
      let moved := s.setStation turn.slot (some
        { st with state := now, missCount := outcome.2, suspendPending := false })
      if st.state = .removing then s.removalDone turn.slot st
      else if now = turn.startState then moved
      else moved.raise (.stationState turn.slot st.trunk st.address turn.startState now 1) := by
  subst houtcome
  unfold State.closeStation
  rw [hst]
  dsimp only
  rw [s.completeRemoval_eq turn.slot st hids]

end

/-- But for a removal, the close writes the roster and the notices. -/
theorem State.closeStation_cases (s : State) (turn : Turn) (limit : Nat) :
    (∃ st, s.closeStation turn limit = s.completeRemoval turn.slot st)
      ∨ ∃ roster notices, s.closeStation turn limit = { s with roster := roster, notices := notices } := by
  unfold State.closeStation
  cases s.roster[turn.slot] with
  | none => exact .inr ⟨s.roster, s.notices, rfl⟩
  | some st =>
    dsimp only
    by_cases hr : st.state = .removing
    · exact .inl ⟨st, if_pos hr⟩
    · rw [if_neg hr]
      generalize (if st.suspendPending = true then StationState.suspended
        else (turnOutcome turn.startState st.missCount limit turn.stage.isHit).1) = now
      refine .inr ?_
      split
      · exact ⟨_, s.notices, rfl⟩
      · exact ⟨_, _, State.raise_frame ..⟩

theorem State.closeStation_ids {s : State} (turn : Turn) (limit : Nat)
    (hids : (s.directives.entries.map Directive.id).Nodup) :
    ((s.closeStation turn limit).directives.entries.map Directive.id).Nodup := by
  obtain ⟨st, h⟩ | ⟨roster, notices, h⟩ := s.closeStation_cases turn limit
  · rw [h, s.completeRemoval_eq _ _ hids]
    exact s.removalDone_ids _ _ hids
  · rw [h]
    exact hids

theorem State.closeStation_timeBase (s : State) (turn : Turn) (limit : Nat) :
    (s.closeStation turn limit).timeBase = s.timeBase := by
  obtain ⟨st, h⟩ | ⟨roster, notices, h⟩ := s.closeStation_cases turn limit
  · rw [h]
    simp
  · rw [h]

/-! ### The trunk's side (R73, R75, R96) -/

section
variable {u : State} {k : TrunkId}

theorem State.turnClosed_running (hs : (u.trunks[k]).state = .running) :
    u.turnClosed k = (u.setTrunk k { u.trunks[k] with turn := none }).endRoundIfDone k := by
  unfold State.turnClosed
  dsimp only
  rw [hs]

theorem State.turnClosed_stopping (hs : (u.trunks[k]).state = .stopping) :
    u.turnClosed k = (u.setTrunk k { u.trunks[k] with turn := none }).completeStop k := by
  unfold State.turnClosed
  dsimp only
  rw [hs]

end

section
variable {s : State} {k : TrunkId} {turn : Turn} (hturn : (s.trunks[k]).turn = some turn)
  (hclosable : turn.stage.closable = true)

theorem State.closeStation_trunk (limit : Nat) : (s.closeStation turn limit).trunks[k] = s.trunks[k] :=
  congrArg (fun v : Vector Trunk 2 => v[k]) (s.closeStation_trunks turn limit)

include hturn hclosable

theorem turnClose_at : turnClose k s = (s.closeStation turn (s.trunks[k]).config.missLimit).turnClosed k := by
  unfold turnClose
  rw [hturn]
  exact if_pos hclosable

/-- On a RUNNING trunk the round goes on, or ends with its last place (R73). -/
theorem turnClose_running (hs : (s.trunks[k]).state = .running) {r : Round} (hround : (s.trunks[k]).round = some r) :
    turnClose k s = (s.closeStation turn (s.trunks[k]).config.missLimit).setTrunk k
      (if r.places = [] then ({ s.trunks[k] with turn := none } : Trunk).roundEnded s.timeBase r.turned
        else { s.trunks[k] with turn := none }) := by
  rw [turnClose_at hturn hclosable, State.turnClosed_running (by rw [State.closeStation_trunk]; exact hs),
    State.closeStation_trunk, State.endRoundIfDone_setTrunk _ k { s.trunks[k] with turn := none } hround,
    State.closeStation_timeBase]

/-- A STOPPING trunk completes its stop (R89, R96). -/
theorem turnClose_stopping (hs : (s.trunks[k]).state = .stopping)
    (hids : (s.directives.entries.map Directive.id).Nodup) :
    turnClose k s = ((((s.closeStation turn (s.trunks[k]).config.missLimit).setTrunk k
      ((s.trunks[k]).atRest .stopped)).grounded k).answerStop (s.trunks[k]).stopTag .stopped).raise
        (.trunkState k .stopping .stopped .request) := by
  have ids := State.closeStation_ids turn (s.trunks[k]).config.missLimit hids
  rw [turnClose_at hturn hclosable, State.turnClosed_stopping (by rw [State.closeStation_trunk]; exact hs),
    State.closeStation_trunk]
  refine (State.completeStop_eq (s := (s.closeStation turn _).setTrunk k _) ids).trans ?_
  rw [State.setTrunk_get, State.setTrunk_setTrunk]
  rfl

end

/-- Settles O49: Table 4-3 at the station, then the trunk by its state. -/
theorem turnCloseAppliesTable : Obligations.TurnCloseAppliesTable := by
  unfold Obligations.TurnCloseAppliesTable
  intro s k turn st hit hreset hd hturn hstage hst hstart x limit missed outcome now moved closed ends
  obtain ⟨-, hids, -⟩ := hd
  have hstage' : turn.stage.closable = true ∧ turn.stage.isHit = hit := by
    cases hit with
    | true =>
      obtain ⟨stamp, hstage⟩ := hstage
      rw [hstage]
      exact ⟨rfl, rfl⟩
    | false =>
      rw [show turn.stage = .missed from hstage]
      exact ⟨rfl, rfl⟩
  obtain ⟨hclosable, hhit⟩ := hstage'
  have houtcome : turnOutcome turn.startState st.missCount limit turn.stage.isHit = outcome := by
    rw [hhit]
    exact turnOutcome_eq hstart st.missCount limit hit
  have hclosed : s.closeStation turn limit = closed := State.closeStation_eq hst hids limit houtcome
  have htrunks : closed.trunks = s.trunks := hclosed ▸ s.closeStation_trunks turn limit
  have put : ∀ y, closed.setTrunk k y = { closed with trunks := setAt s.trunks k y } := fun y => by
    rw [State.setTrunk, htrunks]
  have steps : ∀ u, turnClose k s = u → ends u := fun u h => h ▸ perform_awake hreset (turnClose k)
  refine ⟨fun r hs hround => steps _ ?_, fun hs => ?_⟩
  · rw [turnClose_running hturn hclosable hs hround, hclosed, put]
  · intro stopped
    refine steps _ ?_
    rw [turnClose_stopping hturn hclosable hs hids, hclosed, put]
    refine congrArg (fun u : State => u.raise (.trunkState k .stopping .stopped .request)) ?_
    show stopped.answerStop x.stopTag .stopped = _
    cases x.stopTag with
    | none => rfl
    | some tag => rfl

end Sys2Proof.Machine
end

section
/-! RXD low and stray bytes, where the trunk listens and where it does not (R90, R94, R108). -/

namespace Sys2Proof.Machine

/-! ### The last rise of RXD in a character (R90) -/

/-- The numbers below `n` that satisfy `p` at the upper end, when there are `m` of them. -/
theorem length_takeWhile_reverse_range (p : Nat → Bool) : ∀ {n m : Nat}, m ≤ n →
    (∀ j, n - m ≤ j → j < n → p j = true) → (m = n ∨ p (n - 1 - m) = false) →
      ((List.range n).reverse.takeWhile p).length = m
  | 0, m, hle, _, _ => (Nat.le_zero.1 hle).symm
  | n + 1, 0, _, _, hend => by
    have hlow : p n = false := hend.resolve_left (Nat.succ_ne_zero n).symm
    rw [List.range_succ, List.reverse_append, List.reverse_singleton, List.singleton_append,
      List.takeWhile_cons_of_neg (by rw [hlow]; exact Bool.false_ne_true)]
    rfl
  | n + 1, m + 1, hle, htop, hend => by
    have ih := length_takeWhile_reverse_range p (Nat.le_of_succ_le_succ hle)
      (fun j hj hjn => htop j (by omega) (by omega)) (hend.imp Nat.succ.inj fun h => by
        rw [show n - 1 - m = n + 1 - 1 - (m + 1) by omega]
        exact h)
    rw [List.range_succ, List.reverse_append, List.reverse_singleton, List.singleton_append,
      List.takeWhile_cons_of_pos (htop n (by omega) (Nat.lt_succ_self n)), List.length_cons, ih]

/-- A good character ends high for its last data bits that are 1 and the stop bit (R90). -/
theorem highBits_eq {value : Byte} {bits : Nat} (hpos : 1 ≤ bits) (hle : bits ≤ 9)
    (hhigh : ∀ j, 9 - bits ≤ j → j < 8 → value.getLsbD j = true) (hend : bits = 9 ∨ value.getLsbD (8 - bits) = false) :
    highBits value = bits := by
  obtain ⟨m, rfl⟩ : ∃ m, bits = m + 1 := ⟨bits - 1, by omega⟩
  unfold highBits
  rw [length_takeWhile_reverse_range _ (Nat.le_of_succ_le_succ hle) (fun j hj => hhigh j (by omega))
    (hend.imp Nat.succ.inj fun h => by rw [show 8 - 1 - m = 8 - (m + 1) by omega]; exact h)]

/-! ### The idle run after a character (R94) -/

/-- The idle run counts from `f`. -/
def StartWatch.countsFrom (w : StartWatch) (f : Option Time) : StartWatch := { w with idleFrom := f }

section
variable {w : StartWatch} (rate : Fin 8) (value : Byte) (now : Time)

/-- After a framing error there is a run only from a rise that is still to come (R94). -/
theorem StartWatch.afterCharacter_broken :
    (∀ f, w.idleFrom = some f → Before now f → w.afterCharacter rate value true now = w.countsFrom (some f))
    ∧ ((∀ f, w.idleFrom = some f → ¬ Before now f) → w.afterCharacter rate value true now = w.countsFrom none) := by
  unfold StartWatch.afterCharacter StartWatch.countsFrom
  rw [if_pos rfl]
  refine ⟨fun f hf hlater => ?_, fun h => ?_⟩
  · rw [hf, Option.filter_some, if_pos (passed_iff.2 hlater)]
  · rw [Option.filter_eq_none_iff.2 fun f hf => mt passed_iff.1 (h f hf)]

/-- After a good one it counts from its last rise, or from a later rise that is known (R94). -/
theorem StartWatch.afterCharacter_good :
    (∀ f, w.idleFrom = some f → Before (lastRise rate value now) f →
      w.afterCharacter rate value false now = w.countsFrom (some f))
    ∧ ((∀ f, w.idleFrom = some f → ¬ Before (lastRise rate value now) f) →
      w.afterCharacter rate value false now = w.countsFrom (some (lastRise rate value now))) := by
  unfold StartWatch.afterCharacter StartWatch.countsFrom
  rw [if_neg Bool.false_ne_true]
  refine ⟨fun f hf hlater => ?_, fun h => ?_⟩
  · rw [hf]
    dsimp only
    rw [if_pos (passed_iff.2 hlater)]
  · cases hidle : w.idleFrom with
    | none => rfl
    | some f =>
      dsimp only
      rw [if_neg (mt passed_iff.1 (h f hidle))]

end

/-! ### Where the trunk listens (R108) -/

/-- The sequencer is neither SENDING, WAITING nor RECEIVING. -/
def Phase.Between (p : Phase) : Prop := p = .idle ∨ ∃ due, p = .settling due

theorem Trunk.hearsStray_iff {x : Trunk} : x.hearsStray = true ↔
    x.state = .starting ∨ ((x.state = .running ∨ x.state = .stopping) ∧ x.phase.Between) := by
  unfold Trunk.hearsStray Phase.Between
  cases x.state <;> cases x.phase <;> simp

section
variable {u : State} {k : TrunkId} (hphase : (u.trunks[k]).phase.Between) (now : Time) (value : Byte) (fe : Bool)
include hphase

theorem characterTaken_between : characterTaken k value fe u = strayTaken k value fe u := by
  unfold characterTaken
  obtain h | ⟨due, h⟩ := hphase <;> rw [h]

theorem characterTaken_unheard (h : ¬ (u.trunks[k]).hearsStray = true) :
    characterTaken k value fe (u.comeTo now) = u.comeTo now :=
  (characterTaken_between (u := u.comeTo now) hphase value fe).trans (if_neg h)

/-- With no idle watch a stray byte is counted and nothing else (R108). -/
theorem characterTaken_unwatched (h : (u.trunks[k]).hearsStray = true) (hwatch : (u.trunks[k]).watch = none) :
    characterTaken k value fe (u.comeTo now) = u.strayAt k now := by
  refine (characterTaken_between (u := u.comeTo now) hphase value fe).trans ((if_pos h).trans ?_)
  unfold State.strayAt Trunk.strayCounted
  dsimp only [State.comeTo]
  rw [hwatch]
  rfl

/-- With one, the idle run is ended as well (R94, R108). -/
theorem characterTaken_watched {w : StartWatch} (h : (u.trunks[k]).hearsStray = true)
    (hwatch : (u.trunks[k]).watch = some w) : characterTaken k value fe (u.comeTo now) = (u.comeTo now).setTrunk k
      { (u.trunks[k]).strayCounted with watch := some (w.afterCharacter (u.trunks[k]).config.rate value fe now) } := by
  refine (characterTaken_between (u := u.comeTo now) hphase value fe).trans ((if_pos h).trans ?_)
  dsimp only [State.comeTo]
  rw [hwatch]
  rfl

end

/-! ### The end of the idle watch before an event on the line (R94) -/

/-- The idle run is complete before `low`, and no later than the start limit. -/
def StartWatch.RunsBefore (w : StartWatch) (rate : Fin 8) (low : Time) : Prop :=
  ∃ due, w.idleDue rate = some due ∧ Before due low ∧ ¬ Before w.limit due

theorem StartWatch.runsBefore_iff {w : StartWatch} {rate : Fin 8} {low : Time} : w.RunsBefore rate low ↔
    ∃ f, w.idleFrom = some f ∧ Before (later f (byteTimes rate 32)) low
      ∧ ¬ Before w.limit (later f (byteTimes rate 32)) := by
  unfold StartWatch.RunsBefore StartWatch.idleDue
  simp only [Option.map_eq_some_iff, exists_exists_and_eq_and]

section
variable {s : State} {k : TrunkId} {w : StartWatch} {low now : Time}

theorem State.watchTo_runs {due : Time} (hdue : w.idleDue (s.trunks[k]).config.rate = some due)
    (hlow : Before due low) (hlimit : ¬ Before w.limit due) :
    s.watchTo k w low now = s.startedAt k w.tag (s.expiryAt due) := by
  unfold State.watchTo
  rw [hdue, ← State.runTrunk_startedAt]
  dsimp only
  rw [passed_iff.2 hlow, Bool.eq_false_iff.2 (mt passed_iff.1 hlimit)]
  rfl

/-- Without the end of the idle run the start limit is the end, if it lies before (R94). -/
theorem State.watchTo_limit (h : ¬ w.RunsBefore (s.trunks[k]).config.rate low) : s.watchTo k w low now =
    if Before w.limit now then s.startFailedAt k w.tag (s.expiryAt w.limit) else s := by
  unfold State.watchTo
  rw [← State.failStart_startFailedAt]
  cases hdue : w.idleDue (s.trunks[k]).config.rate with
  | none => exact if_congr passed_iff rfl rfl
  | some due =>
    refine (if_neg fun e => h ?_).trans (if_congr passed_iff rfl rfl)
    rw [Bool.and_eq_true, Bool.not_eq_true', Bool.eq_false_iff] at e
    obtain ⟨hlow, hlimit⟩ := e
    exact ⟨due, hdue, passed_iff.1 hlow, fun e => hlimit (passed_iff.2 e)⟩

/-- The trunk that has become RUNNING. -/
theorem State.startedAt_trunk (s : State) (k : TrunkId) (tag : Byte) (now : Time) :
    ((s.startedAt k tag now).trunks[k]).state = .running
    ∧ ((s.startedAt k tag now).trunks[k]).phase = (s.trunks[k]).phase
    ∧ ((s.startedAt k tag now).trunks[k]).watch = none := by
  unfold State.startedAt
  rw [State.raise_frame]
  simp [State.repliedLate]

/-- The trunk whose start has failed. -/
theorem State.startFailedAt_trunk (s : State) (k : TrunkId) (tag : Byte) (now : Time) :
    ((s.startFailedAt k tag now).trunks[k]).state = .faulted
    ∧ ((s.startFailedAt k tag now).trunks[k]).phase = (s.trunks[k]).phase := by
  unfold State.startFailedAt
  rw [State.raise_frame]
  simp [State.repliedLate]

/-- A trunk in service between attempts and turns has no expiry that an event on its line takes first. -/
theorem State.expireBefore_between (hphase : (s.trunks[k]).phase.Between) (hs : (s.trunks[k]).state ≠ .starting) :
    s.expireBefore k low now = s := by
  unfold State.expireBefore
  dsimp only
  obtain h | ⟨due, h⟩ := hphase <;> rw [h]
  dsimp only
  split
  · exact absurd ‹_› hs
  · rfl

end

/-! ### The events (R94, R108) -/

section
variable {s : State} {k : TrunkId} {dt : Nat} (lowFor : Nat) (value : Byte) (fe : Bool)

theorem lineWentLow_of_ne (now : Time) (h : (s.trunks[k]).state ≠ .starting) :
    lineWentLow k lowFor (s.comeTo now) = s.comeTo now := by
  unfold lineWentLow
  split
  · exact absurd ‹_› h
  · rfl

theorem lineLow_of_ne (h : (s.trunks[k]).state ≠ .starting) : lineLow k dt lowFor s = s.elapse dt := by
  unfold lineLow
  split
  · exact absurd ‹_› h
  · rfl

theorem strayByte_unheard (h : ¬ (s.trunks[k]).hearsStray = true) : strayByte k dt value fe s = s.elapse dt := if_neg h

/-- A stray byte on a trunk in service is counted (R108). -/
theorem strayByte_inService (hs : (s.trunks[k]).state = .running ∨ (s.trunks[k]).state = .stopping)
    (hphase : (s.trunks[k]).phase.Between) (hwatch : (s.trunks[k]).watch = none) :
    strayByte k dt value fe s = s.strayAt k (later s.timeBase dt) := by
  have hears : (s.trunks[k]).hearsStray = true := Trunk.hearsStray_iff.2 (.inr ⟨hs, hphase⟩)
  have hne : (s.trunks[k]).state ≠ .starting := by
    obtain h | h := hs <;> rw [h] <;> decide
  refine (if_pos hears).trans ?_
  rw [State.character, State.lineTo, State.expireBefore_between hphase hne]
  exact characterTaken_unwatched hphase _ value fe hears hwatch

section
variable {w : StartWatch} (hs : (s.trunks[k]).state = .starting) (hphase : (s.trunks[k]).phase = .idle)
  (hw : (s.trunks[k]).watch = some w)
include hs hphase hw

/-- The idle watch is brought to the event first (R94). -/
theorem State.lineTo_watched (low now : Time) : s.lineTo k low now = (s.watchTo k w low now).comeTo now := by
  unfold State.lineTo State.expireBefore
  dsimp only
  rw [hphase, hs, hw]

theorem lineLow_watched : lineLow k dt lowFor s = lineWentLow k lowFor
    ((s.watchTo k w (later s.timeBase dt) (later s.timeBase dt)).comeTo (later s.timeBase dt)) := by
  unfold lineLow
  rw [hs]
  dsimp only
  rw [State.lineTo_watched hs hphase hw]

theorem strayByte_watched : strayByte k dt value fe s = characterTaken k value fe
    ((s.watchTo k w (s.charStart k (later s.timeBase dt)) (later s.timeBase dt)).comeTo (later s.timeBase dt)) := by
  refine (if_pos (Trunk.hearsStray_iff.2 (.inl hs))).trans ?_
  rw [State.character, State.lineTo_watched hs hphase hw]

/-! While STARTING, what comes first: the end of the idle run, the start limit, or the event itself. -/

section
variable {due : Time} (hdue : w.idleDue (s.trunks[k]).config.rate = some due) (hlimit : ¬ Before w.limit due)
include hdue hlimit

/-- The trunk is RUNNING when RXD goes low (R94). -/
theorem lineLow_started (hlow : Before due (later s.timeBase dt)) :
    lineLow k dt lowFor s = (s.startedAt k w.tag (s.expiryAt due)).comeTo (later s.timeBase dt) := by
  obtain ⟨hrunning, -⟩ := s.startedAt_trunk k w.tag (s.expiryAt due)
  rw [lineLow_watched lowFor hs hphase hw, State.watchTo_runs hdue hlow hlimit]
  exact lineWentLow_of_ne lowFor _ (by rw [hrunning]; decide)

/-- The trunk is RUNNING when the character starts (R94, R108). -/
theorem strayByte_started (hlow : Before due (s.charStart k (later s.timeBase dt))) :
    strayByte k dt value fe s = (s.startedAt k w.tag (s.expiryAt due)).strayAt k (later s.timeBase dt) := by
  obtain ⟨hrunning, hidle, hwatch⟩ := s.startedAt_trunk k w.tag (s.expiryAt due)
  have between : (((s.startedAt k w.tag (s.expiryAt due)).trunks[k]).phase).Between := .inl (hidle.trans hphase)
  rw [strayByte_watched value fe hs hphase hw, State.watchTo_runs hdue hlow hlimit]
  exact characterTaken_unwatched between _ value fe (Trunk.hearsStray_iff.2 (.inr ⟨.inl hrunning, between⟩)) hwatch

end

section
variable (hlimit : Before w.limit (later s.timeBase dt))
include hlimit

/-- The trunk has FAULTED when RXD goes low (R94). -/
theorem lineLow_failed (h : ¬ w.RunsBefore (s.trunks[k]).config.rate (later s.timeBase dt)) :
    lineLow k dt lowFor s = (s.startFailedAt k w.tag (s.expiryAt w.limit)).comeTo (later s.timeBase dt) := by
  obtain ⟨hfaulted, -⟩ := s.startFailedAt_trunk k w.tag (s.expiryAt w.limit)
  rw [lineLow_watched lowFor hs hphase hw, State.watchTo_limit h, if_pos hlimit]
  exact lineWentLow_of_ne lowFor _ (by rw [hfaulted]; decide)

/-- The trunk has FAULTED before the character, and does not listen (R94, R108). -/
theorem strayByte_failed (h : ¬ w.RunsBefore (s.trunks[k]).config.rate (s.charStart k (later s.timeBase dt))) :
    strayByte k dt value fe s = (s.startFailedAt k w.tag (s.expiryAt w.limit)).comeTo (later s.timeBase dt) := by
  obtain ⟨hfaulted, hidle⟩ := s.startFailedAt_trunk k w.tag (s.expiryAt w.limit)
  rw [strayByte_watched value fe hs hphase hw, State.watchTo_limit h, if_pos hlimit]
  refine characterTaken_unheard (.inl (hidle.trans hphase)) _ value fe ?_
  rw [Trunk.hearsStray_iff, hfaulted]
  rintro (h | ⟨h | h, -⟩) <;> cases h

end

/-- The idle run begins again when RXD returns high (R94). -/
theorem lineLow_watching (h : ¬ w.RunsBefore (s.trunks[k]).config.rate (later s.timeBase dt))
    (hlimit : ¬ Before w.limit (later s.timeBase dt)) : lineLow k dt lowFor s =
      (s.comeTo (later s.timeBase dt)).setTrunk k
        { s.trunks[k] with watch := some (w.countsFrom (some (later (later s.timeBase dt) lowFor))) } := by
  rw [lineLow_watched lowFor hs hphase hw, State.watchTo_limit h, if_neg hlimit]
  unfold lineWentLow
  dsimp only [State.comeTo]
  rw [hs]
  dsimp only
  rw [hw]
  rfl

/-- The stray byte is counted and ends the idle run (R94, R108). -/
theorem strayByte_watching (h : ¬ w.RunsBefore (s.trunks[k]).config.rate (s.charStart k (later s.timeBase dt)))
    (hlimit : ¬ Before w.limit (later s.timeBase dt)) {w' : StartWatch}
    (hafter : w.afterCharacter (s.trunks[k]).config.rate value fe (later s.timeBase dt) = w') :
    strayByte k dt value fe s =
      (s.comeTo (later s.timeBase dt)).setTrunk k { (s.trunks[k]).strayCounted with watch := some w' } := by
  rw [strayByte_watched value fe hs hphase hw, State.watchTo_limit h, if_neg hlimit, ← hafter]
  exact characterTaken_watched (.inl hphase) _ value fe (Trunk.hearsStray_iff.2 (.inl hs)) hw

end

end

/-- Settles O36: outside STARTING, and while STARTING by what comes first. -/
theorem lineLowAndStrayByte : Obligations.LineLowAndStrayByte := by
  unfold Obligations.LineLowAndStrayByte
  intro s k dt lowFor value fe hreset x now lows hears
  have lowsIs : ∀ u, lineLow k dt lowFor s = u → lows u := fun u h => h ▸ perform_awake hreset (lineLow k dt lowFor)
  have hearsIs : ∀ u, strayByte k dt value fe s = u → hears u :=
    fun u h => h ▸ perform_awake hreset (strayByte k dt value fe)
  intro passes quiet
  refine ⟨fun hs => ⟨lowsIs _ (lineLow_of_ne lowFor hs), fun hquiet => hearsIs _ (strayByte_unheard value fe ?_)⟩,
    fun ⟨hs, hphase⟩ hwatch => hearsIs _ (strayByte_inService value fe hs hphase hwatch), fun w hs hphase hw => ?_⟩
  · exact fun h => (Trunk.hearsStray_iff.1 h).elim hs hquiet
  intro due endsBefore low watching
  have dueIs : ∀ f, w.idleFrom = some f → w.idleDue x.config.rate = some (due f) := fun f hf => congrArg _ hf
  refine ⟨fun f hf hlimit => ⟨fun hdue => lowsIs _ ?_, fun hdue => hearsIs _ ?_⟩,
    fun hlimit => ⟨fun h => lowsIs _ ?_, fun h => hearsIs _ ?_⟩,
    fun hlimit => ⟨fun h => lowsIs _ ?_, fun h => ?_⟩⟩
  · exact lineLow_started lowFor hs hphase hw (dueIs f hf) hlimit hdue
  · exact strayByte_started value fe hs hphase hw (dueIs f hf) hlimit hdue
  · exact lineLow_failed lowFor hs hphase hw hlimit (mt StartWatch.runsBefore_iff.1 h)
  · exact strayByte_failed value fe hs hphase hw hlimit (mt StartWatch.runsBefore_iff.1 h)
  · exact lineLow_watching lowFor hs hphase hw (mt StartWatch.runsBefore_iff.1 h) hlimit
  have counts : ∀ f, w.afterCharacter x.config.rate value fe now = w.countsFrom f →
      hears (watching x.strayCounted f) := fun f hafter =>
    hearsIs _ (strayByte_watching value fe hs hphase hw (mt StartWatch.runsBefore_iff.1 h) hlimit hafter)
  refine ⟨fun hfe => ?_, fun hfe bits hpos hle hhigh hend => ?_⟩
  · subst hfe
    obtain ⟨known, unknown⟩ := StartWatch.afterCharacter_broken (w := w) x.config.rate value now
    exact ⟨fun f hf hlater => counts _ (known f hf hlater), fun hnone => counts _ (unknown hnone)⟩
  · subst hfe
    intro rise
    have hrise : lastRise x.config.rate value now = rise := by
      unfold lastRise
      rw [highBits_eq hpos hle hhigh hend]
      rfl
    obtain ⟨known, unknown⟩ := StartWatch.afterCharacter_good (w := w) x.config.rate value now
    rw [hrise] at known unknown
    exact ⟨fun f hf hlater => counts _ (known f hf hlater), fun hnone => counts _ (unknown hnone)⟩

end Sys2Proof.Machine
end

section
/-! The echo of a POLL: a good one, and the fault that repeats the attempt (R101 to R103, R107, R108). -/

namespace Sys2Proof.Machine

/-! ### The character while SENDING (R102) -/

section
variable {s : State} {k : TrunkId} {poll : List Byte} {start : Time} {echoed : Nat}
  (hphase : (s.trunks[k]).phase = .sending poll start echoed)
include hphase

/-- A good echo goes on to the next byte, and that of the last byte opens the reply window (R102, R103). -/
theorem echoTaken_good {turn : Turn} (hturn : (s.trunks[k]).turn = some turn) (hlen : echoed < poll.length)
    (hsent : sentTime (s.trunks[k]).config.rate (echoed + 1) ≤ elapsed start s.timeBase) :
    echoTaken k (byteAt poll echoed) false s = if echoed + 1 = poll.length then s.pollSent k turn
      else s.setPhase k (.sending poll start (echoed + 1)) := by
  have good : ¬ (poll.length ≤ echoed ∨ elapsed start s.timeBase < sentTime (s.trunks[k]).config.rate (echoed + 1)
      ∨ false = true ∨ byteAt poll echoed ≠ byteAt poll echoed) := by
    rintro (h | h | h | h)
    · omega
    · omega
    · cases h
    · exact h rfl
  unfold echoTaken
  dsimp only
  rw [hphase, hturn]
  exact if_neg good

/-- A character after the deadline meets the trunk as the expiry has left it (R102). -/
theorem echoCharacter_expired {dt : Nat}
    (hlate : Before (echoDue (s.trunks[k]).config.rate (echoed + 1) start) (later s.timeBase dt)) (value : Byte)
    (fe : Bool) : echoCharacter k dt value fe s =
      characterTaken k value fe ((echoDeadline k s).comeTo (later s.timeBase dt)) := by
  unfold echoCharacter
  rw [hphase]
  dsimp only
  rw [State.character, State.lineTo, State.expireBefore_sending _ _ hphase, if_pos hlate]

/-- Below the third fault in a row the deadline is one, at its own time (R102, R107). -/
theorem echoDeadline_below (hrun : (s.trunks[k]).echoRun + 1 < 3) : echoDeadline k s =
    let expired := s.advanceTo (echoDue (s.trunks[k]).config.rate (echoed + 1) start)
    expired.setTrunk k { (s.trunks[k]).echoCounted with
      phase := .settling (later expired.timeBase (byteTimes (s.trunks[k]).config.rate 3))
      de := false, txMark := true } := by
  rw [echoDeadline_at hphase, State.echoFault_below (by rw [State.advanceTo_trunk]; exact hrun), State.advanceTo_trunk]

/-- A character after that deadline is heard in SETTLING as a stray byte (R102, R108). -/
theorem echoCharacter_lateBelow {dt : Nat} (hrun : (s.trunks[k]).echoRun + 1 < 3)
    (hlate : Before (echoDue (s.trunks[k]).config.rate (echoed + 1) start) (later s.timeBase dt))
    (hs : (s.trunks[k]).state = .running ∨ (s.trunks[k]).state = .stopping) (hwatch : (s.trunks[k]).watch = none)
    (value : Byte) (fe : Bool) :
    echoCharacter k dt value fe s = (echoDeadline k s).strayAt k (later s.timeBase dt) := by
  have htrunk := congrArg (fun u : State => u.trunks[k]) (echoDeadline_below hphase hrun)
  dsimp only at htrunk
  rw [State.setTrunk_get] at htrunk
  rw [echoCharacter_expired hphase hlate]
  exact characterTaken_settling (s := (echoDeadline k s).comeTo (later s.timeBase dt)) (congrArg Trunk.phase htrunk)
    ((congrArg Trunk.state htrunk) ▸ hs) ((congrArg Trunk.watch htrunk).trans hwatch) value fe

end

/-- Settles O39: the echo of a byte before the last, and that of the last. -/
theorem goodEchoSendsPoll : Obligations.GoodEchoSendsPoll := by
  unfold Obligations.GoodEchoSendsPoll
  intro s k dt value poll start echoed turn hreset hphase hturn x now sent hlen hvalue hsent hdue put
  subst hvalue
  have taken := (echoCharacter_inTime hphase (dt := dt) (poll.getD echoed 0#8) false hdue).trans
    (echoTaken_good (s := s.comeTo now) hphase hturn hlen hsent)
  have steps : ∀ u, echoCharacter k dt (poll.getD echoed 0#8) false s = u →
      exec (.echoCharacter k dt (poll.getD echoed 0#8) false) s = .next (u.finish false) :=
    fun u h => h ▸ perform_awake hreset (echoCharacter k dt (poll.getD echoed 0#8) false)
  exact ⟨fun hmore => steps _ (taken.trans (if_neg hmore)), fun hlast => steps _ (taken.trans (if_pos hlast))⟩

/-- Settles O40: the fault by a character and by the deadline, and the stray byte after it. -/
theorem echoFaultRepeatsAttempt : Obligations.EchoFaultRepeatsAttempt := by
  unfold Obligations.EchoFaultRepeatsAttempt
  intro s k poll start echoed hreset hphase hrun x sent due fault
  have faultsAt : ∀ now, (s.comeTo now).echoFault k = fault now :=
    fun now => State.echoFault_below (s := s.comeTo now) hrun
  have expires : echoDeadline k s = fault (s.expiryAt due) := by
    rw [echoDeadline_at hphase, State.advanceTo_eq]
    exact faultsAt _
  refine ⟨fun dt value fe => ?_, (perform_awake hreset (echoDeadline k)).trans (by rw [expires])⟩
  intro now
  have steps : ∀ u, echoCharacter k dt value fe s = u →
      exec (.echoCharacter k dt value fe) s = .next (u.finish false) :=
    fun u h => h ▸ perform_awake hreset (echoCharacter k dt value fe)
  refine ⟨fun turn hturn hgood hfault => steps _ ?_, fun hlate hs hwatch => steps _ ?_⟩
  · have bad : poll.length ≤ echoed ∨ (now - start).toNat < sent ∨ fe = true ∨ byteAt poll echoed ≠ value := by
      obtain h | h | h | h := hfault
      · exact .inl h
      · exact .inr (.inr (.inl h))
      · exact .inr (.inr (.inr h))
      · exact .inr (.inl h)
    rw [echoCharacter_inTime hphase value fe hgood]
    exact (echoTaken_fault (s := s.comeTo now) hphase value fe hturn bad).trans (faultsAt now)
  · rw [echoCharacter_lateBelow hphase hrun hlate hs hwatch, expires]
    rfl

end Sys2Proof.Machine
end

section
/-! The start of a REPLY and its characters before the last (R90, R103, R104). -/

namespace Sys2Proof.Machine

section
variable {s : State} {k : TrunkId}

/-- A REPLY that starts no later than the reply timeout drops it (R103). -/
theorem replyStart_inTime {due : Time} {dt : Nat} (hphase : (s.trunks[k]).phase = .waiting due)
    (hgood : ¬ Before due (later s.timeBase dt)) :
    replyStart k dt s = (s.comeTo (later s.timeBase dt)).setPhase k (.receiving [] none) := by
  have kept : s.lineTo k (later s.timeBase dt) (later s.timeBase dt) = s.comeTo (later s.timeBase dt) := by
    rw [State.lineTo, State.expireBefore_waiting _ _ hphase, if_neg hgood]
  have hphase' : ((s.comeTo (later s.timeBase dt)).trunks[k]).phase = .waiting due := hphase
  unfold replyStart
  rw [hphase]
  dsimp only
  rw [kept, replyStarted, hphase']

/-- A good character that leaves the REPLY incomplete is collected, with a new gap expiry (R104). -/
theorem replyTaken_collects {chars : List Byte} {gap : Option Time} {turn : Turn} {value : Byte} {fe : Bool}
    (hphase : (s.trunks[k]).phase = .receiving chars gap) (hturn : (s.trunks[k]).turn = some turn)
    (hgood : ¬ breaksReply chars value fe = true) (hmore : ¬ replyComplete (chars ++ [value]) = true) :
    replyTaken k value fe s = s.setPhase k
      (.receiving (chars ++ [value]) (some (later s.timeBase (byteTimes (s.trunks[k]).config.rate 2)))) := by
  unfold replyTaken
  rw [hphase, hturn]
  dsimp only
  rw [if_neg hgood, if_neg hmore]

end

/-- A REPLY is complete with the check word that follows the body its length byte announces (R104). -/
theorem replyComplete_iff {chars : List Byte} :
    replyComplete chars = true ↔ 3 ≤ chars.length ∧ 5 + replyLength chars ≤ chars.length := by
  rw [replyComplete, Bool.and_eq_true, decide_eq_true_iff, decide_eq_true_iff]

/-- Settles O42: the start of the REPLY, and each character that leaves it incomplete. -/
theorem replyIsCollected : Obligations.ReplyIsCollected := by
  unfold Obligations.ReplyIsCollected
  intro s k dt hreset x now put
  refine ⟨fun due hphase hgood => ?_, fun chars gap turn value hphase hturn hgap hlead hlength hshort => ?_⟩
  · refine (perform_awake hreset (replyStart k dt)).trans ?_
    rw [replyStart_inTime hphase hgood]
    rfl
  · have good : ¬ breaksReply chars value false = true := by
      rw [breaksReply_iff]
      rintro (h | ⟨hnil, hvalue⟩ | ⟨htwo, hlong⟩)
      · cases h
      · exact hvalue (hlead hnil)
      · exact absurd (hlength htwo) (Nat.not_le.2 hlong)
    have more : ¬ replyComplete (chars ++ [value]) = true := by
      rw [replyComplete_iff, List.length_append, List.length_singleton]
      rintro ⟨hthree, hall⟩
      obtain h | h := hshort
      · omega
      · exact absurd hall (Nat.not_le.2 h)
    refine (perform_awake hreset (replyCharacter k dt value false)).trans ?_
    rw [replyCharacter_inTime hphase hgap value false,
      replyTaken_collects (s := s.comeTo (later s.timeBase dt)) hphase hturn good more]
    rfl

end Sys2Proof.Machine
end

section
/-! The end of the settle gap (R101, R107). -/

namespace Sys2Proof.Machine

section
variable {s : State} {k : TrunkId}

theorem settleEnd_unsettled (h : ∀ due, (s.trunks[k]).phase ≠ .settling due) : settleEnd k s = s := by
  unfold settleEnd
  split
  · exact absurd ‹_› (h _)
  · rfl

variable {due : Time} (hphase : (s.trunks[k]).phase = .settling due)
include hphase

/-- With no attempt due the sequencer rests (R107). -/
theorem settleEnd_rests (h : ∀ turn, (s.trunks[k]).turn = some turn → turn.stage ≠ .polling) :
    settleEnd k s = (s.advanceTo due).setPhase k .idle := by
  unfold settleEnd
  rw [hphase]
  dsimp only
  split
  · exact if_neg (h _ ‹_›)
  · rfl

/-- The attempt due begins, its POLL built from the state as it stands (R101, R107). -/
theorem settleEnd_polls {turn : Turn} {st : Station} (hturn : (s.trunks[k]).turn = some turn)
    (hstage : turn.stage = .polling) (hst : s.roster[turn.slot] = some st) :
    settleEnd k s = (s.advanceTo due).setTrunk k { s.trunks[k] with
      phase := .sending (pollBytes st.address st.baseline (turn.directive.bind s.directives.find)) (s.expiryAt due) 0
      de := true, txMark := false } := by
  unfold settleEnd State.beginPoll
  rw [hphase, hturn]
  dsimp only
  rw [if_pos hstage, State.advanceTo_eq]
  dsimp only
  rw [hst]
  rfl

end

/-- Settles O45: no gap, a gap that ends in rest, and one that ends in the attempt due. -/
theorem settleEndBeginsAttemptOrRests : Obligations.SettleEndBeginsAttemptOrRests := by
  unfold Obligations.SettleEndBeginsAttemptOrRests
  intro s k hreset x
  have steps : ∀ u, settleEnd k s = u → exec (.settleEnd k) s = .next (u.finish false) :=
    fun u h => h ▸ perform_awake hreset (settleEnd k)
  refine ⟨fun h => steps _ (settleEnd_unsettled h), fun due hphase => ?_⟩
  intro now put
  refine ⟨fun h => steps _ ?_, fun turn st hturn hstage hst => ?_⟩
  · rw [settleEnd_rests hphase h, State.advanceTo_eq]
    rfl
  · intro d
    have found : turn.directive.bind s.directives.find = d := by
      dsimp only [d]
      cases turn.directive <;> rfl
    refine steps _ ?_
    rw [settleEnd_polls hphase hturn hstage hst, State.advanceTo_eq, found]
    rfl

end Sys2Proof.Machine
end

section
/-! What an event does to the directive queue and to the stations' directive numbers, said once for each operation
(R111, R112, R114 to R117, R123, R124). -/

namespace Sys2Proof.Machine

/-! ### The queue by its labels -/

/-- What tells the entries of the queue apart: the id, the slot and the number (Table 6-1). -/
def Directive.label (d : Directive) : Nat × StationId × Nat := (d.id, d.slot, d.number)

/-- The labels of the queue, oldest first. -/
def DirectiveQueue.labels (q : DirectiveQueue) : List (Nat × StationId × Nat) := q.entries.map Directive.label

/-- The limits of the queue speak of the labels only (R111, R112). -/
theorem directivesSound_iff (s : State) : DirectivesSound s ↔
    s.directives.labels.length ≤ 32 ∧ (s.directives.labels.map fun l => l.1).Nodup
      ∧ ∀ i : StationId, (s.directives.labels.filter fun l => decide (l.2.1 = i)).length ≤ 4
        ∧ ((s.directives.labels.filter fun l => decide (l.2.1 = i)).map fun l => l.2.2).Nodup := by
  simp only [DirectivesSound, DirectiveQueue.labels, List.filter_map, List.map_map, List.length_map]
  rfl

/-! ### The relation -/

/-- An event between `s` and `t` that makes no new entry: those of `t` are entries of `s` in their order, in whatever
state; the next id and the stations' next numbers stand, or begin anew at 1. -/
structure DirectivesKept (s t : State) : Prop where
  labels : t.directives.labels.Sublist s.directives.labels
  nextId : t.directives.nextId = s.directives.nextId ∨ t.directives.nextId = 1
  nextNumber : ∀ (i : StationId) (b : Station), t.roster[i] = some b →
    b.nextNumber = 1 ∨ ∃ a, s.roster[i] = some a ∧ b.nextNumber = a.nextNumber

namespace DirectivesKept
variable {s t u v : State}

/-- Such an event keeps the limits of the queue (R111, R112). -/
theorem directivesSound (h : DirectivesKept s t) (hs : DirectivesSound s) : DirectivesSound t := by
  rw [directivesSound_iff] at hs ⊢
  obtain ⟨hlength, hids, hstation⟩ := hs
  refine ⟨h.labels.length_le.trans hlength, (h.labels.map _).nodup hids, fun i => ?_⟩
  obtain ⟨hfour, hnumbers⟩ := hstation i
  have fewer := h.labels.filter fun l => decide (l.2.1 = i)
  exact ⟨fewer.length_le.trans hfour, (fewer.map _).nodup hnumbers⟩

/-- And the range of ids and numbers (R112). -/
theorem numberingSound (h : DirectivesKept s t) (hs : NumberingSound s) : NumberingSound t := by
  obtain ⟨hnext, hentries, hstations⟩ := hs
  refine ⟨?_, fun d hd => ?_, fun i b hb => ?_⟩
  · obtain e | e := h.nextId <;> rw [e]
    · exact hnext
    · decide
  · obtain ⟨e, he, hlabel⟩ := List.mem_map.1 (h.labels.subset (List.mem_map_of_mem hd))
    have range := hentries e he
    obtain ⟨hid, -, hnumber⟩ : e.id = d.id ∧ e.slot = d.slot ∧ e.number = d.number := by
      simpa [Directive.label] using hlabel
    rwa [hid, hnumber] at range
  · obtain e | ⟨a, ha, e⟩ := h.nextNumber i b hb <;> rw [e]
    · decide
    · exact hstations i a ha

theorem refl (s : State) : DirectivesKept s s := ⟨.refl _, .inl rfl, fun _ b hb => .inr ⟨b, hb, rfl⟩⟩

theorem trans (h : DirectivesKept s t) (g : DirectivesKept t u) : DirectivesKept s u where
  labels := g.labels.trans h.labels
  nextId := g.nextId.elim (fun e => h.nextId.imp e.trans e.trans) .inr
  nextNumber i b hb := (g.nextNumber i b hb).elim .inl fun ⟨a, ha, e⟩ =>
    (h.nextNumber i a ha).imp e.trans fun ⟨c, hc, e'⟩ => ⟨c, hc, e.trans e'⟩

/-- What leaves the directives and the roster. -/
theorem frame (h : DirectivesKept s u) (hd : v.directives = u.directives) (hr : v.roster = u.roster) :
    DirectivesKept s v :=
  h.trans ⟨hd ▸ .refl _, .inl (by rw [hd]), fun _ b hb => .inr ⟨b, hr ▸ hb, rfl⟩⟩

/-- What writes the entries, and makes no new one. -/
theorem setDirectives (h : DirectivesKept s u) {es : List Directive}
    (hes : (es.map Directive.label).Sublist u.directives.labels) : DirectivesKept s (u.setDirectives es) :=
  h.trans ⟨hes, .inl rfl, fun _ b hb => .inr ⟨b, hb, rfl⟩⟩

/-- What writes a slot of the roster, with the next number it had or anew. -/
theorem setStation (h : DirectivesKept s u) (i : StationId) {x : Option Station}
    (hx : ∀ b, x = some b → b.nextNumber = 1 ∨ ∃ a, u.roster[i] = some a ∧ b.nextNumber = a.nextNumber) :
    DirectivesKept s (u.setStation i x) :=
  h.trans ⟨.refl _, .inl rfl, fun j b hb => by
    rw [State.setStation_roster, get_setAt] at hb
    split at hb
    · subst_vars; exact hx b rfl
    · exact .inr ⟨b, hb, rfl⟩⟩

/-- What changes a station that the slot holds, but not its next number. -/
theorem putStation (h : DirectivesKept s u) {i : StationId} {a b : Station} (ha : u.roster[i] = some a)
    (hb : b.nextNumber = a.nextNumber) : DirectivesKept s (u.setStation i (some b)) :=
  h.setStation i fun c hc => by cases hc; exact .inr ⟨a, ha, hb⟩

theorem mapStation (h : DirectivesKept s u) (i : StationId) {f : Station → Station}
    (hf : ∀ a, (f a).nextNumber = a.nextNumber) : DirectivesKept s (u.mapStation i f) :=
  h.setStation i fun b hb => by
    obtain ⟨a, ha, rfl⟩ := Option.map_eq_some_iff.1 hb
    exact .inr ⟨a, ha, hf a⟩

/-! ### The operations the commands share -/

theorem setTrunk (h : DirectivesKept s u) (k : TrunkId) (x : Trunk) : DirectivesKept s (u.setTrunk k x) :=
  h.frame rfl rfl

theorem setLink (h : DirectivesKept s u) (l : Link) : DirectivesKept s (u.setLink l) := h.frame rfl rfl

theorem setNotices (h : DirectivesKept s u) (q : NoticeQueue) : DirectivesKept s (u.setNotices q) := h.frame rfl rfl

theorem answer (h : DirectivesKept s u) (kind tag : Byte) (status : Status) (results : List Byte) :
    DirectivesKept s (u.answer kind tag status results) := h.setLink _

theorem enter (h : DirectivesKept s u) (kind tag : Byte) : DirectivesKept s (u.enter kind tag) := h.setLink _

theorem raise (h : DirectivesKept s u) (n : Notice) : DirectivesKept s (u.raise n) := h.frame (by simp) (by simp)

theorem advanceTo (h : DirectivesKept s u) (due : Time) : DirectivesKept s (u.advanceTo due) :=
  h.frame (by simp) (by simp)

theorem countStation (h : DirectivesKept s u) (i : StationId) (f : StationCounters → StationCounters) :
    DirectivesKept s (u.countStation i f) := h.mapStation i fun _ => rfl

theorem countTrunk (h : DirectivesKept s u) (k : TrunkId) (f : TrunkCounters → TrunkCounters) :
    DirectivesKept s (u.countTrunk k f) := h.setTrunk k _

theorem setStage (h : DirectivesKept s u) (k : TrunkId) (turn : Turn) (stage : TurnStage) :
    DirectivesKept s (u.setStage k turn stage) := h.setTrunk k _

theorem setPhase (h : DirectivesKept s u) (k : TrunkId) (p : Phase) : DirectivesKept s (u.setPhase k p) :=
  h.setTrunk k _

theorem beginSettling (h : DirectivesKept s u) (k : TrunkId) : DirectivesKept s (u.beginSettling k) := h.setPhase k _

/-- What every step of a fold does, the fold does. -/
theorem foldl {α : Type} {f : State → α → State} (hf : ∀ u a, DirectivesKept s u → DirectivesKept s (f u a)) :
    ∀ (l : List α) {u : State}, DirectivesKept s u → DirectivesKept s (l.foldl f u)
  | [], _, h => h
  | a :: l, _, h => foldl hf l (hf _ a h)

/-! ### Attachment, settlement and aborts (R114 to R119, R123) -/

/-- What changes the entry that holds an id, but not its label. -/
theorem modify (h : DirectivesKept s u) (id : Nat) {f : Directive → Directive} (hf : ∀ d, (f d).label = d.label) :
    DirectivesKept s (u.setDirectives (u.directives.modify id f)) := by
  have same : (u.directives.modify id f).map Directive.label = u.directives.labels := by
    unfold DirectiveQueue.modify DirectiveQueue.labels
    rw [List.map_map]
    refine List.map_congr_left fun d _ => ?_
    rw [Function.comp_apply]
    split
    · exact hf d
    · rfl
  exact h.setDirectives (same ▸ .refl _)

theorem attach (h : DirectivesKept s u) (i : StationId) : DirectivesKept s (u.attach i).2 := by
  unfold State.attach
  split
  · exact h
  · exact h.modify _ fun _ => rfl

theorem without (h : DirectivesKept s u) (id : Nat) : DirectivesKept s (u.setDirectives (u.directives.without id)) :=
  h.setDirectives (List.filter_sublist.map _)

theorem completeDirective (h : DirectivesKept s u) (d : Directive) (outcome : DirectiveOutcome) (result : Byte)
    (attempts : Nat) : DirectivesKept s (u.completeDirective d outcome result attempts) := (h.without d.id).raise _

theorem unacknowledged (h : DirectivesKept s u) (d : Directive) (mark : Bool) :
    DirectivesKept s (u.unacknowledged d mark) := by
  unfold State.unacknowledged
  split
  · split
    · exact h.completeDirective _ _ _ _
    · exact h.modify _ fun _ => rfl
  · exact h.modify _ fun _ => rfl

theorem settle (h : DirectivesKept s u) (turn : Turn) (ack : Option (Byte × Byte)) :
    DirectivesKept s (u.settle turn ack) := by
  unfold State.settle
  split
  · exact h
  · split
    · split
      · exact h.completeDirective _ _ _ _
      · exact h.unacknowledged _ _
    · exact h.unacknowledged _ _

theorem countStray (h : DirectivesKept s u) (turn : Turn) (n : Byte) : DirectivesKept s (u.countStray turn n) := by
  unfold State.countStray
  split
  · exact h.countStation _ _
  · exact h

theorem freeStation (h : DirectivesKept s u) (i : StationId) : DirectivesKept s (u.freeStation i) := by
  have aborted : DirectivesKept s (u.abortDirectives i) := foldl (fun u d h => h.completeDirective d _ _ _) _ h
  exact (aborted.setNotices _).setStation (x := none) i fun _ hb => nomatch hb

/-! ### Stations (R76, R78, R80, R81, R87, R89) -/

theorem completeRemoval (h : DirectivesKept s u) (i : StationId) (st : Station) :
    DirectivesKept s (u.completeRemoval i st) := by
  unfold State.completeRemoval
  split
  · exact (h.freeStation i).answer _ _ _ _
  · exact h.freeStation i

theorem groundStations (h : DirectivesKept s u) (k : TrunkId) : DirectivesKept s (u.groundStations k) := by
  refine foldl (fun u i h => ?_) _ h
  unfold State.groundStation
  split
  · rename_i st hst
    split
    · split
      · exact h.completeRemoval i st
      · refine h.putStation hst ?_
        unfold Station.grounded
        split <;> rfl
    · exact h
  · exact h

theorem wakeStations (h : DirectivesKept s u) (k : TrunkId) : DirectivesKept s (u.wakeStations k) := by
  refine h.trans ⟨.refl _, .inl rfl, fun i b hb => .inr ?_⟩
  have woken : (u.wakeStations k).roster[i] = (u.roster[i]).map (Station.woken k) := by simp [State.wakeStations]
  rw [woken] at hb
  obtain ⟨a, ha, rfl⟩ := Option.map_eq_some_iff.1 hb
  refine ⟨a, ha, ?_⟩
  unfold Station.woken
  split <;> rfl

theorem abandonTurn (h : DirectivesKept s u) (turn : Option Turn) : DirectivesKept s (u.abandonTurn turn) := by
  unfold State.abandonTurn
  split
  · have settled := h.settle ‹Turn› none
    unfold State.abandonStation
    split
    · rename_i hst
      split
      · exact settled.completeRemoval _ _
      · split
        · exact (settled.putStation hst (by rfl)).raise _
        · exact settled
    · exact settled
  · exact h

theorem closeStation (h : DirectivesKept s u) (turn : Turn) (limit : Nat) :
    DirectivesKept s (u.closeStation turn limit) := by
  unfold State.closeStation
  split
  · rename_i hst
    split
    · exact h.completeRemoval _ _
    · extract_lets outcome now closed
      have moved : DirectivesKept s closed := h.putStation hst (by rfl)
      split
      · exact moved
      · exact moved.raise _
  · exact h

theorem discardUnwalked (h : DirectivesKept s u) (i : StationId) (k : TrunkId) :
    DirectivesKept s (State.discardUnwalked i u k) := by
  unfold State.discardUnwalked
  split
  · split
    · exact (h.setTrunk _ _).countStation _ _
    · exact h
  · exact h

theorem restartStation (h : DirectivesKept s u) (i : StationId) : DirectivesKept s (u.restartStation i) :=
  (h.mapStation i (by exact fun _ => rfl)).raise _

theorem acceptRecord (h : DirectivesKept s u) (i : StationId) (seq : Byte) (gap : Nat) :
    DirectivesKept s (u.acceptRecord i seq gap) := by
  unfold State.acceptRecord
  extract_lets moved
  have moved : DirectivesKept s moved := h.mapStation i fun _ => rfl
  split
  · exact moved
  · exact moved.raise _

end DirectivesKept
end Sys2Proof.Machine
end

section
/-! The trunks, the requests and the record's way, on the directive queue and the stations' directive numbers. -/

namespace Sys2Proof.Machine.DirectivesKept
variable {s u : State}

/-! ### Rounds, stops and faults (R73, R95 to R98) -/

theorem endRoundIfDone (h : DirectivesKept s u) (k : TrunkId) : DirectivesKept s (u.endRoundIfDone k) :=
  h.frame (by simp) (by simp)

theorem answerStop (h : DirectivesKept s u) (tag : Option Byte) (state : TrunkState) :
    DirectivesKept s (u.answerStop tag state) := h.frame (by simp) (by simp)

theorem completeStop (h : DirectivesKept s u) (k : TrunkId) : DirectivesKept s (u.completeStop k) :=
  (((h.setTrunk k _).groundStations k).answerStop _ _).raise _

theorem stopFaulted (h : DirectivesKept s u) (k : TrunkId) : DirectivesKept s (u.stopFaulted k) :=
  (h.setTrunk k _).raise _

theorem faultTrunk (h : DirectivesKept s u) (k : TrunkId) : DirectivesKept s (u.faultTrunk k) := by
  unfold State.faultTrunk
  dsimp only
  split
  · exact (((((h.abandonTurn _).setTrunk k _).groundStations k).raise _).answerStop _ _).stopFaulted k
  · exact ((((h.abandonTurn _).setTrunk k _).groundStations k).raise _).answerStop _ _

theorem beginStop (h : DirectivesKept s u) (k : TrunkId) (tag : Option Byte) :
    DirectivesKept s (u.beginStop k tag) := by
  unfold State.beginStop
  dsimp only
  split
  · exact (h.setTrunk k _).completeStop k
  · exact h.setTrunk k _

theorem closeStopTrunk (h : DirectivesKept s u) (k : TrunkId) : DirectivesKept s (u.closeStopTrunk k) := by
  unfold State.closeStopTrunk
  split
  · exact h.stopFaulted k
  · exact h.beginStop k none
  all_goals exact h

theorem runTrunk (h : DirectivesKept s u) (k : TrunkId) (w : StartWatch) (due : Time) :
    DirectivesKept s (u.runTrunk k w due) :=
  (((((h.advanceTo due).setTrunk k _).wakeStations k).setTrunk k _).answer _ _ _ _).raise _

theorem failStart (h : DirectivesKept s u) (k : TrunkId) (w : StartWatch) : DirectivesKept s (u.failStart k w) :=
  (((h.advanceTo w.limit).setTrunk k _).answer _ _ _ _).raise _

/-! ### The poll turn (R71, R100 to R107) -/

theorem beginPoll (h : DirectivesKept s u) (k : TrunkId) (turn : Turn) : DirectivesKept s (u.beginPoll k turn) := by
  unfold State.beginPoll
  split
  · exact h.setTrunk k _
  · exact h

theorem turnBegin (h : DirectivesKept s u) (k : TrunkId) : DirectivesKept s (turnBegin k u) := by
  have skips : ∀ r places, DirectivesKept s (u.skipPlace k r places) := fun _ _ => (h.setTrunk k _).endRoundIfDone k
  unfold Machine.turnBegin
  split
  · split
    · exact h.setTrunk k _
    · split
      · split
        · exact ((h.attach _).setTrunk k _).beginPoll k _
        · exact skips _ _
      · exact skips _ _
  · exact h

theorem echoFault (h : DirectivesKept s u) (k : TrunkId) : DirectivesKept s (u.echoFault k) := by
  unfold State.echoFault
  dsimp only
  split
  · exact (h.setTrunk k _).faultTrunk k
  · exact (h.setTrunk k _).beginSettling k

theorem echoTaken (h : DirectivesKept s u) (k : TrunkId) (b : Byte) (fe : Bool) :
    DirectivesKept s (echoTaken k b fe u) := by
  unfold Machine.echoTaken
  dsimp only
  split
  · split
    · exact h.echoFault k
    · split
      · exact h.setTrunk k _
      · exact h.setPhase k _
  · exact h

theorem echoDeadline (h : DirectivesKept s u) (k : TrunkId) : DirectivesKept s (echoDeadline k u) := by
  unfold Machine.echoDeadline
  dsimp only
  split
  · exact (h.advanceTo _).echoFault k
  · exact h

theorem failAttempt (h : DirectivesKept s u) (k : TrunkId) (turn : Turn) :
    DirectivesKept s (u.failAttempt k turn) := by
  unfold State.failAttempt
  dsimp only
  split
  · exact (h.setTrunk k _).beginSettling k
  · exact (((h.beginSettling k).setStage k turn _).countStation _ _).settle turn none

theorem replyTimeout (h : DirectivesKept s u) (k : TrunkId) : DirectivesKept s (replyTimeout k u) := by
  unfold Machine.replyTimeout
  split
  · exact ((h.advanceTo _).countTrunk k _).failAttempt k _
  · exact h

theorem breakReply (h : DirectivesKept s u) (k : TrunkId) (turn : Turn) : DirectivesKept s (u.breakReply k turn) :=
  (h.countTrunk k _).failAttempt k turn

theorem gapExpiry (h : DirectivesKept s u) (k : TrunkId) : DirectivesKept s (gapExpiry k u) := by
  unfold Machine.gapExpiry
  split
  · exact (h.advanceTo _).breakReply k _
  · exact h

theorem layOut (h : DirectivesKept s u) (k : TrunkId) (turn : Turn) (rs : List ReplyRecord) :
    DirectivesKept s (u.layOut k turn rs) := by
  unfold State.layOut
  split
  · split
    · exact (h.setStage k turn _).countStation _ _
    · exact h.setStage k turn _
  · exact h.setStage k turn _

theorem endAsHit (h : DirectivesKept s u) (k : TrunkId) (turn : Turn) (frame : ReplyFrame) :
    DirectivesKept s (u.endAsHit k turn frame) := by
  unfold State.endAsHit
  extract_lets counted settled
  have counted : DirectivesKept s counted :=
    ((h.countTrunk k _).beginSettling k).mapStation turn.slot (by exact fun _ => rfl)
  have settled : DirectivesKept s settled := (counted.countStray turn frame.ack).settle turn _
  split
  · exact (settled.restartStation turn.slot).layOut k turn _
  · exact settled.layOut k turn _

theorem completeReply (h : DirectivesKept s u) (k : TrunkId) (turn : Turn) (chars : List Byte) :
    DirectivesKept s (u.completeReply k turn chars) := by
  unfold State.completeReply
  split
  · exact (h.countTrunk k _).failAttempt k turn
  · exact (h.countTrunk k _).failAttempt k turn
  · exact h.breakReply k turn
  · exact h.endAsHit k turn _

theorem replyTaken (h : DirectivesKept s u) (k : TrunkId) (b : Byte) (fe : Bool) :
    DirectivesKept s (replyTaken k b fe u) := by
  unfold Machine.replyTaken
  split
  · split
    · exact h.breakReply k _
    · split
      · exact h.completeReply k _ _
      · exact h.setPhase k _
  · exact h

theorem settleEnd (h : DirectivesKept s u) (k : TrunkId) : DirectivesKept s (settleEnd k u) := by
  unfold Machine.settleEnd
  split
  · split
    · split
      · exact (h.advanceTo _).beginPoll k _
      · exact (h.advanceTo _).setPhase k _
    · exact (h.advanceTo _).setPhase k _
  · exact h

theorem turnClose (h : DirectivesKept s u) (k : TrunkId) : DirectivesKept s (turnClose k u) := by
  unfold Machine.turnClose
  split
  · split
    · have closed := (h.closeStation ‹Turn› (u.trunks[k]).config.missLimit).setTrunk k
        { (u.closeStation ‹Turn› (u.trunks[k]).config.missLimit).trunks[k] with turn := none }
      unfold State.turnClosed
      split
      · exact closed.completeStop k
      · exact closed.endRoundIfDone k
      · exact closed
    · exact h
  · exact h

/-! ### Events that leave the queue and the roster (R70, R94, R103, R108) -/

theorem roundStart (h : DirectivesKept s u) (k : TrunkId) : DirectivesKept s (roundStart k u) := by
  unfold Machine.roundStart
  split
  · exact (h.advanceTo _).setTrunk k _
  · exact h

theorem replyStarted (h : DirectivesKept s u) (k : TrunkId) : DirectivesKept s (replyStarted k u) := by
  unfold Machine.replyStarted
  split
  · exact h.setPhase k _
  · exact h

theorem strayTaken (h : DirectivesKept s u) (k : TrunkId) (b : Byte) (fe : Bool) :
    DirectivesKept s (strayTaken k b fe u) := by
  unfold Machine.strayTaken
  dsimp only
  split
  · exact h.setTrunk k _
  · exact h

theorem lineWentLow (h : DirectivesKept s u) (k : TrunkId) (lowFor : Nat) :
    DirectivesKept s (lineWentLow k lowFor u) := by
  unfold Machine.lineWentLow
  split
  · exact h.setTrunk k _
  · exact h

/-! ### The record's way (R79 to R82) -/

theorem outcome (h : DirectivesKept s u) (actedUpon : Bool) (generation : Nat) (applied : List RuleId) :
    DirectivesKept s (u.outcome actedUpon generation applied) := h.frame rfl rfl

theorem sequenceCheck (h : DirectivesKept s u) (k : TrunkId) : DirectivesKept s (sequenceCheck k u) := by
  unfold Machine.sequenceCheck
  split
  · split
    · split
      · exact (h.setStage k _ _).countStation _ _
      · unfold State.screen
        dsimp only
        split
        · exact (((h.setStage k _ _).setLink _).outcome _ _ _).acceptRecord _ _ _
        · exact (h.setStage k _ _).setLink _
    · exact h
  · exact h

theorem admissionStep (h : DirectivesKept s u) (k : TrunkId) : DirectivesKept s (admissionStep k u) := by
  unfold Machine.admissionStep
  split
  · rename_i turn _
    split
    · rename_i stamp todo x _
      have taken : DirectivesKept s (u.takeAdmission x.record x.channels).2 := h.frame (by simp) (by simp)
      unfold State.afterAdmission
      split
      · exact ((taken.setStage k turn _).outcome _ _ _).countStation _ _
      all_goals exact ((taken.setStage k turn _).outcome _ _ _).acceptRecord _ _ _
    · exact h
  · exact h

/-! ### Requests (R67, R68, R84 to R87, R92, R93, R95, R110, R120, R124, R159) -/

theorem countersRead (h : DirectivesKept s u) (tag : Byte) (body : List Byte) :
    DirectivesKept s (countersRead tag body u) := by
  have clear : ∀ m, DirectivesKept s (u.clearCounters m) := fun m => by
    cases m with
    | channel c => exact h.frame rfl rfl
    | trunk t => exact h.countTrunk t fun _ => .zero
    | station i st => exact h.countStation i fun _ => .zero
    | link => exact h.setLink _
  unfold Machine.countersRead
  split
  · exact h.answer _ _ _ _
  · refine DirectivesKept.answer ?_ _ _ _ _
    split
    · exact clear _
    · exact h

/-- A new station's next number is 1 (R67, Table 4-1). -/
theorem stationAdd (h : DirectivesKept s u) (tag : Byte) (body : List Byte) :
    DirectivesKept s (stationAdd tag body u) := by
  have seats : ∀ i k address pollClass running n, DirectivesKept s
      { u.setStation i (some (Station.fresh k address pollClass running n)) with nextSerial := u.nextSerial + 1 } :=
    fun i _ _ _ _ _ => (h.setStation i fun b hb => by cases hb; exact .inl rfl).frame rfl rfl
  unfold Machine.stationAdd
  split
  · split
    · exact h.answer _ _ _ _
    · split
      · exact h.answer _ _ _ _
      · split
        · exact h.answer _ _ _ _
        · exact (seats _ _ _ _ _ _).answer _ _ _ _
  · exact h.answer _ _ _ _

theorem stationSet (h : DirectivesKept s u) (tag : Byte) (body : List Byte) :
    DirectivesKept s (stationSet tag body u) := by
  unfold Machine.stationSet
  split
  · exact h.answer _ _ _ _
  · obtain ⟨hst, -, -⟩ := State.rosterCheck_ok ‹_›
    split
    · exact h.answer _ _ _ _
    · exact (h.putStation hst (by rfl)).answer _ _ _ _

theorem stationSuspend (h : DirectivesKept s u) (tag : Byte) (body : List Byte) :
    DirectivesKept s (stationSuspend tag body u) := by
  unfold Machine.stationSuspend
  split
  · exact h.answer _ _ _ _
  · obtain ⟨hst, -, -⟩ := State.rosterCheck_ok ‹_›
    refine (h.putStation hst ?_).answer _ _ _ _
    split <;> rfl

theorem stationResume (h : DirectivesKept s u) (tag : Byte) (body : List Byte) :
    DirectivesKept s (stationResume tag body u) := by
  unfold Machine.stationResume
  split
  · exact h.answer _ _ _ _
  · obtain ⟨hst, -, -⟩ := State.rosterCheck_ok ‹_›
    split
    · exact (h.putStation hst (by rfl)).answer _ _ _ _
    · exact h.answer _ _ _ _

theorem stationRemove (h : DirectivesKept s u) (tag : Byte) (body : List Byte) :
    DirectivesKept s (stationRemove tag body u) := by
  unfold Machine.stationRemove
  split
  · exact h.answer _ _ _ _
  · obtain ⟨hst, -, -⟩ := State.rosterCheck_ok ‹_›
    split
    · exact foldl (fun u k h => h.discardUnwalked _ k) _ (h.putStation hst (by rfl))
    · exact (h.freeStation _).answer _ _ _ _

theorem trunkConfig (h : DirectivesKept s u) (tag : Byte) (body : List Byte) :
    DirectivesKept s (trunkConfig tag body u) := by
  unfold Machine.trunkConfig
  split
  · split
    iterate 2 exact (h.setTrunk _ _).answer _ _ _ _
    all_goals exact h.answer _ _ _ _
  · exact h.answer _ _ _ _

theorem trunkStart (h : DirectivesKept s u) (tag : Byte) (body : List Byte) :
    DirectivesKept s (trunkStart tag body u) := by
  unfold Machine.trunkStart
  split
  · split
    iterate 2 exact h.setTrunk _ _
    all_goals exact h.answer _ _ _ _
  · exact h.answer _ _ _ _

theorem abortStart (h : DirectivesKept s u) (k : TrunkId) : DirectivesKept s (u.abortStart k) := by
  unfold State.abortStart
  dsimp only
  split
  · exact (h.setTrunk k _).answer _ _ _ _
  · exact h.setTrunk k _

theorem trunkStop (h : DirectivesKept s u) (tag : Byte) (body : List Byte) :
    DirectivesKept s (trunkStop tag body u) := by
  unfold Machine.trunkStop
  split
  · split
    · exact h.answer _ _ _ _
    · exact ((h.abortStart _).answer _ _ _ _).raise _
    · exact h.beginStop _ _
    · exact h.answer _ _ _ _
    · exact (h.stopFaulted _).answer _ _ _ _
  · exact h.answer _ _ _ _

theorem directiveCancel (h : DirectivesKept s u) (tag : Byte) (body : List Byte) :
    DirectivesKept s (directiveCancel tag body u) := by
  unfold Machine.directiveCancel
  split
  · exact h.answer _ _ _ _
  · split
    · exact h.answer _ _ _ _
    · split
      · exact h.answer _ _ _ _
      all_goals exact (h.without _).answer _ _ _ _

theorem closeStopStep (h : DirectivesKept s u) : DirectivesKept s (closeStopStep u) := by
  unfold Machine.closeStopStep
  split
  · split
    · exact foldl (fun u k h => h.closeStopTrunk k) _ (h.setLink _)
    · exact h
  · exact h

/-- The directive step of a close empties the queue (R124). -/
theorem closeDirectiveStep (h : DirectivesKept s u) : DirectivesKept s (closeDirectiveStep u) := by
  have flushStep : ∀ v : State, v.flushStep.directives = v.directives ∧ v.flushStep.roster = v.roster := fun v =>
    ⟨foldl_keeps _ _ (fun v c => by simp [State.flushChannel]) _ v,
      foldl_keeps _ _ (fun v c => by simp [State.flushChannel]) _ v⟩
  have emptied : DirectivesKept s (u.setDirectives []) := h.setDirectives (List.nil_sublist _)
  obtain ⟨hd, hr⟩ := flushStep (u.setDirectives [])
  have flushed : DirectivesKept s (u.setDirectives []).flushStep := emptied.frame hd hr
  unfold Machine.closeDirectiveStep
  split
  · split
    · exact (flushed.setNotices _).setLink _
    · exact h
  · exact h

/-! ### Resets (R111, R143, R144) -/

/-- Reset leaves no entry and no station, and the next id is 1. -/
theorem of_reset (hd : u.directives = .reset) (hr : u.roster = State.reset.roster) : DirectivesKept s u where
  labels := hd ▸ List.nil_sublist _
  nextId := .inr (by rw [hd]; rfl)
  nextNumber i b hb := by
    have empty : u.roster[i] = none := by rw [hr]; simp [State.reset]
    cases empty.symm.trans hb

/-- The completion of a message (R139, R143). -/
theorem messageSent (h : DirectivesKept s u) (m : Transmission) : DirectivesKept s (u.messageSent m) := by
  unfold State.messageSent State.completed
  split
  · split
    · exact of_reset rfl rfl
    · exact h.frame rfl rfl
  · exact h.setLink _
  · exact h.frame (by simp) (by simp)

end Sys2Proof.Machine.DirectivesKept
end

section
/-! DIRECTIVE_SUBMIT: the id and the number of a new entry, and the queue and the roster it leaves (R112, R113). -/

namespace Sys2Proof.Machine

/-! ### The new id and the new number (R112) -/

/-- A search that steps through a cycle from a value in it ends in it. -/
theorem firstUnused_range {m : Nat} {next : Nat → Nat} (hn : ∀ v, next v = if v = m then 1 else v + 1)
    (used : List Nat) (fuel : Nat) {v : Nat} (h1 : 1 ≤ v) (hm : v ≤ m) :
    1 ≤ firstUnused next used fuel v ∧ firstUnused next used fuel v ≤ m := by
  obtain ⟨k, hk, -⟩ := firstUnused_walk next used fuel v
  rw [hk]
  exact wrapping_range hn h1 hm k

section
variable {q : DirectiveQueue} {i : StationId} {next : Nat}

theorem DirectiveQueue.newId_fresh (h : q.entries.length < 32) : ∀ d ∈ q.entries, d.id ≠ q.newId := by
  have fresh := unused_fresh (m := 65535) (next := nextDirectiveId) (by decide) (fun _ => rfl)
    (q.entries.map Directive.id) q.nextId (by rw [List.length_map]; omega)
  rw [List.length_map] at fresh
  exact fun d hd e => fresh (List.mem_map.2 ⟨d, hd, e⟩)

theorem DirectiveQueue.newId_walk : ∃ j, q.newId = nextDirectiveId^[j] q.nextId
    ∧ ∀ j' < j, ∃ d ∈ q.entries, d.id = nextDirectiveId^[j'] q.nextId := by
  obtain ⟨j, hj, hused⟩ :=
    firstUnused_walk nextDirectiveId (q.entries.map Directive.id) (q.entries.length + 1) q.nextId
  exact ⟨j, hj, fun j' h => List.mem_map.1 (hused j' h)⟩

theorem DirectiveQueue.newId_range (h1 : 1 ≤ q.nextId) (hm : q.nextId ≤ 65535) : 1 ≤ q.newId ∧ q.newId ≤ 65535 :=
  firstUnused_range (next := nextDirectiveId) (fun _ => rfl) _ _ h1 hm

theorem DirectiveQueue.mem_ofStation {d : Directive} : d ∈ q.ofStation i ↔ d ∈ q.entries ∧ d.slot = i := by
  simp [DirectiveQueue.ofStation]

theorem DirectiveQueue.newNumber_fresh (h : (q.ofStation i).length < 4) :
    ∀ d ∈ q.entries, d.slot = i → d.number ≠ q.newNumber i next := by
  have fresh := unused_fresh (m := 63) (next := nextDirectiveNumber) (by decide) (fun _ => rfl)
    ((q.ofStation i).map Directive.number) next (by rw [List.length_map]; omega)
  rw [List.length_map] at fresh
  exact fun d hd hslot e => fresh (List.mem_map.2 ⟨d, mem_ofStation.2 ⟨hd, hslot⟩, e⟩)

theorem DirectiveQueue.newNumber_walk : ∃ k, q.newNumber i next = nextDirectiveNumber^[k] next
    ∧ ∀ k' < k, ∃ d ∈ q.entries, d.slot = i ∧ d.number = nextDirectiveNumber^[k'] next := by
  obtain ⟨k, hk, hused⟩ :=
    firstUnused_walk nextDirectiveNumber ((q.ofStation i).map Directive.number) ((q.ofStation i).length + 1) next
  refine ⟨k, hk, fun k' h => ?_⟩
  obtain ⟨d, hd, e⟩ := List.mem_map.1 (hused k' h)
  obtain ⟨hmem, hslot⟩ := mem_ofStation.1 hd
  exact ⟨d, hmem, hslot, e⟩

theorem DirectiveQueue.newNumber_range (h1 : 1 ≤ next) (hm : next ≤ 63) :
    1 ≤ q.newNumber i next ∧ q.newNumber i next ≤ 63 :=
  firstUnused_range (next := nextDirectiveNumber) (fun _ => rfl) _ _ h1 hm

end

/-! ### What DIRECTIVE_SUBMIT does (R113) -/

/-- The part with the new entry of slot `i` queued; the next id and the station's next number follow those it took. -/
def State.submitted (s : State) (i : StationId) (st : Station) (body : List Byte) : State :=
  let d := s.directives.newEntry i st.nextNumber body
  { s with
    directives := { entries := s.directives.entries ++ [d], nextId := nextDirectiveId d.id }
    roster := setAt s.roster i (some { st with nextNumber := nextDirectiveNumber d.number }) }

section
variable {s : State} {tag : Byte} {body : List Byte}

theorem directiveSubmit_error {status : Status} (h : s.rosterCheck (byteAt body 0) = .error status) :
    directiveSubmit tag body s = s.answer 0x30#8 tag status [] := by
  rw [directiveSubmit, h]

variable {i : StationId} {st : Station} (h : s.rosterCheck (byteAt body 0) = .ok (i, st))
include h

theorem directiveSubmit_badArg (hbody : submitBodyGood body = false) :
    directiveSubmit tag body s = s.answer 0x30#8 tag .badArg [] := by
  rw [directiveSubmit, h]
  exact if_pos (by rw [hbody]; rfl)

variable (hbody : submitBodyGood body = true)
include hbody

theorem directiveSubmit_noRoom (hfull : 32 ≤ s.directives.entries.length ∨ 4 ≤ (s.directives.ofStation i).length) :
    directiveSubmit tag body s = s.answer 0x30#8 tag .noRoom [] := by
  rw [directiveSubmit, h]
  dsimp only
  rw [if_neg (by rw [hbody]; decide)]
  by_cases hall : 32 ≤ s.directives.entries.length
  · exact if_pos hall
  · exact (if_neg hall).trans (if_pos (hfull.resolve_left hall))

theorem directiveSubmit_ok (hall : s.directives.entries.length < 32)
    (hstation : (s.directives.ofStation i).length < 4) :
    directiveSubmit tag body s = (s.submitted i st body).answer 0x30#8 tag .ok
      (le16 s.directives.newId ++ [byteOf (s.directives.newNumber i st.nextNumber)]) := by
  obtain ⟨hst, -, -⟩ := State.rosterCheck_ok h
  rw [directiveSubmit, h]
  dsimp only
  rw [if_neg (by rw [hbody]; decide), if_neg (show ¬ Config.maxDirectives ≤ _ from Nat.not_le.2 hall),
    if_neg (show ¬ Config.maxStationDirectives ≤ _ from Nat.not_le.2 hstation),
    State.mapStation_of_some (st := st) (by exact hst)]
  rfl

end

/-- All that DIRECTIVE_SUBMIT can do: a refusal, or a new entry with room for it in the queue (R113). -/
theorem directiveSubmit_cases (tag : Byte) (body : List Byte) (s : State) :
    (∃ status, directiveSubmit tag body s = s.answer 0x30#8 tag status [])
      ∨ ∃ i st results, s.roster[i] = some st ∧ s.directives.entries.length < 32
        ∧ (s.directives.ofStation i).length < 4
        ∧ directiveSubmit tag body s = (s.submitted i st body).answer 0x30#8 tag .ok results := by
  cases hcheck : s.rosterCheck (byteAt body 0) with
  | error status => exact .inl ⟨_, directiveSubmit_error hcheck⟩
  | ok found =>
    obtain ⟨i, st⟩ := found
    obtain ⟨hst, -, -⟩ := State.rosterCheck_ok hcheck
    cases hbody : submitBodyGood body with
    | false => exact .inl ⟨_, directiveSubmit_badArg hcheck hbody⟩
    | true =>
      by_cases hfull : 32 ≤ s.directives.entries.length ∨ 4 ≤ (s.directives.ofStation i).length
      · exact .inl ⟨_, directiveSubmit_noRoom hcheck hbody hfull⟩
      · obtain ⟨hall, hstation⟩ := not_or.1 hfull
        exact .inr ⟨i, st, _, hst, Nat.not_le.1 hall, Nat.not_le.1 hstation,
          directiveSubmit_ok hcheck hbody (Nat.not_le.1 hall) (Nat.not_le.1 hstation)⟩

/-! ### What it keeps (R111, R112) -/

theorem nodup_map_append_singleton {α β : Type} {f : α → β} {l : List α} {a : α} (h : (l.map f).Nodup)
    (hnew : ∀ x ∈ l, f x ≠ f a) : ((l ++ [a]).map f).Nodup := by
  rw [← List.concat_eq_append, List.map_concat, List.nodup_concat]
  exact ⟨fun hmem => (List.mem_map.1 hmem).elim fun x hx => hnew x hx.1 hx.2, h⟩

/-- A queue with room for it takes an entry whose id no entry holds, and whose number none of its station holds. -/
theorem DirectivesSound.append {s t : State} (hs : DirectivesSound s) {d : Directive}
    (ht : t.directives.entries = s.directives.entries ++ [d]) (hall : s.directives.entries.length < 32)
    (hstation : (s.directives.ofStation d.slot).length < 4) (hid : ∀ e ∈ s.directives.entries, e.id ≠ d.id)
    (hnumber : ∀ e ∈ s.directives.entries, e.slot = d.slot → e.number ≠ d.number) : DirectivesSound t := by
  obtain ⟨-, hids, hstations⟩ := hs
  unfold DirectivesSound
  rw [ht]
  refine ⟨by rw [List.length_append]; exact hall, nodup_map_append_singleton hids hid, fun i => ?_⟩
  rw [List.filter_append]
  by_cases hslot : d.slot = i
  · subst hslot
    rw [List.filter_singleton, decide_eq_true rfl, cond_true]
    obtain ⟨-, hnumbers⟩ := hstations d.slot
    refine ⟨by rw [List.length_append]; exact hstation, nodup_map_append_singleton hnumbers fun e he => ?_⟩
    obtain ⟨hmem, hsame⟩ := DirectiveQueue.mem_ofStation.1 he
    exact hnumber e hmem hsame
  · rw [List.filter_singleton, decide_eq_false hslot, cond_false, List.append_nil]
    exact hstations i

section
variable {s : State} {i : StationId} {st : Station} (body : List Byte)

theorem State.submitted_directivesSound (hs : DirectivesSound s) (hall : s.directives.entries.length < 32)
    (hstation : (s.directives.ofStation i).length < 4) : DirectivesSound (s.submitted i st body) :=
  hs.append (d := s.directives.newEntry i st.nextNumber body) rfl hall hstation (DirectiveQueue.newId_fresh hall)
    (DirectiveQueue.newNumber_fresh hstation)

theorem State.submitted_numberingSound (hs : NumberingSound s) (hst : s.roster[i] = some st) :
    NumberingSound (s.submitted i st body) := by
  obtain ⟨⟨hnext, hlast⟩, hentries, hstations⟩ := hs
  obtain ⟨hone, hmax⟩ := hstations i st hst
  obtain ⟨hid, hid'⟩ := DirectiveQueue.newId_range (q := s.directives) hnext hlast
  obtain ⟨hnumber, hnumber'⟩ := DirectiveQueue.newNumber_range (q := s.directives) (i := i) hone hmax
  refine ⟨wrapping_range (next := nextDirectiveId) (fun _ => rfl) hid hid' 1, fun d hd => ?_, fun j b hb => ?_⟩
  · obtain hd | hd := List.mem_append.1 hd
    · exact hentries d hd
    · rw [List.mem_singleton.1 hd]
      exact ⟨hid, hid', hnumber, hnumber'⟩
  · unfold State.submitted at hb
    dsimp only at hb
    rw [get_setAt] at hb
    split at hb
    · cases hb
      exact wrapping_range (next := nextDirectiveNumber) (fun _ => rfl) hnumber hnumber' 1
    · exact hstations j b hb

end

end Sys2Proof.Machine
end

section
/-! Every step keeps the limits of the directive queue, and ids and numbers distinct and in range (R111, R112). -/

namespace Sys2Proof.Machine

/-! ### Work beside the directive queue -/

section
variable (tag : Byte) (body : List Byte) (s : State)

theorem linkOpen_directives : (linkOpen tag body s).directives = s.directives := by
  unfold linkOpen
  split
  · rfl
  · split <;> rfl

theorem noticeMask_directives : (noticeMask tag body s).directives = s.directives := by
  unfold noticeMask; split <;> rfl

theorem ruleWrite_directives : (ruleWrite tag body s).directives = s.directives := by
  unfold ruleWrite; split <;> rfl

theorem ruleErase_directives : (ruleErase tag body s).directives = s.directives := by
  unfold ruleErase; split <;> rfl

theorem setWrite_directives : (setWrite tag body s).directives = s.directives := by
  unfold setWrite; split <;> rfl

theorem defaultWrite_directives : (defaultWrite tag body s).directives = s.directives := by
  unfold defaultWrite; split <;> rfl

theorem ruleCommit_directives : (ruleCommit tag body s).directives = s.directives := by
  unfold ruleCommit; split <;> rfl

theorem ruleRead_directives : (ruleRead tag body s).directives = s.directives := by
  unfold ruleRead; split <;> rfl

theorem channelEnable_directives : (channelEnable tag body s).directives = s.directives := by
  unfold channelEnable
  split
  · dsimp only
    split
    · rfl
    · split <;> rfl
  · rfl

theorem channelDisable_directives : (channelDisable tag body s).directives = s.directives := by
  unfold channelDisable; split <;> simp

theorem channelCredit_directives : (channelCredit tag body s).directives = s.directives := by
  unfold channelCredit
  split
  · dsimp only
    split
    · rfl
    · split <;> rfl
  · rfl

theorem channelFlush_directives : (channelFlush tag body s).directives = s.directives := by
  unfold channelFlush; split <;> simp

theorem channelQuery_directives : (channelQuery tag body s).directives = s.directives := by
  unfold channelQuery; split <;> rfl

theorem stationQuery_directives : (stationQuery tag body s).directives = s.directives := by
  unfold stationQuery; split <;> rfl

theorem trunkQuery_directives : (trunkQuery tag body s).directives = s.directives := by
  unfold trunkQuery; split <;> rfl

theorem directiveQuery_directives : (directiveQuery tag body s).directives = s.directives := by
  unfold directiveQuery
  split
  · rfl
  · split <;> rfl

theorem closeEnd_directives : (closeEnd s).directives = s.directives := by
  unfold closeEnd
  split
  · split <;> rfl
  · rfl

theorem holdExpiry_directives (c : ChannelId) : (holdExpiry c s).directives = s.directives := by
  unfold holdExpiry; split <;> simp

end

/-! ### The two invariants -/

/-- Between `s` and `t` each of the two invariants of the directives is kept. -/
structure QueueSound (s t : State) : Prop where
  directives : DirectivesSound s → DirectivesSound t
  numbering : NumberingSound s → NumberingSound t

theorem DirectivesKept.sound {s t : State} (h : DirectivesKept s t) : QueueSound s t :=
  ⟨h.directivesSound, h.numberingSound⟩

/-- A request that leaves the queue and the roster, with the slot of the table it took (R134). -/
theorem QueueSound.entered {s : State} {kind tag : Byte} {owner : State → State}
    (hd : (owner (s.enter kind tag)).directives = (s.enter kind tag).directives)
    (hr : OffField (s.enter kind tag) (owner (s.enter kind tag))) : QueueSound s (owner (s.enter kind tag)) :=
  (((DirectivesKept.refl s).enter kind tag).frame hd hr.roster).sound

/-- What leaves the queue and the roster keeps both. -/
theorem QueueSound.of_eq {s t : State} (hd : t.directives = s.directives) (hr : t.roster = s.roster) :
    QueueSound s t := ((DirectivesKept.refl s).frame hd hr).sound

theorem QueueSound.of_reset {s t : State} (hd : t.directives = .reset) (hr : t.roster = State.reset.roster) :
    QueueSound s t := (DirectivesKept.of_reset hd hr).sound

/-- DIRECTIVE_SUBMIT alone makes an entry, where there is room for it (R113). -/
theorem directiveSubmit_queueSound (tag : Byte) (body : List Byte) (s : State) :
    QueueSound s (directiveSubmit tag body s) := by
  obtain ⟨status, h⟩ | ⟨i, st, results, hst, hall, hstation, h⟩ := directiveSubmit_cases tag body s <;> rw [h]
  · exact .of_eq rfl rfl
  · have answered := (DirectivesKept.refl (s.submitted i st body)).answer 0x30#8 tag .ok results
    exact ⟨fun hs => answered.directivesSound (State.submitted_directivesSound body hs hall hstation),
      fun hs => answered.numberingSound (State.submitted_numberingSound body hs hst)⟩

/-- Every part of a step keeps both invariants of the directives. -/
theorem queueSound_effects : Effects QueueSound where
  refl s := (DirectivesKept.refl s).sound
  trans _ _ _ h g := ⟨fun hs => g.directives (h.directives hs), fun hs => g.numbering (h.numbering hs)⟩
  elapse _ _ _ := .of_eq rfl rfl
  comeTo _ _ _ := .of_eq rfl rfl
  finish _ _ := .of_eq (by simp) (by simp)
  drivePins _ := .of_eq rfl rfl
  resetAssert _ := .of_reset rfl rfl
  resetRelease _ _ _ := by
    unfold resetRelease
    split
    · exact .of_reset rfl rfl
    · exact .of_eq rfl rfl
  holdAssert _ _ := by
    unfold holdAssert
    split <;> exact .of_eq rfl rfl
  holdRelease _ := .of_eq rfl rfl
  hcsHigh _ := .of_eq rfl rfl
  exchange _ _ _ := by
    unfold State.exchange
    split
    · exact .of_eq rfl rfl
    · split <;> exact .of_eq rfl rfl
  receive _ _ _ := .of_eq rfl rfl
  countLink _ _ _ := .of_eq rfl rfl
  refuse _ _ _ _ _ := .of_eq (by simp) (by simp)
  linkOpen _ _ _ _ _ _ := .entered (linkOpen_directives _ _ _) (linkOpen_offField _ _ _)
  partReset _ _ _ _ := .of_eq rfl rfl
  noticeMask _ _ _ _ _ _ := .entered (noticeMask_directives _ _ _) (noticeMask_offField _ _ _)
  countersRead s _ _ _ _ _ := (((DirectivesKept.refl s).enter _ _).countersRead _ _).sound
  ruleWrite _ _ _ _ _ _ := .entered (ruleWrite_directives _ _ _) (ruleWrite_offField _ _ _)
  ruleErase _ _ _ _ _ _ := .entered (ruleErase_directives _ _ _) (ruleErase_offField _ _ _)
  setWrite _ _ _ _ _ _ := .entered (setWrite_directives _ _ _) (setWrite_offField _ _ _)
  defaultWrite _ _ _ _ _ _ := .entered (defaultWrite_directives _ _ _) (defaultWrite_offField _ _ _)
  stageLoad _ _ _ _ _ := .of_eq rfl rfl
  ruleCommit _ _ _ _ _ _ := .entered (ruleCommit_directives _ _ _) (ruleCommit_offField _ _ _)
  ruleRead _ _ _ _ _ _ := .entered (ruleRead_directives _ _ _) (ruleRead_offField _ _ _)
  channelConfigEnable _ _ _ _ _ _ := .entered (channelEnable_directives _ _ _) (channelEnable_offField _ _ _)
  channelConfigDisable _ _ _ _ _ _ := .entered (channelDisable_directives _ _ _) (channelDisable_offField _ _ _)
  channelCredit _ _ _ _ _ _ := .entered (channelCredit_directives _ _ _) (channelCredit_offField _ _ _)
  channelFlush _ _ _ _ _ _ := .entered (channelFlush_directives _ _ _) (channelFlush_offField _ _ _)
  channelQuery _ _ _ _ _ _ := .entered (channelQuery_directives _ _ _) (channelQuery_offField _ _ _)
  stationAdd s _ _ _ _ _ := (((DirectivesKept.refl s).enter _ _).stationAdd _ _).sound
  stationSet s _ _ _ _ _ := (((DirectivesKept.refl s).enter _ _).stationSet _ _).sound
  stationQuery _ _ _ _ _ _ := .entered (stationQuery_directives _ _ _) (stationQuery_offField _ _ _)
  stationList _ _ _ _ _ := .of_eq rfl rfl
  stationSuspend s _ _ _ _ _ := (((DirectivesKept.refl s).enter _ _).stationSuspend _ _).sound
  stationResume s _ _ _ _ _ := (((DirectivesKept.refl s).enter _ _).stationResume _ _).sound
  stationRemove s _ _ _ _ _ := (((DirectivesKept.refl s).enter _ _).stationRemove _ _).sound
  trunkConfig s _ _ _ _ _ := (((DirectivesKept.refl s).enter _ _).trunkConfig _ _).sound
  trunkStart s _ _ _ _ _ := (((DirectivesKept.refl s).enter _ _).trunkStart _ _).sound
  trunkStop s _ _ _ _ _ := (((DirectivesKept.refl s).enter _ _).trunkStop _ _).sound
  trunkQuery _ _ _ _ _ _ := .entered (trunkQuery_directives _ _ _) (trunkQuery_offField _ _ _)
  directiveSubmit s tag body _ _ _ :=
    have entered := ((DirectivesKept.refl s).enter 0x30#8 tag).sound
    have submitted := directiveSubmit_queueSound tag body (s.enter 0x30#8 tag)
    ⟨fun hs => submitted.directives (entered.directives hs), fun hs => submitted.numbering (entered.numbering hs)⟩
  directiveCancel s _ _ _ _ _ := (((DirectivesKept.refl s).enter _ _).directiveCancel _ _).sound
  directiveQuery _ _ _ _ _ _ := .entered (directiveQuery_directives _ _ _) (directiveQuery_offField _ _ _)
  linkClose _ _ _ _ _ := .of_eq rfl rfl
  closeEnd s _ := .of_eq (closeEnd_directives s) (closeEnd_offField s).roster
  closeStopStep s _ := (DirectivesKept.refl s).closeStopStep.sound
  closeDirectiveStep s _ := (DirectivesKept.refl s).closeDirectiveStep.sound
  runTrunk s k w due _ _ _ := ((DirectivesKept.refl s).runTrunk k w due).sound
  failStart s k w _ _ _ := ((DirectivesKept.refl s).failStart k w).sound
  lineWentLow s k n _ := ((DirectivesKept.refl s).lineWentLow k n).sound
  roundStart s k _ := ((DirectivesKept.refl s).roundStart k).sound
  turnBegin s k _ := ((DirectivesKept.refl s).turnBegin k).sound
  echoTaken s k b fe _ := ((DirectivesKept.refl s).echoTaken k b fe).sound
  echoDeadline s k _ := ((DirectivesKept.refl s).echoDeadline k).sound
  replyStarted s k _ := ((DirectivesKept.refl s).replyStarted k).sound
  replyTimeout s k _ := ((DirectivesKept.refl s).replyTimeout k).sound
  replyTaken s k b fe _ := ((DirectivesKept.refl s).replyTaken k b fe).sound
  gapExpiry s k _ := ((DirectivesKept.refl s).gapExpiry k).sound
  strayTaken s k b fe _ := ((DirectivesKept.refl s).strayTaken k b fe).sound
  settleEnd s k _ := ((DirectivesKept.refl s).settleEnd k).sound
  sequenceCheck s k _ := ((DirectivesKept.refl s).sequenceCheck k).sound
  admissionStep s k _ := ((DirectivesKept.refl s).admissionStep k).sound
  turnClose s k _ := ((DirectivesKept.refl s).turnClose k).sound
  holdExpiry s c _ := .of_eq (holdExpiry_directives s c) (holdExpiry_offField s c).roster
  clockedOut _ _ := by
    unfold State.clockedOut
    split <;> exact .of_eq rfl rfl
  messageSent s m _ := ((DirectivesKept.refl s).messageSent m).sound

/-- Settles O58: only DIRECTIVE_SUBMIT makes an entry, under an id and a number that are free and in their cycles. -/
theorem stepKeepsDirectivesSound : Obligations.StepKeepsDirectivesSound := by
  unfold Obligations.StepKeepsDirectivesSound
  intro s t hstep
  obtain ⟨directives, numbering⟩ := queueSound_effects.step (fun _ _ => .of_eq rfl rfl) hstep
  exact ⟨directives, numbering⟩

end Sys2Proof.Machine
end

section
/-! The settlement of an attached directive (R114 to R117, R119, Table 6-2). -/

namespace Sys2Proof.Machine

/-- With distinct ids the entry that holds an id is the only one that leaves (R119). -/
theorem DirectiveQueue.without_eq {q : DirectiveQueue} {before after : List Directive} {d : Directive}
    (hq : q.entries = before ++ d :: after) (hids : (q.entries.map Directive.id).Nodup) :
    q.without d.id = before ++ after := by
  have hbefore := DirectiveQueue.ids_before hq hids
  rw [hq, List.map_append, List.map_cons, List.nodup_append, List.nodup_cons] at hids
  obtain ⟨-, ⟨hafter, -⟩, -⟩ := hids
  have hafter : ∀ e ∈ after, e.id ≠ d.id := fun e he h => hafter (List.mem_map.2 ⟨e, he, h⟩)
  unfold DirectiveQueue.without
  rw [hq, List.filter_append, List.filter_cons_of_neg (by simp),
    List.filter_eq_self.2 fun e he => decide_eq_true (hbefore e he),
    List.filter_eq_self.2 fun e he => decide_eq_true (hafter e he)]

theorem State.settle_none {s : State} {turn : Turn} (h : turn.directive = none) (ack : Option (Byte × Byte)) :
    s.settle turn ack = s := by
  rw [State.settle, h, Option.bind_none]

section
variable {s : State} {before after : List Directive} {d : Directive}
  (hq : s.directives.entries = before ++ d :: after) (hids : (s.directives.entries.map Directive.id).Nodup)
include hq hids

/-- An entry completes: it leaves the queue, and is reported (R119). -/
theorem State.completeDirective_eq (outcome : DirectiveOutcome) (result : Byte) (attempts : Nat) :
    s.completeDirective d outcome result attempts =
      (s.setDirectives (before ++ after)).raise (.directiveDone d.id d.slot outcome result attempts) := by
  rw [State.completeDirective, DirectiveQueue.without_eq hq hids]

/-- With the directive mark the turn counts as an attempt: the entry awaits the next, or is exhausted (R116). -/
theorem State.unacknowledged_sent : s.unacknowledged d true =
    if d.attempts + 1 < d.limit then
      s.setDirectives (before ++ { d with attempts := d.attempts + 1, state := .awaiting } :: after)
    else (s.setDirectives (before ++ after)).raise (.directiveDone d.id d.slot .exhausted 0#8 (d.attempts + 1)) := by
  unfold State.unacknowledged
  rw [if_pos rfl, State.completeDirective_eq hq hids, DirectiveQueue.modify_eq hq hids]
  by_cases h : d.attempts + 1 < d.limit
  · rw [if_pos h, if_neg (Nat.not_le.2 h)]
  · rw [if_neg h, if_pos (Nat.not_lt.1 h)]

/-- Without the mark the entry is as it was before its attachment (R117). -/
theorem State.unacknowledged_unsent {was : Bool} (hstate : d.state = .attached was) : s.unacknowledged d false =
    s.setDirectives (before ++ { d with state := if was then .awaiting else .pending } :: after) := by
  unfold State.unacknowledged
  rw [if_neg Bool.false_ne_true, DirectiveQueue.modify_eq hq hids, hstate]
  cases was <;> rfl

variable {turn : Turn} (hturn : turn.directive = some d.id)
include hturn

/-- The entry attached to the turn is the one that is settled (R114). -/
theorem State.attached_found : turn.directive.bind s.directives.find = some d := by
  rw [hturn, Option.bind_some, DirectiveQueue.find_eq hq (DirectiveQueue.ids_before hq hids)]

theorem State.settle_acknowledged {number : Byte} (h : number.toNat = d.number) (result : Byte) :
    s.settle turn (some (number, result)) = s.completeDirective d .delivered result d.attempts := by
  unfold State.settle
  rw [State.attached_found hq hids hturn]
  exact if_pos h

theorem State.settle_otherNumber {number : Byte} (h : number.toNat ≠ d.number) (result : Byte) :
    s.settle turn (some (number, result)) = s.unacknowledged d turn.mark := by
  unfold State.settle
  rw [State.attached_found hq hids hturn]
  exact if_neg h

theorem State.settle_noReply : s.settle turn none = s.unacknowledged d turn.mark := by
  unfold State.settle
  rw [State.attached_found hq hids hturn]

end

/-- Settles O50, by what acknowledges the entry and by the directive mark. -/
theorem directiveSettlement : Obligations.DirectiveSettlement := by
  unfold Obligations.DirectiveSettlement
  refine ⟨fun s turn ack h => State.settle_none h ack, fun s turn before after d was hq hids hturn hstate => ?_⟩
  intro put unacknowledged
  have sent : s.unacknowledged d true = unacknowledged := State.unacknowledged_sent hq hids
  refine ⟨fun number result h => ?_, fun hmark => ⟨fun number result h => ?_, ?_⟩, fun hmark => ?_⟩
  · rw [State.settle_acknowledged hq hids hturn h]
    exact State.completeDirective_eq hq hids _ _ _
  · rw [State.settle_otherNumber hq hids hturn h, hmark, sent]
  · rw [State.settle_noReply hq hids hturn, hmark, sent]
  · rw [State.settle_noReply hq hids hturn, hmark]
    exact State.unacknowledged_unsent hq hids hstate

end Sys2Proof.Machine
end

section
/-! DIRECTIVE_SUBMIT and DIRECTIVE_CANCEL at acceptance (R112, R113, R120). -/

namespace Sys2Proof.Machine

/-! ### The body of a DIRECTIVE_SUBMIT (R113) -/

section
variable {b limit n : Byte} {tail : List Byte}

theorem submitBodyGood_iff : submitBodyGood ([b, limit, n] ++ tail) = true ↔
    1 ≤ n.toNat ∧ n.toNat ≤ 16 ∧ limit.toNat ≤ 15 ∧ ∀ z ∈ tail.drop n.toNat, z = 0#8 := by
  have reserved : ([b, limit, n] ++ tail).drop (3 + n.toNat) = tail.drop n.toNat := List.drop_drop.symm
  unfold submitBodyGood
  have hn : natAt ([b, limit, n] ++ tail) 2 = n.toNat := rfl
  have hlimit : natAt ([b, limit, n] ++ tail) 1 = limit.toNat := rfl
  rw [hn, hlimit, reserved]
  simp only [Bool.and_eq_true, decide_eq_true_eq, List.all_eq_true, beq_iff_eq, and_assoc]

/-- The entry that such a body makes; the limit 0 stands for 4 (R113). -/
theorem DirectiveQueue.newEntry_eq (q : DirectiveQueue) (i : StationId) (next : Nat) :
    q.newEntry i next ([b, limit, n] ++ tail) =
      { id := q.newId, slot := i, number := q.newNumber i next, payload := tail.take n.toNat
        limit := if limit = 0#8 then 4 else limit.toNat, attempts := 0, state := .pending } := by
  have zero : limit.toNat = 0 ↔ limit = 0#8 := BitVec.toNat_inj (y := 0#8)
  exact congrArg (fun l => ({ id := q.newId, slot := i, number := q.newNumber i next, payload := tail.take n.toNat
                              limit := l, attempts := 0, state := .pending } : Directive)) (if_congr zero rfl rfl)

end

/-! ### DIRECTIVE_SUBMIT -/

section
variable {s : State} {tag : Byte} (h : TakesRequest s tag) {body : List Byte} (hlength : body.length = 19)
include h hlength

/-- A DIRECTIVE_SUBMIT that its owner answers at once, with the update `v` (R134, R136). -/
theorem exec_directiveSubmit (v : State) (hv : v.link = s.link) {status : Status} {results : List Byte}
    (ho : directiveSubmit tag body (s.enter 0x30#8 tag) = (v.enter 0x30#8 tag).answer 0x30#8 tag status results) :
    exec (.directiveSubmit tag body) s = .next ((v.replied 0x30#8 tag status results).finish false) :=
  perform_answered v (owner := directiveSubmit tag body) h hv rfl (by simp [hlength]) ho

theorem exec_directiveSubmit_error {status : Status} (hcheck : s.rosterCheck (byteAt body 0) = .error status) :
    exec (.directiveSubmit tag body) s = .next ((s.replied 0x30#8 tag status []).finish false) :=
  exec_directiveSubmit h hlength s rfl (directiveSubmit_error (s := s.enter 0x30#8 tag) hcheck)

variable {i : StationId} {st : Station} (hcheck : s.rosterCheck (byteAt body 0) = .ok (i, st))
include hcheck

theorem exec_directiveSubmit_badArg (hbody : submitBodyGood body = false) :
    exec (.directiveSubmit tag body) s = .next ((s.replied 0x30#8 tag .badArg []).finish false) :=
  exec_directiveSubmit h hlength s rfl (directiveSubmit_badArg (s := s.enter 0x30#8 tag) hcheck hbody)

variable (hbody : submitBodyGood body = true)
include hbody

theorem exec_directiveSubmit_noRoom
    (hfull : 32 ≤ s.directives.entries.length ∨ 4 ≤ (s.directives.ofStation i).length) :
    exec (.directiveSubmit tag body) s = .next ((s.replied 0x30#8 tag .noRoom []).finish false) :=
  exec_directiveSubmit h hlength s rfl (directiveSubmit_noRoom (s := s.enter 0x30#8 tag) hcheck hbody hfull)

theorem exec_directiveSubmit_ok (hall : s.directives.entries.length < 32)
    (hstation : (s.directives.ofStation i).length < 4) :
    exec (.directiveSubmit tag body) s = .next (((s.submitted i st body).replied 0x30#8 tag .ok
      (le16 s.directives.newId ++ [byteOf (s.directives.newNumber i st.nextNumber)])).finish false) :=
  exec_directiveSubmit h hlength (s.submitted i st body) rfl
    (directiveSubmit_ok (s := s.enter 0x30#8 tag) hcheck hbody hall hstation)

end

/-! ### DIRECTIVE_CANCEL (R120) -/

section
variable {s : State} {tag low high : Byte} (h : TakesRequest s tag)
include h

theorem exec_directiveCancel_badArg (hid : low.toNat + 256 * high.toNat = 0) :
    exec (.directiveCancel tag [low, high]) s = .next ((s.replied 0x31#8 tag .badArg []).finish false) :=
  perform_answered s (owner := directiveCancel tag [low, high]) h rfl rfl (by simp) (if_pos hid)

variable (hid : low.toNat + 256 * high.toNat ≠ 0)
include hid

theorem exec_directiveCancel_notFound (hfind : s.directives.find (low.toNat + 256 * high.toNat) = none) :
    exec (.directiveCancel tag [low, high]) s = .next ((s.replied 0x31#8 tag .notFound []).finish false) := by
  refine perform_answered s (owner := directiveCancel tag [low, high]) h rfl rfl (by simp) ((if_neg hid).trans ?_)
  have hfind : (s.enter 0x31#8 tag).directives.find (u16At [low, high] 0) = none := hfind
  rw [hfind]

variable {d : Directive} (hfind : s.directives.find (low.toNat + 256 * high.toNat) = some d)
include hfind

/-- An ATTACHED entry stays. -/
theorem exec_directiveCancel_tooLate {was : Bool} (hstate : d.state = .attached was) :
    exec (.directiveCancel tag [low, high]) s = .next ((s.replied 0x31#8 tag .tooLate []).finish false) := by
  refine perform_answered s (owner := directiveCancel tag [low, high]) h rfl rfl (by simp) ((if_neg hid).trans ?_)
  have hfind : (s.enter 0x31#8 tag).directives.find (u16At [low, high] 0) = some d := hfind
  rw [hfind]
  dsimp only
  rw [hstate]

/-- A PENDING entry is cancelled, an AWAITING one withdrawn. -/
theorem exec_directiveCancel_ok {code : Byte}
    (hstate : d.state = .pending ∧ code = 3#8 ∨ d.state = .awaiting ∧ code = 4#8) :
    exec (.directiveCancel tag [low, high]) s = .next (((s.setDirectives (s.directives.without d.id)).replied
      0x31#8 tag .ok [code, byteOf d.attempts]).finish false) := by
  refine perform_answered _ (owner := directiveCancel tag [low, high]) h (by rfl) rfl (by simp) ((if_neg hid).trans ?_)
  have hfind : (s.enter 0x31#8 tag).directives.find (u16At [low, high] 0) = some d := hfind
  rw [hfind]
  dsimp only
  obtain ⟨hstate, rfl⟩ | ⟨hstate, rfl⟩ := hstate
  · rw [hstate]
    rfl
  · rw [hstate]
    rfl

end

/-- Settles O51, by the checks in their order and by the state of the entry. -/
theorem directiveSubmitAndCancel : Obligations.DirectiveSubmitAndCancel := by
  unfold Obligations.DirectiveSubmitAndCancel
  refine ⟨fun s tag b limit n tail h htail => ?_, fun s tag low high h => ?_⟩
  · intro answers after ofStation good
    have hlength : ([b, limit, n] ++ tail).length = 19 := by rw [List.length_append, htail]; rfl
    refine ⟨fun hb => exec_directiveSubmit_error h hlength (State.rosterCheck_badArg hb), fun i hi => ⟨fun hnone =>
      exec_directiveSubmit_error h hlength (State.rosterCheck_notFound hi hnone), fun st hst => ⟨fun hr =>
        exec_directiveSubmit_error h hlength (State.rosterCheck_removing hi hst hr), fun hr => ?_⟩⟩⟩
    have hcheck : s.rosterCheck (byteAt ([b, limit, n] ++ tail) 0) = .ok (i, st) :=
      State.rosterCheck_of_station hi hst hr
    refine ⟨fun hbad => exec_directiveSubmit_badArg h hlength hcheck
      (Bool.eq_false_iff.2 (mt submitBodyGood_iff.1 hbad)), fun hgood => ?_⟩
    have hbody : submitBodyGood ([b, limit, n] ++ tail) = true := submitBodyGood_iff.2 hgood
    refine ⟨exec_directiveSubmit_noRoom h hlength hcheck hbody, fun hall hstation => ?_⟩
    obtain ⟨j, hj, idsHeld⟩ := DirectiveQueue.newId_walk (q := s.directives)
    obtain ⟨k, hk, numbersHeld⟩ := DirectiveQueue.newNumber_walk (q := s.directives) (i := i) (next := st.nextNumber)
    refine ⟨j, k, ?_⟩
    intro id number
    have hid : id = s.directives.newId := hj.symm
    have hnumber : number = s.directives.newNumber i st.nextNumber := hk.symm
    clear_value id number
    subst hid hnumber
    refine ⟨DirectiveQueue.newId_fresh hall, idsHeld, DirectiveQueue.newNumber_fresh hstation, numbersHeld,
      DirectiveQueue.newId_range, DirectiveQueue.newNumber_range, ?_⟩
    have submits := exec_directiveSubmit_ok h hlength hcheck hbody hall hstation
    unfold State.submitted at submits
    rw [DirectiveQueue.newEntry_eq] at submits
    exact submits
  · intro id answers
    refine ⟨exec_directiveCancel_badArg h, fun hid => ⟨fun hnone => exec_directiveCancel_notFound h hid
      (List.find?_eq_none.2 (by simpa using hnone)), fun before d after hq hd hids => ?_⟩⟩
    have hfind : s.directives.find id = some d := hd ▸ DirectiveQueue.find_eq hq (DirectiveQueue.ids_before hq hids)
    intro removed
    have hremoved : s.setDirectives (s.directives.without d.id) = removed := by
      rw [DirectiveQueue.without_eq hq hids]
      rfl
    refine ⟨fun hstate => ?_, fun hstate => ?_, fun was hstate => exec_directiveCancel_tooLate h hid hfind hstate⟩
    · exact hremoved ▸ exec_directiveCancel_ok h hid hfind (.inl ⟨hstate, rfl⟩)
    · exact hremoved ▸ exec_directiveCancel_ok h hid hfind (.inr ⟨hstate, rfl⟩)

end Sys2Proof.Machine
end

section
/-! ATTN# and the transmitter at the end of a step (R130, R138). -/

namespace Sys2Proof.Machine

/-- Something waits to be sent: a reply, a notice, or an offered channel (R138). -/
theorem State.somethingWaits_iff (s : State) : s.somethingWaits = true ↔
    s.link.replies ≠ [] ∨ s.notices.entries ≠ [] ∨ ∃ c : ChannelId, (s.channels[c]).offered = true := by
  simp only [State.somethingWaits, Bool.or_eq_true, Bool.not_eq_true', List.isEmpty_eq_false_iff, or_assoc,
    State.anyOffered_iff]

/-- The invariant in the model's own terms. -/
theorem arbiterSound_iff (s : State) : ArbiterSound s ↔
    s.attnLow = (!s.inReset && s.attnCondition)
      ∧ (s.inReset = false → s.link.tx = none → s.somethingWaits = false) := by
  have attn : (s.attnLow = true ↔ s.inReset = false ∧ (s.somethingWaits = true ∨ s.link.tx ≠ none)) ↔
      s.attnLow = (!s.inReset && s.attnCondition) := by
    rw [Bool.eq_iff_iff (b := !s.inReset && s.attnCondition)]
    simp only [State.attnCondition, Bool.and_eq_true, Bool.or_eq_true, Bool.not_eq_true', Option.isSome_iff_ne_none]
  simp only [ArbiterSound, ← State.somethingWaits_iff, attn, Bool.not_eq_true]

/-- The channels whose offer the arbiter holds (R54). -/
def State.offers (s : State) : Finset ChannelId := Finset.univ.filter fun c => (s.channels[c]).offered = true

/-- A channel that declines its grant leaves one offer less (R55). -/
theorem State.withdrawOffer_offers {s : State} {c : ChannelId} (h : (s.channels[c]).offered = true) :
    (s.withdrawOffer c).offers.card < s.offers.card := by
  have herase : (s.withdrawOffer c).offers = s.offers.erase c := by
    ext d
    simp only [State.offers, Finset.mem_erase, Finset.mem_filter, Finset.mem_univ, true_and, State.withdrawOffer,
      State.setChannel_read]
    split
    · subst_vars; simp
    · simp [Ne.symm ‹_›]
  rw [herase]
  exact Finset.card_erase_lt_of_mem (by simpa [State.offers] using h)

/-- A pick with fuel for every offer puts a message into transmission, or finds that nothing waits (R138). -/
theorem State.pick_settles (chained : Bool) : ∀ (fuel : Nat) (s : State), s.offers.card < fuel →
    (State.pick chained fuel s).link.tx ≠ none ∨ (State.pick chained fuel s).somethingWaits = false
  | 0, _, h => absurd h (Nat.not_lt_zero _)
  | fuel + 1, s, h => by
    unfold State.pick
    cases hn : s.nextOffered with
    | none =>
      have hoffered := State.nextOffered_none hn
      simp only [hoffered, Bool.false_eq_true, and_false, if_false]
      split
      · exact .inl (by simp [State.sendReply, State.transmit])
      · split
        · exact .inl (by simp [State.sendNotice, State.transmit])
        · rename_i hreplies _ hnotices
          refine .inr ?_
          simp [State.somethingWaits, hreplies, NoticeQueue.offer_none hnotices, hoffered]
    | some c =>
      have batch : ∀ u : State, u = (if (s.channels[c]).ready = true then s.sendBatch chained c
            else State.pick chained fuel (s.withdrawOffer c)) → u.link.tx ≠ none ∨ u.somethingWaits = false := by
        rintro u rfl
        split
        · exact .inl (by rw [State.sendBatch_eq]; simp)
        · have hfewer := State.withdrawOffer_offers (State.nextOffered_some hn)
          exact State.pick_settles chained fuel _ (by omega)
      dsimp only
      split
      · exact batch _ rfl
      · split
        · exact .inl (by simp [State.sendReply, State.transmit])
        · split
          · exact .inl (by simp [State.sendNotice, State.transmit])
          · exact batch _ rfl

/-- After the arbitration nothing waits beside a free transmitter (R138). -/
theorem State.arbitrate_settles (s : State) (chained : Bool) (h : (s.arbitrate chained).link.tx = none) :
    (s.arbitrate chained).somethingWaits = false := by
  unfold State.arbitrate at h ⊢
  split at h
  · rename_i hfree
    rw [if_pos hfree]
    have hcard : s.offers.card < 9 := (Finset.card_le_univ _).trans_lt (by decide)
    exact (State.pick_settles chained 9 s hcard).resolve_left (absurd h)
  · rename_i hbusy
    exact absurd (by simp [h]) hbusy

/-- The end of a step leaves the invariant, whatever went before. -/
theorem State.finish_arbiterSound (s : State) (chained : Bool) : ArbiterSound (s.finish chained) :=
  (arbiterSound_iff _).2 ⟨rfl, fun _ h => State.arbitrate_settles s chained h⟩

/-- So do the pins while RESET# is low. -/
theorem State.drivePins_arbiterSound {s : State} (h : s.inReset = true) : ArbiterSound s.drivePins :=
  (arbiterSound_iff _).2 ⟨rfl, fun h' => absurd h' (by simp [State.drivePins, h])⟩

/-- Settles O54: every step that does anything at the host's side ends with the arbiter's pick and the pins. -/
theorem stepKeepsArbiterSound : Obligations.StepKeepsArbiterSound := by
  unfold Obligations.StepKeepsArbiterSound
  intro s t hs h
  unfold step at h
  split at h
  · cases h
    unfold State.tick
    split <;> exact hs
  · obtain rfl | ⟨u, chained, rfl⟩ | ⟨u, hu, rfl⟩ := exec_shape h
    · exact hs
    · exact State.finish_arbiterSound u chained
    · exact State.drivePins_arbiterSound hu

end Sys2Proof.Machine
end

section
/-! The reset state meets every invariant (R28, R45, R54, R91, R111, R134, R144, R145). -/

namespace Sys2Proof.Machine

/-! ### What the tables of the reset state hold -/

theorem State.reset_channel (c : ChannelId) : State.reset.channels[c] = Channel.reset := by simp [State.reset]

theorem State.reset_trunk (k : TrunkId) : State.reset.trunks[k] = Trunk.reset := by simp [State.reset]

theorem State.reset_station (i : StationId) : State.reset.roster[i] = none := by simp [State.reset]

theorem State.reset_slot (i : SlotId) : State.reset.store.slots[i] = none := by simp [State.reset, Store.reset]

theorem State.reset_channelList : State.reset.channels.toList = List.replicate 8 Channel.reset := by
  simp [State.reset]

/-! ### The invariants -/

theorem linkSound_reset : LinkSound State.reset := ⟨Nat.zero_le _, List.nodup_nil, Nat.zero_le _⟩

theorem arbiterSound_reset : ArbiterSound State.reset := by
  have hoffered : ¬ ∃ c : ChannelId, (State.reset.channels[c]).offered = true := by
    rintro ⟨c, hc⟩
    rw [State.reset_channel] at hc
    cases hc
  simp only [ArbiterSound, hoffered]
  decide

theorem noticesSound_reset : NoticesSound State.reset := ⟨Nat.zero_le _, Nat.zero_le _⟩

theorem creditSound_reset : CreditSound State.reset := by
  refine ⟨?_, fun c => ?_⟩
  · rw [State.reset_channelList]; decide
  · rw [State.reset_channel]; decide

theorem storeSound_reset : StoreSound State.reset := by
  refine ⟨fun i => ?_, fun i hi => ?_, ?_⟩
  · have hfree : State.reset.store.refCount i = 0 := by unfold Store.refCount; rw [State.reset_slot]
    rw [hfree, State.reset_channelList, List.map_replicate]
    rfl
  · rw [State.reset_slot] at hi; cases hi
  · change 256 = (Vector.replicate 256 none).toList.countP Option.isNone
    rw [Vector.toList_replicate, List.countP_replicate]
    rfl

/-- No slot of the roster holds a station (R65). -/
theorem State.reset_no_station {i : StationId} {a : Station} : State.reset.roster[i] ≠ some a := by
  rw [State.reset_station]; nofun

theorem rosterSound_reset : RosterSound State.reset :=
  ⟨fun _ _ _ _ ha => absurd ha State.reset_no_station, fun _ _ ha => absurd ha State.reset_no_station⟩

theorem directivesSound_reset : DirectivesSound State.reset :=
  ⟨Nat.zero_le _, List.nodup_nil, fun _ => ⟨Nat.zero_le _, List.nodup_nil⟩⟩

theorem numberingSound_reset : NumberingSound State.reset :=
  ⟨by decide, fun _ hd => absurd hd List.not_mem_nil, fun _ _ ha => absurd ha State.reset_no_station⟩

theorem trunksSound_reset : TrunksSound State.reset := fun k => by
  rw [State.reset_trunk]
  exact ⟨rfl, rfl, fun _ _ => ⟨rfl, rfl⟩, fun _ => ⟨rfl, rfl⟩, by decide⟩

theorem closedSound_reset : ClosedSound State.reset := fun _ =>
  ⟨fun k => by rw [State.reset_trunk]; rfl, rfl, rfl, fun c => by rw [State.reset_channel]; exact ⟨rfl, rfl⟩,
    fun _ c => by rw [State.reset_channel]; rfl⟩

/-- Settles O52. -/
theorem resetMeetsInvariants : Obligations.ResetMeetsInvariants := by
  unfold Obligations.ResetMeetsInvariants
  obtain ⟨delivery, channels⟩ := State.cleared_sound State.reset
  exact ⟨linkSound_reset, arbiterSound_reset, noticesSound_reset, creditSound_reset, delivery, channels,
    storeSound_reset, rosterSound_reset, directivesSound_reset, numberingSound_reset, trunksSound_reset,
    closedSound_reset⟩

end Sys2Proof.Machine
end

section
/-! A host frame at acceptance: the request row it stands for, and the checks in their order (R134 to R136, R167). -/

namespace Sys2Proof.Machine

/-! ### The frame and its request row -/

/-- A kind that is no request kind is delivered as such (R136). -/
theorem deliver_unknownKind {kind : Byte} (h : Config.bodyLengths kind = none) (tag : Byte) (body : List Byte) :
    deliver kind tag body = takeUnknownKind kind tag body := by
  unfold Config.bodyLengths at h
  unfold deliver
  split
  case h_31 => rfl
  all_goals
    rename_i hkind
    rw [hkind] at h
    cases h

/-- A request row is its frame at acceptance (log entry 1). -/
theorem exec_of_frame {i : Instr} {kind tag : Byte} {body : List Byte} (hw : WellFormed i = true)
    (hf : frameOf i = some (kind, tag, body)) (s : State) : exec i s = perform (deliver kind tag body) s := by
  cases i
  case unknownKindFrame =>
    cases hf
    rw [deliver_unknownKind (by simpa using (Bool.and_eq_true_iff.1 hw).1)]
    rfl
  case channelConfigEnable =>
    cases hf
    have henable : isDisabling body = false := by simpa using (Bool.and_eq_true_iff.1 hw).1
    have hdeliver : deliver 0x18#8 tag body = takeChannelConfigEnable tag body := if_neg (by simp [henable])
    rw [hdeliver]
    rfl
  case channelConfigDisable =>
    cases hf
    have hdeliver : deliver 0x18#8 tag body = takeChannelConfigDisable tag body :=
      if_pos (Bool.and_eq_true_iff.1 hw).1
    rw [hdeliver]
    rfl
  all_goals cases hf
  all_goals rfl

/-- The body of a well-formed command's frame (R131). -/
theorem body_length_of_frame {i : Instr} {kind tag : Byte} {body : List Byte} (hw : WellFormed i = true)
    (hf : frameOf i = some (kind, tag, body)) : body.length ≤ 528 := by
  cases i
  case unknownKindFrame => cases hf; exact of_decide_eq_true (Bool.and_eq_true_iff.1 hw).2
  case channelConfigEnable => cases hf; exact of_decide_eq_true (Bool.and_eq_true_iff.1 hw).2
  case channelConfigDisable => cases hf; exact of_decide_eq_true (Bool.and_eq_true_iff.1 hw).2
  all_goals cases hf
  all_goals exact of_decide_eq_true hw

/-- Whatever its kind, a frame passes acceptance before an owner sees it (R136). -/
theorem deliver_takeFrame (kind tag : Byte) (body : List Byte) :
    ∃ owner, deliver kind tag body = takeFrame kind tag body owner := by
  unfold deliver
  split
  case h_13 hkind =>
    rw [← byteOf_of_toNat hkind]
    split
    · exact ⟨_, rfl⟩
    · exact ⟨_, rfl⟩
  case h_31 =>
    refine ⟨id, ?_⟩
    have hnone : Config.bodyLengths kind = none := by
      unfold Config.bodyLengths
      split
      case h_31 => rfl
      all_goals contradiction
    funext s
    exact if_pos (by rw [hnone]; rfl)
  all_goals
    rename_i hkind
    rw [← byteOf_of_toNat hkind]
    exact ⟨_, rfl⟩

/-! ### The kinds and body lengths of Table 10-5 -/

/-- The request kinds with the body lengths each allows (Table 10-5). -/
def requestKinds : List (Byte × List Nat) :=
  [(0x01#8, [1]), (0x02#8, [0]), (0x03#8, [0]), (0x04#8, [1]), (0x05#8, [3]), (0x10#8, [37]), (0x11#8, [1]),
    (0x12#8, [9]), (0x13#8, [2]), (0x14#8, [0]), (0x15#8, [0, 2]), (0x16#8, [3]), (0x18#8, [10]), (0x19#8, [2]),
    (0x1A#8, [1]), (0x1B#8, [1]), (0x20#8, [3]), (0x21#8, [2]), (0x22#8, [1]), (0x23#8, [0]), (0x24#8, [1]),
    (0x25#8, [1]), (0x26#8, [1]), (0x28#8, [8]), (0x29#8, [1]), (0x2A#8, [1]), (0x2B#8, [1]), (0x30#8, [19]),
    (0x31#8, [2]), (0x32#8, [2])]

theorem bodyLengths_of_mem {kind : Byte} {lengths : List Nat} (h : (kind, lengths) ∈ requestKinds) :
    Config.bodyLengths kind = some lengths :=
  (by decide : ∀ e ∈ requestKinds, Config.bodyLengths e.1 = some e.2) _ h

theorem mem_of_bodyLengths {kind : Byte} {lengths : List Nat} (h : Config.bodyLengths kind = some lengths) :
    (kind, lengths) ∈ requestKinds := by
  unfold Config.bodyLengths at h
  split at h
  case h_31 => cases h
  all_goals
    rename_i hkind
    cases h
    rw [← byteOf_of_toNat hkind]
    decide

theorem bodyLengths_none {kind : Byte} (h : ∀ e ∈ requestKinds, e.1 ≠ kind) : Config.bodyLengths kind = none :=
  Option.eq_none_iff_forall_ne_some.2 fun _ hl => h _ (mem_of_bodyLengths hl) rfl

/-! ### The checks of acceptance (R136) -/

section
variable {s : State} {kind tag : Byte} {body : List Byte}

theorem State.acceptance_badArg (s : State) (kind : Byte) (body : List Byte) :
    s.acceptance kind 0#8 body = some .badArg := if_pos rfl

theorem State.acceptance_unknownKind (ht : tag ≠ 0#8) (h : Config.bodyLengths kind = none) :
    s.acceptance kind tag body = some .unknownKind := by
  unfold State.acceptance
  rw [if_neg ht, h]

theorem State.acceptance_badLength (ht : tag ≠ 0#8) {lengths : List Nat} (h : Config.bodyLengths kind = some lengths)
    (hb : body.length ∉ lengths) : s.acceptance kind tag body = some .badLength := by
  unfold State.acceptance
  rw [if_neg ht, h]
  exact if_neg (by simpa using hb)

theorem State.acceptance_sessionCheck (ht : tag ≠ 0#8) {lengths : List Nat}
    (h : Config.bodyLengths kind = some lengths) (hb : body.length ∈ lengths) :
    s.acceptance kind tag body = s.sessionCheck kind tag := by
  unfold State.acceptance
  rw [if_neg ht, h]
  exact if_pos (by simpa using hb)

theorem State.sessionCheck_closed (h : s.link.session = .closed) (h1 : kind ≠ 0x01#8) (h3 : kind ≠ 0x03#8) :
    s.sessionCheck kind tag = some .notOpen := by
  unfold State.sessionCheck
  rw [h]
  exact if_neg (by simp [h1, h3])

theorem State.sessionCheck_closing {stage : CloseStage} {closeTag : Byte}
    (h : s.link.session = .closing stage closeTag) (h3 : kind ≠ 0x03#8) :
    s.sessionCheck kind tag = some .wrongState := by
  unfold State.sessionCheck
  rw [h]
  exact if_neg h3

/-- The session lets every kind pass while OPEN, PART_RESET always, and LINK_OPEN while CLOSED (R136). -/
theorem State.sessionCheck_passes
    (h : s.link.session = .opened ∨ kind = 0x03#8 ∨ (s.link.session = .closed ∧ kind = 0x01#8)) :
    s.sessionCheck kind tag = s.tableCheck tag := by
  unfold State.sessionCheck
  split
  case h_1 hclosed => exact if_pos (by simpa [hclosed, or_comm] using h)
  case h_2 hclosing => exact if_pos (by simpa [hclosing] using h)
  case h_3 => rfl

theorem State.tableCheck_tagInUse (h : ∃ r ∈ s.link.requests, r.tag = tag) : s.tableCheck tag = some .tagInUse :=
  if_pos (by simpa using h)

theorem State.tableCheck_busy (h : ∀ r ∈ s.link.requests, r.tag ≠ tag) (hfull : 8 ≤ s.link.requests.length) :
    s.tableCheck tag = some .busy :=
  (if_neg (by simpa using h)).trans (if_pos hfull)

theorem State.tableCheck_none (h : ∀ r ∈ s.link.requests, r.tag ≠ tag) (hroom : s.link.requests.length < 8) :
    s.tableCheck tag = none :=
  (if_neg (by simpa using h)).trans (if_neg (Nat.not_le.2 hroom))

/-! ### What acceptance makes of a frame (R134, R135) -/

variable {owner : State → State}

theorem takeFrame_pending (h : s.link.resetPending = true) : takeFrame kind tag body owner s = s := if_pos h

theorem takeFrame_refused (h : s.link.resetPending = false) {status : Status}
    (ha : s.acceptance kind tag body = some status) : takeFrame kind tag body owner s = s.refuse kind tag status := by
  unfold takeFrame
  rw [if_neg (by simp [h]), ha]

theorem takeFrame_entered (h : s.link.resetPending = false) (ha : s.acceptance kind tag body = none) :
    takeFrame kind tag body owner s = owner (s.enter kind tag) := by
  unfold takeFrame
  rw [if_neg (by simp [h]), ha]

/-- The outcome of a frame that passes every check. -/
theorem perform_entered (hr : s.inReset = false) (hp : s.link.resetPending = false)
    (ha : s.acceptance kind tag body = none) {u : State} (ho : owner (s.enter kind tag) = u) :
    perform (takeFrame kind tag body owner) s = .next (u.finish false) := by
  rw [perform_awake hr, takeFrame_entered hp ha, ho]

/-- A request row whose frame fails a check answers with the refusal (R135). -/
theorem exec_refused {i : Instr} (hw : WellFormed i = true) (hf : frameOf i = some (kind, tag, body))
    (hr : s.inReset = false) (hp : s.link.resetPending = false) {status : Status}
    (ha : s.acceptance kind tag body = some status) : exec i s = .next ((s.refuse kind tag status).finish false) := by
  obtain ⟨owner, hd⟩ := deliver_takeFrame kind tag body
  rw [exec_of_frame hw hf, hd, perform_awake hr, takeFrame_refused hp ha]

end

/-- Settles O5: one clause for each check, in the order of R136. -/
theorem acceptanceRefusesInOrder : Obligations.AcceptanceRefusesInOrder := by
  unfold Obligations.AcceptanceRefusesInOrder
  intro i s kind tag body hw hf hr hp kinds refused answers
  have answer : ∀ {status : Status}, s.acceptance kind tag body = some status → answers status :=
    exec_refused hw hf hr hp
  refine ⟨fun ht => answer (ht ▸ s.acceptance_badArg kind body), fun ht => ⟨fun hk => answer
    (State.acceptance_unknownKind ht (bodyLengths_none hk)), fun lengths hk => ?_⟩⟩
  have hl : Config.bodyLengths kind = some lengths := bodyLengths_of_mem hk
  refine ⟨fun hb => answer (State.acceptance_badLength ht hl hb), fun hb => ?_⟩
  have session := State.acceptance_sessionCheck (s := s) ht hl hb
  refine ⟨fun hclosed h1 h3 => answer (session.trans (State.sessionCheck_closed hclosed h1 h3)),
    fun stage closeTag hclosing h3 => answer (session.trans (State.sessionCheck_closing hclosing h3)), fun hpass => ?_⟩
  have table := session.trans (State.sessionCheck_passes hpass)
  exact ⟨fun hused => answer (table.trans (State.tableCheck_tagInUse hused)),
    fun hfree hfull => answer (table.trans (State.tableCheck_busy hfree hfull))⟩

end Sys2Proof.Machine
end

section
/-! LINK_OPEN, LINK_CLOSE and the end of a close (R140, R141, Table 10-6). -/

namespace Sys2Proof.Machine

/-! ### LINK_OPEN (R140) -/

/-- What LINK_OPEN makes of the part: its state with the reply (R140; log entry 25). -/
theorem linkOpen_entered {s : State} {tag rev : Byte} (hfree : ∀ r ∈ s.link.requests, r.tag ≠ tag)
    (hsession : s.link.session = .closed ∨ s.link.session = .opened) :
    linkOpen tag [rev] (s.enter 0x01#8 tag) =
      if rev ≠ 1#8 then s.replied 0x01#8 tag .badArg []
      else if s.link.session = .opened then s.replied 0x01#8 tag .wrongState []
      else ({ s with link := { s.link with session := .opened },
                     notices := { s.notices with mask := 0x3F#8, lost := 0 } } : State).replied 0x01#8 tag .ok
        ([1#8, s.mode.code, 64#8, 48#8, 4#8, 0#8, 1#8, 8#8, 32#8, 4#8, 8#8, 12#8, 32#8] ++ le32 s.timeBase.toNat) := by
  have hrev : natAt [rev] 0 ≠ 1 ↔ rev ≠ 1#8 := not_congr (BitVec.toNat_inj (y := 1#8))
  have henter : (s.enter 0x01#8 tag).link.session = s.link.session := rfl
  unfold linkOpen
  simp only [hrev, henter]
  split
  · exact State.answer_enter hfree _ _ _
  · obtain hclosed | hopened := hsession
    · rw [if_pos hclosed, if_neg (by simp [hclosed])]
      exact State.answer_entered (s := { s with link := { s.link with session := .opened } }) hfree _ _ _ rfl
    · rw [if_neg (by simp [hopened]), if_pos hopened]
      exact State.answer_enter hfree _ _ _

/-- Settles O9: the frame passes acceptance in both sessions, and its owner answers by revision and session. -/
theorem linkOpenOpensAClosedSession : Obligations.LinkOpenOpensAClosedSession := by
  unfold Obligations.LinkOpenOpensAClosedSession
  intro s tag rev hr hp ht hfree hroom hsession
  have accepted : s.acceptance 0x01#8 tag [rev] = none :=
    (State.acceptance_sessionCheck ht (lengths := [1]) rfl (List.mem_singleton.2 rfl)).trans
      ((State.sessionCheck_passes (hsession.symm.imp_right fun h => .inr ⟨h, rfl⟩)).trans
        (State.tableCheck_none hfree hroom))
  exact perform_entered hr hp accepted (linkOpen_entered hfree hsession)

/-! ### LINK_CLOSE and the end of a close (R141) -/

theorem State.noBatchInFlight_iff (s : State) :
    s.noBatchInFlight = true ↔ ∀ c : ChannelId, (s.channels[c]).inflight = [] := by
  simp only [State.noBatchInFlight, Vector.toList_eq_map_finRange, List.all_map, List.all_eq_true, List.mem_finRange,
    Function.comp_apply, List.isEmpty_iff, forall_const]

/-- A close that waits for the batches in flight (R141). -/
theorem closeEnd_eq {s : State} {tag : Byte} (h : s.link.session = .closing .batches tag) : closeEnd s =
    if s.noBatchInFlight = true then
      ({ s with link := { s.link with session := .closed } } : State).repliedLate 0x02#8 tag .ok []
    else s := by
  unfold closeEnd
  simp only [h]
  rfl

/-- Settles O10. -/
theorem closeBeginsAndEnds : Obligations.CloseBeginsAndEnds := by
  unfold Obligations.CloseBeginsAndEnds
  refine ⟨fun s tag h => perform_accepted [0] (linkClose tag) h rfl (by decide), fun s tag hr hsession => ?_⟩
  have ends : exec .closeEnd s = .next ((closeEnd s).finish false) := perform_awake hr closeEnd
  rw [closeEnd_eq hsession] at ends
  refine ⟨fun hnone => ?_, fun ⟨c, hc⟩ => ?_⟩
  · rw [ends, if_pos (s.noBatchInFlight_iff.2 hnone)]
  · rw [ends, if_neg fun h => hc (s.noBatchInFlight_iff.1 h c)]

end Sys2Proof.Machine
end

section
/-! What a request leaves alone on the host's side: the waiting commands, the pins, the link mode and the message in
transmission (R127 to R129, R138). -/

namespace Sys2Proof.Machine

/-- The host's side of the part: what no request writes. -/
structure HostSide where
  pending : List Instr
  inReset : Bool
  holdLow : Bool
  hcsIsHigh : Bool
  hostOut : HostOut
  mode : LinkMode
  tx : Option Transmission

/-- The host's side of a state. -/
def State.hostSide (s : State) : HostSide :=
  { pending := s.pending, inReset := s.inReset, holdLow := s.holdLow, hcsIsHigh := s.hcsIsHigh, hostOut := s.hostOut
    mode := s.mode, tx := s.link.tx }

/-! ### The operations the commands share -/

section
variable (s : State)

@[simp] theorem State.answer_hostSide (kind tag : Byte) (status : Status) (results : List Byte) :
    (s.answer kind tag status results).hostSide = s.hostSide := rfl

@[simp] theorem State.enter_hostSide (kind tag : Byte) : (s.enter kind tag).hostSide = s.hostSide := rfl

@[simp] theorem State.countLink_hostSide (f : LinkCounters → LinkCounters) : (s.countLink f).hostSide = s.hostSide :=
  rfl

@[simp] theorem State.setNotices_hostSide (q : NoticeQueue) : (s.setNotices q).hostSide = s.hostSide := rfl

@[simp] theorem State.setDirectives_hostSide (es : List Directive) : (s.setDirectives es).hostSide = s.hostSide := rfl

@[simp] theorem State.setChannel_hostSide (c : ChannelId) (x : Channel) : (s.setChannel c x).hostSide = s.hostSide :=
  rfl

@[simp] theorem State.setTrunk_hostSide (k : TrunkId) (x : Trunk) : (s.setTrunk k x).hostSide = s.hostSide := rfl

@[simp] theorem State.setStation_hostSide (i : StationId) (x : Option Station) :
    (s.setStation i x).hostSide = s.hostSide := rfl

@[simp] theorem State.mapStation_hostSide (i : StationId) (f : Station → Station) :
    (s.mapStation i f).hostSide = s.hostSide := rfl

@[simp] theorem State.countStation_hostSide (i : StationId) (f : StationCounters → StationCounters) :
    (s.countStation i f).hostSide = s.hostSide := rfl

@[simp] theorem State.countTrunk_hostSide (k : TrunkId) (f : TrunkCounters → TrunkCounters) :
    (s.countTrunk k f).hostSide = s.hostSide := rfl

@[simp] theorem State.raise_hostSide (n : Notice) : (s.raise n).hostSide = s.hostSide := by simp [State.hostSide]

@[simp] theorem State.refuse_hostSide (kind tag : Byte) (status : Status) :
    (s.refuse kind tag status).hostSide = s.hostSide := by
  unfold State.refuse; split <;> rfl

@[simp] theorem State.evalReady_hostSide (c : ChannelId) : (s.evalReady c).hostSide = s.hostSide := rfl

@[simp] theorem State.evalChannel_hostSide (c : ChannelId) : (s.evalChannel c).hostSide = s.hostSide := by
  simp [State.hostSide]

@[simp] theorem State.flushQueue_hostSide (c : ChannelId) : (s.flushQueue c).hostSide = s.hostSide := by
  simp [State.hostSide]

@[simp] theorem State.freeStation_hostSide (i : StationId) : (s.freeStation i).hostSide = s.hostSide := by
  simp [State.hostSide]

@[simp] theorem State.completeRemoval_hostSide (i : StationId) (st : Station) :
    (s.completeRemoval i st).hostSide = s.hostSide := by
  unfold State.completeRemoval; split <;> simp

@[simp] theorem State.groundStations_hostSide (k : TrunkId) : (s.groundStations k).hostSide = s.hostSide := by
  refine foldl_keeps State.hostSide _ (fun u i => ?_) _ s
  unfold State.groundStation
  split
  · split
    · split <;> simp
    · rfl
  · rfl

theorem State.discardUnwalked_hostSide (i : StationId) (k : TrunkId) :
    (State.discardUnwalked i s k).hostSide = s.hostSide := by
  unfold State.discardUnwalked
  split
  · split <;> rfl
  · rfl

@[simp] theorem State.answerStop_hostSide (tag : Option Byte) (state : TrunkState) :
    (s.answerStop tag state).hostSide = s.hostSide := by
  unfold State.answerStop; split <;> rfl

@[simp] theorem State.beginStop_hostSide (k : TrunkId) (tag : Option Byte) :
    (s.beginStop k tag).hostSide = s.hostSide := by
  unfold State.beginStop State.completeStop
  dsimp only
  split <;> simp

@[simp] theorem State.stopFaulted_hostSide (k : TrunkId) : (s.stopFaulted k).hostSide = s.hostSide := by
  simp [State.stopFaulted]

@[simp] theorem State.abortStart_hostSide (k : TrunkId) : (s.abortStart k).hostSide = s.hostSide := by
  unfold State.abortStart
  dsimp only
  split <;> rfl

@[simp] theorem State.clearCounters_hostSide (m : CounterMember) : (s.clearCounters m).hostSide = s.hostSide := by
  cases m <;> rfl

end

/-! ### The requests at their owners -/

section
variable (tag : Byte) (body : List Byte) (s : State)

theorem linkOpen_hostSide : (linkOpen tag body s).hostSide = s.hostSide := by
  unfold linkOpen
  split
  · rfl
  · split <;> rfl

theorem linkClose_hostSide : (linkClose tag s).hostSide = s.hostSide := rfl

theorem partReset_hostSide : (partReset tag s).hostSide = s.hostSide := rfl

theorem noticeMask_hostSide : (noticeMask tag body s).hostSide = s.hostSide := by
  unfold noticeMask; split <;> rfl

theorem countersRead_hostSide : (countersRead tag body s).hostSide = s.hostSide := by
  unfold countersRead
  split
  · rfl
  · split <;> simp

theorem ruleWrite_hostSide : (ruleWrite tag body s).hostSide = s.hostSide := by
  unfold ruleWrite; split <;> rfl

theorem ruleErase_hostSide : (ruleErase tag body s).hostSide = s.hostSide := by
  unfold ruleErase; split <;> rfl

theorem setWrite_hostSide : (setWrite tag body s).hostSide = s.hostSide := by
  unfold setWrite; split <;> rfl

theorem defaultWrite_hostSide : (defaultWrite tag body s).hostSide = s.hostSide := by
  unfold defaultWrite; split <;> rfl

theorem stageLoad_hostSide : (stageLoad tag s).hostSide = s.hostSide := rfl

theorem ruleCommit_hostSide : (ruleCommit tag body s).hostSide = s.hostSide := by
  unfold ruleCommit; split <;> rfl

theorem ruleRead_hostSide : (ruleRead tag body s).hostSide = s.hostSide := by
  unfold ruleRead; split <;> rfl

theorem channelEnable_hostSide : (channelEnable tag body s).hostSide = s.hostSide := by
  unfold channelEnable
  split
  · dsimp only
    split
    · rfl
    · split <;> rfl
  · rfl

theorem channelDisable_hostSide : (channelDisable tag body s).hostSide = s.hostSide := by
  unfold channelDisable; split <;> simp

theorem channelCredit_hostSide : (channelCredit tag body s).hostSide = s.hostSide := by
  unfold channelCredit
  split
  · dsimp only
    split
    · rfl
    · split <;> rfl
  · rfl

theorem channelFlush_hostSide : (channelFlush tag body s).hostSide = s.hostSide := by
  unfold channelFlush; split <;> simp

theorem channelQuery_hostSide : (channelQuery tag body s).hostSide = s.hostSide := by
  unfold channelQuery; split <;> rfl

theorem stationAdd_hostSide : (stationAdd tag body s).hostSide = s.hostSide := by
  unfold stationAdd
  split
  · split
    · rfl
    · split
      · rfl
      · split <;> rfl
  · rfl

theorem stationSet_hostSide : (stationSet tag body s).hostSide = s.hostSide := by
  unfold stationSet
  split
  · rfl
  · split <;> rfl

theorem stationQuery_hostSide : (stationQuery tag body s).hostSide = s.hostSide := by
  unfold stationQuery; split <;> rfl

theorem stationList_hostSide : (stationList tag s).hostSide = s.hostSide := rfl

theorem stationSuspend_hostSide : (stationSuspend tag body s).hostSide = s.hostSide := by
  unfold stationSuspend; split <;> rfl

theorem stationResume_hostSide : (stationResume tag body s).hostSide = s.hostSide := by
  unfold stationResume
  split
  · rfl
  · split <;> rfl

theorem stationRemove_hostSide : (stationRemove tag body s).hostSide = s.hostSide := by
  unfold stationRemove
  split
  · rfl
  · rename_i i _ _
    split
    · exact foldl_keeps State.hostSide _ (fun u k => u.discardUnwalked_hostSide i k) _ _
    · simp

theorem trunkConfig_hostSide : (trunkConfig tag body s).hostSide = s.hostSide := by
  unfold trunkConfig
  split
  · split <;> rfl
  · rfl

theorem trunkStart_hostSide : (trunkStart tag body s).hostSide = s.hostSide := by
  unfold trunkStart
  split
  · split <;> rfl
  · rfl

theorem trunkStop_hostSide : (trunkStop tag body s).hostSide = s.hostSide := by
  unfold trunkStop
  split
  · split <;> simp
  · rfl

theorem trunkQuery_hostSide : (trunkQuery tag body s).hostSide = s.hostSide := by
  unfold trunkQuery; split <;> rfl

theorem directiveSubmit_hostSide : (directiveSubmit tag body s).hostSide = s.hostSide := by
  obtain ⟨status, h⟩ | ⟨i, st, results, -, -, -, h⟩ := directiveSubmit_cases tag body s <;> rw [h]
  all_goals rfl

theorem directiveCancel_hostSide : (directiveCancel tag body s).hostSide = s.hostSide := by
  unfold directiveCancel
  split
  · rfl
  · split
    · rfl
    · split <;> rfl

theorem directiveQuery_hostSide : (directiveQuery tag body s).hostSide = s.hostSide := by
  unfold directiveQuery
  split
  · rfl
  · split <;> rfl

end

/-! ### A frame at acceptance -/

/-- A frame whose owner leaves the host's side alone. -/
theorem takeFrame_hostSide {owner : State → State} (ho : ∀ u, (owner u).hostSide = u.hostSide) (kind tag : Byte)
    (body : List Byte) (s : State) : (takeFrame kind tag body owner s).hostSide = s.hostSide := by
  unfold takeFrame
  split
  · rfl
  · split
    · simp
    · rw [ho]; rfl

/-- No request writes the host's side (R136). -/
theorem deliver_hostSide (kind tag : Byte) (body : List Byte) (s : State) :
    (deliver kind tag body s).hostSide = s.hostSide := by
  generalize hf : deliver kind tag body = f
  unfold deliver at hf
  split at hf
  case h_13 =>
    split at hf
    · exact hf ▸ takeFrame_hostSide (channelDisable_hostSide tag body) _ _ _ s
    · exact hf ▸ takeFrame_hostSide (channelEnable_hostSide tag body) _ _ _ s
  case h_31 =>
    subst hf
    unfold takeUnknownKind
    split
    · exact takeFrame_hostSide (fun _ => rfl) _ _ _ s
    · rfl
  all_goals subst hf
  case h_1 => exact takeFrame_hostSide (linkOpen_hostSide tag body) _ _ _ s
  case h_2 => exact takeFrame_hostSide (linkClose_hostSide tag) _ _ _ s
  case h_3 => exact takeFrame_hostSide (partReset_hostSide tag) _ _ _ s
  case h_4 => exact takeFrame_hostSide (noticeMask_hostSide tag body) _ _ _ s
  case h_5 => exact takeFrame_hostSide (countersRead_hostSide tag body) _ _ _ s
  case h_6 => exact takeFrame_hostSide (ruleWrite_hostSide tag body) _ _ _ s
  case h_7 => exact takeFrame_hostSide (ruleErase_hostSide tag body) _ _ _ s
  case h_8 => exact takeFrame_hostSide (setWrite_hostSide tag body) _ _ _ s
  case h_9 => exact takeFrame_hostSide (defaultWrite_hostSide tag body) _ _ _ s
  case h_10 => exact takeFrame_hostSide (stageLoad_hostSide tag) _ _ _ s
  case h_11 => exact takeFrame_hostSide (ruleCommit_hostSide tag body) _ _ _ s
  case h_12 => exact takeFrame_hostSide (ruleRead_hostSide tag body) _ _ _ s
  case h_14 => exact takeFrame_hostSide (channelCredit_hostSide tag body) _ _ _ s
  case h_15 => exact takeFrame_hostSide (channelFlush_hostSide tag body) _ _ _ s
  case h_16 => exact takeFrame_hostSide (channelQuery_hostSide tag body) _ _ _ s
  case h_17 => exact takeFrame_hostSide (stationAdd_hostSide tag body) _ _ _ s
  case h_18 => exact takeFrame_hostSide (stationSet_hostSide tag body) _ _ _ s
  case h_19 => exact takeFrame_hostSide (stationQuery_hostSide tag body) _ _ _ s
  case h_20 => exact takeFrame_hostSide (stationList_hostSide tag) _ _ _ s
  case h_21 => exact takeFrame_hostSide (stationSuspend_hostSide tag body) _ _ _ s
  case h_22 => exact takeFrame_hostSide (stationResume_hostSide tag body) _ _ _ s
  case h_23 => exact takeFrame_hostSide (stationRemove_hostSide tag body) _ _ _ s
  case h_24 => exact takeFrame_hostSide (trunkConfig_hostSide tag body) _ _ _ s
  case h_25 => exact takeFrame_hostSide (trunkStart_hostSide tag body) _ _ _ s
  case h_26 => exact takeFrame_hostSide (trunkStop_hostSide tag body) _ _ _ s
  case h_27 => exact takeFrame_hostSide (trunkQuery_hostSide tag body) _ _ _ s
  case h_28 => exact takeFrame_hostSide (directiveSubmit_hostSide tag body) _ _ _ s
  case h_29 => exact takeFrame_hostSide (directiveCancel_hostSide tag body) _ _ _ s
  case h_30 => exact takeFrame_hostSide (directiveQuery_hostSide tag body) _ _ _ s

/-- Nothing that the receiver brings about writes the host's side (R133). -/
theorem State.receiverEvent_hostSide (s : State) (e : ReceiverEvent) : (s.receiverEvent e).hostSide = s.hostSide := by
  unfold State.receiverEvent
  split
  · rfl
  · rfl
  · rfl
  · unfold State.frameEnded
    split
    · rfl
    · rfl
    · rfl
    · exact deliver_hostSide _ _ _ s

end Sys2Proof.Machine
end

section
/-! The frame receiver and the exchange that comes with an SPI byte, as the model's definitions move them (R129, R133,
R139). -/

namespace Sys2Proof.Machine

/-! ### The receiver's table (R133) -/

theorem Receiver.take_hunting (b : Byte) (fe : Bool) : Receiver.take .hunting b fe =
    (if fe = false ∧ b = 0xA5#8 then .collecting [] else .hunting, .nothing) :=
  (apply_ite (fun r => (r, ReceiverEvent.nothing)) _ _ _).symm

theorem Receiver.take_discarding (b : Byte) (fe : Bool) : Receiver.take .discarding b fe =
    (if fe = false ∧ b = 0xA5#8 then .collecting [] else .discarding, .nothing) :=
  (apply_ite (fun r => (r, ReceiverEvent.nothing)) _ _ _).symm

section
variable (content : List Byte)

theorem Receiver.take_collecting_delimiter :
    Receiver.take (.collecting content) 0xA5#8 false = (.collecting [], .frameEnd content) := rfl

theorem Receiver.take_collecting_escape :
    Receiver.take (.collecting content) 0xA6#8 false = (.escaped content, .nothing) := rfl

theorem Receiver.take_collecting_other {b : Byte} (h5 : b ≠ 0xA5#8) (h6 : b ≠ 0xA6#8) :
    Receiver.take (.collecting content) b false = appendContent content b :=
  (if_neg h5).trans (if_neg h6)

theorem Receiver.take_escaped_other {b : Byte} (h : b ≠ 0xA5#8) (h5 : b ≠ 0x85#8) (h6 : b ≠ 0x86#8) :
    Receiver.take (.escaped content) b false = (.discarding, .badFrame) :=
  (if_neg h).trans ((if_neg h5).trans (if_neg h6))

theorem appendContent_fits {content : List Byte} (h : content.length < 534) (b : Byte) :
    appendContent content b = (.collecting (content ++ [b]), .nothing) := if_pos h

theorem appendContent_full {content : List Byte} (h : 534 ≤ content.length) (b : Byte) :
    appendContent content b = (.discarding, .tooLong) := if_neg (Nat.not_lt.2 h)

end

/-! ### The judgement of a content (R133) -/

theorem contentCrcGood_iff (content : List Byte) : contentCrcGood content = true ↔
    crcBytes (crc16 (content.take (content.length - 2))) = content.drop (content.length - 2) := beq_iff_eq

/-- A content of at least two bytes is judged by its CRC first, then by its length. -/
theorem judgeContent_cons (kind tag : Byte) (rest : List Byte) : judgeContent (kind :: tag :: rest) =
    if !contentCrcGood (kind :: tag :: rest) then .badCrc
    else if (kind :: tag :: rest).length < 6 then .badFrame
    else if u16At (kind :: tag :: rest) 2 ≠ (kind :: tag :: rest).length - 6 then .badFrame
    else .good kind tag ((rest.drop 2).take ((kind :: tag :: rest).length - 6)) := rfl

theorem judgeContent_badCrc {content : List Byte} (h : 2 ≤ content.length)
    (hcrc : crcBytes (crc16 (content.take (content.length - 2))) ≠ content.drop (content.length - 2)) :
    judgeContent content = .badCrc := by
  match content, h with
  | kind :: tag :: rest, _ =>
    rw [judgeContent_cons]
    exact if_pos (by simpa using mt (contentCrcGood_iff _).1 hcrc)

theorem judgeContent_badLength {content : List Byte} (h : 2 ≤ content.length)
    (hcrc : crcBytes (crc16 (content.take (content.length - 2))) = content.drop (content.length - 2))
    (hlength : content.length < 6 ∨
      (content.getD 2 0#8).toNat + 256 * (content.getD 3 0#8).toNat ≠ content.length - 6) :
    judgeContent content = .badFrame := by
  match content, h with
  | kind :: tag :: rest, _ =>
    rw [judgeContent_cons, if_neg (by simpa using (contentCrcGood_iff _).2 hcrc)]
    split
    · rfl
    · exact if_pos (hlength.resolve_left ‹_›)

theorem u16At_le16 {n : Nat} (h : n < 65536) (before after : List Byte) :
    u16At (before ++ le16 n ++ after) before.length = n := by
  have low : (byteOf n).toNat = n % 256 := BitVec.toNat_ofNat ..
  have high : (byteOf (n / 256)).toNat = n / 256 := byteOf_toNat (by omega)
  have field : u16At (before ++ le16 n ++ after) before.length = (byteOf n).toNat + 256 * (byteOf (n / 256)).toNat := by
    simp [u16At, natAt, byteAt, le16, List.getD_eq_getElem?_getD]
  omega

/-- The content of a frame is judged good, as the frame (R131, R133). -/
theorem judgeContent_frameContent (kind tag : Byte) {body : List Byte} (h : body.length ≤ 528) :
    judgeContent (frameContent kind tag body) = .good kind tag body := by
  have hlength := Laws.frameContent_length kind tag body
  have hhead : (frameHead kind tag body).length = body.length + 4 := by simp [frameHead, le16]
  have hcrc : contentCrcGood (frameContent kind tag body) = true := by
    rw [contentCrcGood_iff, hlength]
    have e : body.length + 6 - 2 = (frameHead kind tag body).length := by omega
    rw [e, frameContent, List.take_left', List.drop_left']
    all_goals rfl
  have hu : u16At (frameContent kind tag body) 2 = body.length := by
    have := u16At_le16 (n := body.length) (by omega) [kind, tag] (body ++ crcBytes (crc16 (frameHead kind tag body)))
    simpa [frameContent, frameHead] using this
  have hbody : ((frameContent kind tag body).drop 4).take body.length = body := by
    simp [frameContent, frameHead, le16]
  change (if !contentCrcGood (frameContent kind tag body) then FrameVerdict.badCrc
    else if (frameContent kind tag body).length < 6 then .badFrame
    else if u16At (frameContent kind tag body) 2 ≠ (frameContent kind tag body).length - 6 then .badFrame
    else .good kind tag (((frameContent kind tag body).drop 4).take ((frameContent kind tag body).length - 6))) = _
  rw [hcrc, hlength, hu, Nat.add_sub_cancel, hbody, if_neg (by simp), if_neg (by omega), if_neg (by simp)]

/-! ### The exchange of an SPI byte (R129) -/

section
variable {s : State} {mark : Bool}

theorem LinkMode.isUart_eq_false {m : LinkMode} (h : m = .spi) : m.isUart = false := by rw [h]; rfl

theorem LinkMode.isUart_eq_true {m : LinkMode} (h : m ≠ .spi) : m.isUart = true := by simp [LinkMode.isUart, h]

/-- The message whose next byte the exchange sends (log entry 23). -/
theorem State.clocked_of_tx (hmode : s.mode = .spi) {m : Transmission} (htx : s.link.tx = some m) :
    s.clocked mark = if mark = true ∧ m.sent = 0 then none else some m := by
  have hmark : (mark && decide (m.sent = 0)) = decide (mark = true ∧ m.sent = 0) := by simp
  unfold State.clocked
  rw [LinkMode.isUart_eq_false hmode, if_neg Bool.false_ne_true, htx, Option.filter_some, hmark]
  by_cases hm : mark = true ∧ m.sent = 0
  · rw [if_pos hm, decide_eq_true hm]; rfl
  · rw [if_neg hm, decide_eq_false hm]; rfl

/-- What the exchange does on its way out; in a UART mode there is none. -/
theorem State.exchange_eq (s : State) (mark : Bool) :
    s.exchange mark = if s.mode = .spi then s.spiOut mark else s := by
  unfold State.exchange
  by_cases hmode : s.mode = .spi
  · rw [LinkMode.isUart_eq_false hmode, if_neg Bool.false_ne_true, if_pos hmode]
    unfold State.spiOut
    cases htx : s.link.tx with
    | none => simp only [State.clocked, htx, Option.filter_none, ite_self]; rfl
    | some m =>
      rw [State.clocked_of_tx hmode htx]
      by_cases hm : mark = true ∧ m.sent = 0
      · rw [if_pos hm]; exact (if_pos hm).symm
      · rw [if_neg hm]; exact (if_neg hm).symm
  · rw [LinkMode.isUart_eq_true hmode, if_pos rfl, if_neg hmode]

/-- The exchange closes a message when it clocks out its last byte. -/
theorem State.closesMessage_of (hmode : s.mode = .spi) {m : Transmission} (h : s.ClocksOut mark m) :
    s.closesMessage mark = true := by
  obtain ⟨htx, hmark, hlast⟩ := h
  unfold State.closesMessage
  rw [State.clocked_of_tx hmode htx, if_neg hmark]
  exact decide_eq_true hlast

theorem State.closesMessage_eq_false (h : s.mode = .spi → ∀ m, ¬ s.ClocksOut mark m) :
    s.closesMessage mark = false := by
  by_contra hc
  obtain ⟨hmode, m, hm⟩ := State.closesMessage_spec (by simpa using hc)
  exact h hmode m hm

/-- The exchange that clocks out the last byte of a message has then sent all of it; HCS# is low, and MISO drives that
byte (R129; log entry 20). -/
theorem State.spiOut_hostSide {m : Transmission} (h : s.ClocksOut mark m) : (s.spiOut mark).hostSide =
    { s.hostSide with
      hcsIsHigh := false, hostOut := .driving (m.wire.getD m.sent 0xA5#8), tx := some { m with sent := m.sent + 1 } } := by
  obtain ⟨htx, hmark, -⟩ := h
  unfold State.spiOut
  rw [htx]
  dsimp only
  rw [if_neg hmark]
  rfl

/-- Of the link the exchange writes the message in transmission only. -/
theorem State.spiOut_counters (s : State) (mark : Bool) : (s.spiOut mark).link.counters = s.link.counters := by
  unfold State.spiOut
  split
  · rfl
  · split <;> rfl

theorem State.spiOut_inReset (s : State) (mark : Bool) : (s.spiOut mark).inReset = s.inReset := by
  unfold State.spiOut
  split
  · rfl
  · split <;> rfl

end
end Sys2Proof.Machine
end

section
/-! One inbound byte: the receiver's table, and the completion that an SPI exchange brings (R129, R133, R139). -/

namespace Sys2Proof.Machine

/-! ### The completion of a message at its owner (R57, R134, R139) -/

/-- The transmitter is free, and the owner of the message learns of its completion. -/
theorem State.txSent_eq {s : State} {m : Transmission} (htx : s.link.tx = some m) :
    s.txSent = ({ s with link := { s.link with tx := none } } : State).completed m.what := by
  unfold State.txSent
  rw [htx]
  rfl

theorem State.completed_reply {s : State} {r : Reply} {rest : List Reply} (hreplies : s.link.replies = r :: rest)
    (hkind : r.kind ≠ 0x03#8 ∨ r.refusal = true) : s.completed (.reply r) = { s with link := { s.link with
      replies := rest
      requests := if r.refusal then s.link.requests else s.link.requests.filter fun q => decide (q.tag ≠ r.tag) } } := by
  refine (if_neg (by simpa [imp_iff_not_or] using hkind)).trans ?_
  unfold State.replySent
  rw [hreplies, List.erase_cons_head]
  rfl

theorem State.completed_batch (s : State) (c : ChannelId) : s.completed (.batch c) =
    let x := s.channels[c]
    let y : Channel := { x with
      inflight := [], usage := x.usage - x.inflight.length
      counters := { x.counters with
        sent := min (x.counters.sent + x.inflight.length) 4294967295
        batches := min (x.counters.batches + 1) 4294967295 } }
    { s with
      store := s.store.releaseAll x.inflight
      channels := setAt s.channels c { y with offered := y.ready } } :=
  State.evalReady_setChannel { s with store := s.store.releaseAll (s.channels[c]).inflight } c _

/-- The report of a completion holds of the state it leaves. -/
theorem State.sentReport_of_txSent {s : State} {what : Outgoing} {ends : State → Prop} {m : Transmission}
    (htx : s.link.tx = some m) (hwhat : m.what = what) (h : ends s.txSent) : s.SentReport what ends := by
  have hsent := State.txSent_eq htx
  rw [hwhat] at hsent
  have report : ∀ t, s.txSent = t → ends t := fun t e => e ▸ h
  refine ⟨fun r rest hw hreplies hkind => ?_, fun e hw => ?_, fun c hw => ?_⟩ <;> subst hw
  · exact report _ (hsent.trans (State.completed_reply hreplies hkind))
  · exact report _ hsent
  · exact report _ (hsent.trans (State.completed_batch _ c))

/-! ### The byte (R133) -/

section
variable {s : State} (dt : Nat) (b : Byte) (mark : Bool)

/-- Time has come to an inbound byte, its exchange has gone out, and the receiver has moved to `r` (log entry 3). -/
def State.receiving (s : State) (dt : Nat) (mark : Bool) (r : Receiver) : State :=
  let out : State := if s.mode = .spi then s.spiOut mark else s
  { out with timeBase := s.timeBase + BitVec.ofNat 32 dt, link := { out.link with receiver := r } }

theorem State.spiOut_elapse (s : State) (dt : Nat) (mark : Bool) :
    (s.elapse dt).spiOut mark = { s.spiOut mark with timeBase := s.timeBase + BitVec.ofNat 32 dt } := by
  unfold State.spiOut
  rw [State.elapse_link]
  cases s.link.tx with
  | none => rfl
  | some m =>
    by_cases hm : mark = true ∧ m.sent = 0
    · simp only [if_pos hm]; rfl
    · simp only [if_neg hm]; rfl

/-- An inbound byte: the receiver moves, its event is taken, and then the message that the exchange closes completes. -/
theorem exec_inboundByte (hr : s.inReset = false) {r : Receiver} {e : ReceiverEvent}
    (htake : s.link.receiver.take b (mark && decide (s.mode ≠ .spi)) = (r, e)) :
    exec (.inboundByte dt b mark) s = .next
      ((if s.closesMessage mark then ((s.receiving dt mark r).receiverEvent e).txSent
        else (s.receiving dt mark r).receiverEvent e).finish (s.closesMessage mark)) := by
  have huart : decide (s.mode ≠ .spi) = s.mode.isUart := by simp [LinkMode.isUart]
  have hcloses : (s.elapse dt).closesMessage mark = s.closesMessage mark := rfl
  have hout : ((s.elapse dt).exchange mark).setLink { ((s.elapse dt).exchange mark).link with receiver := r } =
      s.receiving dt mark r := by
    rw [State.exchange_eq]
    unfold State.receiving
    rw [State.spiOut_elapse, State.elapse_mode]
    by_cases hmode : s.mode = .spi
    · simp only [if_pos hmode]; rfl
    · simp only [if_neg hmode]; rfl
  have taken : inboundByte b mark (s.elapse dt) =
      if s.closesMessage mark then ((s.receiving dt mark r).receiverEvent e).txSent
      else (s.receiving dt mark r).receiverEvent e := by
    have hreceiver : (s.elapse dt).link.receiver.take b (mark && (s.elapse dt).mode.isUart) = (r, e) := huart ▸ htake
    unfold inboundByte
    dsimp only
    rw [hreceiver, hout, hcloses]
  refine congrArg Host.Outcome.next ((if_neg (by simp [hr])).trans ?_)
  rw [taken]

/-- A byte whose exchange, if there is one, closes no message. -/
theorem exec_inboundByte_open (hr : s.inReset = false) {r : Receiver} {e : ReceiverEvent}
    (htake : s.link.receiver.take b (mark && decide (s.mode ≠ .spi)) = (r, e))
    (hopen : s.mode = .spi → ∀ m, ¬ s.ClocksOut mark m) :
    exec (.inboundByte dt b mark) s = .next (((s.receiving dt mark r).receiverEvent e).finish false) := by
  rw [exec_inboundByte dt b mark hr htake, State.closesMessage_eq_false hopen]
  rfl

/-- A byte whose exchange clocks out the last byte of a message: the message completes after the byte. -/
theorem exec_inboundByte_closing (hr : s.inReset = false) {r : Receiver} {e : ReceiverEvent}
    (htake : s.link.receiver.take b (mark && decide (s.mode ≠ .spi)) = (r, e))
    (hmode : s.mode = .spi) {m : Transmission} (hm : s.ClocksOut mark m) :
    exec (.inboundByte dt b mark) s = .next (((s.receiving dt mark r).receiverEvent e).txSent.finish true) := by
  rw [exec_inboundByte dt b mark hr htake, State.closesMessage_of hmode hm]
  rfl

theorem State.receiving_uart (h : s.mode ≠ .spi) (r : Receiver) : s.receiving dt mark r = { s with
    timeBase := s.timeBase + BitVec.ofNat 32 dt, link := { s.link with receiver := r } } := by
  unfold State.receiving
  simp only [if_neg h]

theorem State.receiving_spi (h : s.mode = .spi) (r : Receiver) : s.receiving dt mark r = { s.spiOut mark with
    timeBase := s.timeBase + BitVec.ofNat 32 dt, link := { (s.spiOut mark).link with receiver := r } } := by
  unfold State.receiving
  simp only [if_pos h]

theorem State.receiving_inReset (r : Receiver) : (s.receiving dt mark r).inReset = s.inReset := by
  unfold State.receiving
  split
  · exact s.spiOut_inReset mark
  · rfl

/-- The host's side when an exchange has clocked out the last byte of a message and the byte in has been taken. -/
theorem State.received_hostSide (h : s.mode = .spi) {m : Transmission} (hm : s.ClocksOut mark m) (r : Receiver)
    (e : ReceiverEvent) : ((s.receiving dt mark r).receiverEvent e).hostSide = { s.hostSide with
      hcsIsHigh := false, hostOut := .driving (m.wire.getD m.sent 0xA5#8), tx := some { m with sent := m.sent + 1 } } := by
  rw [State.receiverEvent_hostSide, State.receiving_spi dt mark h, ← State.spiOut_hostSide hm]
  rfl

end

/-! ### The frame that a delimiter ends (R133) -/

section
variable {content : List Byte}

theorem State.frameEnded_badFrame (h : judgeContent content = .badFrame) (s : State) :
    s.receiverEvent (.frameEnd content) = s.countLink LinkCounters.badFrames := by
  change s.frameEnded content = _
  unfold State.frameEnded
  rw [h]

theorem State.frameEnded_badCrc (h : judgeContent content = .badCrc) (s : State) :
    s.receiverEvent (.frameEnd content) = s.countLink fun c => { c with badCrc := bump c.badCrc 1 } := by
  change s.frameEnded content = _
  unfold State.frameEnded
  rw [h]

theorem State.frameEnded_good {kind tag : Byte} {body : List Byte} (h : judgeContent content = .good kind tag body)
    (s : State) : s.receiverEvent (.frameEnd content) = deliver kind tag body s := by
  change s.frameEnded content = _
  unfold State.frameEnded
  rw [h]

end

/-! ### The receiver's table for the whole part -/

/-- An inbound byte takes the receiver to `r` and the LINK counters through `f`, beside its exchange in the SPI mode
(R129, R133). -/
def State.ReceiverGoes (s : State) (dt : Nat) (b : Byte) (mark : Bool) (r : Receiver)
    (f : LinkCounters → LinkCounters) : Prop :=
  let taken (u : State) : State := { u with
    timeBase := s.timeBase + BitVec.ofNat 32 dt
    link := { u.link with receiver := r, counters := f s.link.counters } }
  let ends (chained : Bool) (u : State) : Prop := exec (.inboundByte dt b mark) s = .next (u.finish chained)
  (s.mode ≠ .spi → ends false (taken s))
  ∧ (s.mode = .spi →
    ((∀ m, ¬ s.ClocksOut mark m) → ends false (taken (s.spiOut mark)))
    ∧ ∀ m, s.ClocksOut mark m → (taken (s.spiOut mark)).SentReport m.what (ends true))

/-- A move of the receiver that does no more than count is the move of the whole part (R133). -/
theorem State.receiverGoes_of_take {s : State} (hr : s.inReset = false) (dt : Nat) {b : Byte} {mark : Bool}
    {r : Receiver} {e : ReceiverEvent} {f : LinkCounters → LinkCounters}
    (htake : s.link.receiver.take b (mark && decide (s.mode ≠ .spi)) = (r, e))
    (hcounts : ∀ u : State, u.receiverEvent e = u.countLink f) : s.ReceiverGoes dt b mark r f := by
  refine ⟨fun hmode => ?_, fun hmode => ⟨fun hopen => ?_, fun m hm => ?_⟩⟩
  · refine (exec_inboundByte_open dt b mark hr htake fun h => absurd h hmode).trans ?_
    rw [hcounts, State.receiving_uart dt mark hmode]
    rfl
  · refine (exec_inboundByte_open dt b mark hr htake fun _ => hopen).trans ?_
    rw [hcounts, State.receiving_spi dt mark hmode, ← State.spiOut_counters s mark]
    rfl
  · refine State.sentReport_of_txSent (m := { m with sent := m.sent + 1 })
      (congrArg HostSide.tx (State.spiOut_hostSide hm)) rfl ?_
    refine (exec_inboundByte_closing dt b mark hr htake hmode hm).trans ?_
    rw [hcounts, State.receiving_spi dt mark hmode, ← State.spiOut_counters s mark]
    rfl

/-- Settles O6: the receiver's own table, byte by byte, with what its event counts. -/
theorem receiverFollowsItsTable : Obligations.ReceiverFollowsItsTable := by
  unfold Obligations.ReceiverFollowsItsTable
  intro s dt b mark hr fe ends goes bad long crc
  have moves : ∀ {start r : Receiver} {e : ReceiverEvent} {f : LinkCounters → LinkCounters},
      s.link.receiver = start → start.take b fe = (r, e) → (∀ u : State, u.receiverEvent e = u.countLink f) →
      goes r f := fun hstart htake hcounts => State.receiverGoes_of_take hr dt (hstart ▸ htake) hcounts
  have quiet : ∀ u : State, u.receiverEvent .nothing = u.countLink id := fun _ => rfl
  have badFrame : ∀ u : State, u.receiverEvent .badFrame = u.countLink bad := fun _ => rfl
  have tooLong : ∀ u : State, u.receiverEvent .tooLong = u.countLink long := fun _ => rfl
  refine ⟨fun h => moves h (Receiver.take_hunting b fe) quiet, fun h => moves h (Receiver.take_discarding b fe) quiet,
    fun content => ⟨fun h => ⟨fun hfe => ?_, fun hfe hb hc => ?_, fun hfe hb hc => ?_, fun hfe hb hc hcrc => ?_,
      fun hfe hb hc hcrc hlen => ?_, fun hfe hb => ?_, fun hfe h5 h6 hfits => ?_, fun hfe h5 h6 hfull => ?_⟩,
      fun h => ⟨fun hfe => ?_, fun hfe hb => ?_, fun hfe hb hfits => ?_, fun hfe hb hfits => ?_,
        fun hfe hb hfull => ?_, fun hfe h5 h85 h86 => ?_⟩⟩⟩
  all_goals rw [hfe] at moves
  · exact moves h rfl badFrame
  · subst hb hc
    exact moves h rfl quiet
  · subst hb
    obtain ⟨x, rfl⟩ := List.length_eq_one_iff.1 hc
    exact moves h rfl badFrame
  · subst hb
    exact moves h rfl (State.frameEnded_badCrc (judgeContent_badCrc hc hcrc))
  · subst hb
    exact moves h rfl (State.frameEnded_badFrame (judgeContent_badLength hc hcrc hlen))
  · subst hb
    exact moves h rfl quiet
  · exact moves h ((Receiver.take_collecting_other content h5 h6).trans (appendContent_fits hfits b)) quiet
  · exact moves h ((Receiver.take_collecting_other content h5 h6).trans (appendContent_full hfull b)) tooLong
  · exact moves h rfl badFrame
  · subst hb
    exact moves h rfl badFrame
  · subst hb
    exact moves h (appendContent_fits hfits 0xA5#8) quiet
  · subst hb
    exact moves h (appendContent_fits hfits 0xA6#8) quiet
  · obtain rfl | rfl := hb
    · exact moves h (appendContent_full hfull 0xA5#8) tooLong
    · exact moves h (appendContent_full hfull 0xA6#8) tooLong
  · exact moves h (Receiver.take_escaped_other content h5 h85 h86) badFrame

end Sys2Proof.Machine
end

section
/-! The delimiter that ends a good frame, and its request (R129, R133, R134, R136). -/

namespace Sys2Proof.Machine

/-! ### The end of a step after the end of a step

A request's own row ends with the pins; the exchange that closes a message ends once more. The level of ATTN# that the
first end has set is not looked at by the second. -/

/-- The state with ATTN# at another level. -/
def State.withAttn (s : State) (low : Bool) : State := { s with attnLow := low }

section
variable (low : Bool) (chained : Bool)

theorem State.sendBatch_withAttn (s : State) (c : ChannelId) :
    (s.withAttn low).sendBatch chained c = (s.sendBatch chained c).withAttn low := by
  have hnotices : ∀ was now, (s.withAttn low).levelNotices c was now = s.levelNotices c was now := fun was now => by
    simp only [State.levelNotices, State.raise_notices]
    rfl
  rw [State.sendBatch_eq, State.sendBatch_eq, hnotices]
  rfl

theorem State.pick_withAttn : ∀ (fuel : Nat) (s : State),
    State.pick chained fuel (s.withAttn low) = (State.pick chained fuel s).withAttn low
  | 0, _ => rfl
  | fuel + 1, s => by
    have offered : (s.withAttn low).nextOffered = s.nextOffered := rfl
    have replies : (s.withAttn low).link.replies = s.link.replies := rfl
    have notices : (s.withAttn low).notices.offer = s.notices.offer := rfl
    unfold State.pick
    rw [offered, replies, notices]
    dsimp only
    have batch : ∀ c, (if ((s.withAttn low).channels[c]).ready = true then (s.withAttn low).sendBatch chained c
        else State.pick chained fuel ((s.withAttn low).withdrawOffer c)) =
        State.withAttn (if (s.channels[c]).ready = true then s.sendBatch chained c
          else State.pick chained fuel (s.withdrawOffer c)) low := fun c => by
      by_cases hready : (s.channels[c]).ready = true
      · rw [if_pos hready, ← State.sendBatch_withAttn]; exact if_pos hready
      · rw [if_neg hready, ← State.pick_withAttn]; exact if_neg hready
    by_cases hrun : s.link.nonBatchRun = 4 ∧ s.anyOffered = true
    · rw [if_pos hrun]
      refine (if_pos hrun).trans ?_
      cases s.nextOffered with
      | none => rfl
      | some c => exact batch c
    · rw [if_neg hrun]
      refine (if_neg hrun).trans ?_
      cases s.link.replies with
      | cons r rest => rfl
      | nil =>
        cases s.notices.offer with
        | some p => rfl
        | none =>
          cases s.nextOffered with
          | none => rfl
          | some c => exact batch c

theorem State.finish_withAttn (s : State) : (s.withAttn low).finish chained = s.finish chained := by
  have harbitrate : (s.withAttn low).arbitrate chained = (s.arbitrate chained).withAttn low := by
    unfold State.arbitrate
    by_cases hfree : s.link.tx.isNone = true
    · rw [if_pos hfree, ← State.pick_withAttn]; exact if_pos hfree
    · rw [if_neg hfree]; exact if_neg hfree
  unfold State.finish
  rw [harbitrate]
  rfl

theorem State.completed_withAttn (s : State) (what : Outgoing) :
    ((s.withAttn low).completed what).finish chained = (s.completed what).finish chained := by
  cases what with
  | reply r =>
    by_cases hreset : r.kind = 0x03#8 ∧ r.refusal = false
    · simp only [State.completed, if_pos hreset]
      rfl
    · simp only [State.completed, if_neg hreset]
      exact (s.replySent r).finish_withAttn low chained
  | notice e => exact s.finish_withAttn low chained
  | batch c =>
    rw [← State.finish_withAttn low chained (s.completed (.batch c)), State.completed_batch, State.completed_batch]
    rfl

/-- So a completion that ends a step leaves the same after a step that had ended before it. -/
theorem State.txSent_withAttn {s : State} {m : Transmission} (htx : s.link.tx = some m) :
    (s.withAttn low).txSent.finish chained = s.txSent.finish chained := by
  rw [State.txSent_eq htx, State.txSent_eq (s := s.withAttn low) htx]
  exact State.completed_withAttn low chained { s with link := { s.link with tx := none } } m.what

end

/-- MISO keeps its byte while HCS# is low (R129; log entry 20). -/
theorem State.outPin_of_driving {s : State} (hmode : s.mode = .spi) (hr : s.inReset = false)
    (hcs : s.hcsIsHigh = false) {b : Byte} (hout : s.hostOut = .driving b) : s.outPin = s.hostOut := by
  unfold State.outPin
  rw [LinkMode.isUart_eq_false hmode, if_neg Bool.false_ne_true, if_neg (by simp [hr, hcs]), hout]

/-- Between exchanges the end of a step with a message in transmission sets ATTN# only. -/
theorem State.finish_spi {s : State} (hmode : s.mode = .spi) (hr : s.inReset = false) (hcs : s.hcsIsHigh = false)
    {b : Byte} (hout : s.hostOut = .driving b) {m : Transmission} (htx : s.link.tx = some m) (chained : Bool) :
    s.finish chained = s.withAttn true := by
  rw [State.finish_of_tx chained hr htx, State.outPin_of_driving hmode hr hcs hout]
  rfl

/-! ### The request of a good frame (R133, R136) -/

/-- Settles O7. The frame is judged good, so the event of its delimiter is the request at acceptance; the exchange that
closes a message then finds it still in transmission, and the pins as the exchange left them. -/
theorem goodFrameRunsItsRequest : Obligations.GoodFrameRunsItsRequest := by
  unfold Obligations.GoodFrameRunsItsRequest
  intro i s dt mark kind tag body hw hf hr hmark hreceiver out moved
  have hgood := judgeContent_frameContent kind tag (body_length_of_frame hw hf)
  have htake : s.link.receiver.take 0xA5#8 (mark && decide (s.mode ≠ .spi)) =
      (.collecting [], .frameEnd (frameContent kind tag body)) := by
    have hfe : (mark && decide (s.mode ≠ .spi)) = false := by
      obtain h | h := hmark <;> simp [h]
    rw [hreceiver, hfe]
    rfl
  have hmoved : s.receiving dt mark (.collecting []) = moved := rfl
  have hrow : moved.inReset = false := (State.receiving_inReset dt mark _).trans hr
  have request : exec i moved = .next ((deliver kind tag body moved).finish false) :=
    (exec_of_frame hw hf moved).trans (perform_awake hrow _)
  refine ⟨fun hopen => ?_, fun m t hmode hm ht => ?_⟩
  · rw [exec_inboundByte_open dt 0xA5#8 mark hr htake hopen, State.frameEnded_good hgood, hmoved, request]
  · have received : (s.receiving dt mark (.collecting [])).receiverEvent (.frameEnd (frameContent kind tag body)) =
        deliver kind tag body moved := State.frameEnded_good hgood _
    have side := State.received_hostSide dt mark hmode hm (.collecting []) (.frameEnd (frameContent kind tag body))
    rw [received] at side
    have htx := congrArg HostSide.tx side
    have ended := State.finish_spi ((congrArg HostSide.mode side).trans hmode) ((congrArg HostSide.inReset side).trans hr)
      (congrArg HostSide.hcsIsHigh side) (congrArg HostSide.hostOut side) htx false
    rw [request, ended] at ht
    obtain rfl := Host.Outcome.next.inj ht
    refine State.sentReport_of_txSent (m := { m with sent := m.sent + 1 }) htx rfl ?_
    rw [exec_inboundByte_closing dt 0xA5#8 mark hr htake hmode hm, received, State.txSent_withAttn true true htx]

end Sys2Proof.Machine
end

section
/-! HOLD# and HCS#, and the completion they hold back (R128, R129, R139). -/

namespace Sys2Proof.Machine

/-! ### The pins with a message in transmission (R128, R129) -/

section
variable {s : State}

theorem State.outPin_spi_deselected (hmode : s.mode = .spi) (hcs : s.hcsIsHigh = true) : s.outPin = .highZ := by
  unfold State.outPin
  rw [LinkMode.isUart_eq_false hmode, if_neg Bool.false_ne_true, if_pos (by simp [hcs])]

/-- HTXD carries the message, unless HOLD# pauses it with bytes left (R128). -/
theorem State.outPin_uart_sending (hmode : s.mode ≠ .spi) (hr : s.inReset = false) {m : Transmission}
    (htx : s.link.tx = some m) :
    s.outPin = if s.holdLow = true ∧ m.sent < m.wire.length then .mark else .sending := by
  unfold State.outPin
  rw [LinkMode.isUart_eq_true hmode, if_pos rfl, if_neg (by simp [hr]), htx]
  simp only [Bool.and_eq_true, decide_eq_true_eq]

/-- The end of a step in a UART mode with a message in transmission. -/
theorem State.finish_uart_sending (hmode : s.mode ≠ .spi) (hr : s.inReset = false) {m : Transmission}
    (htx : s.link.tx = some m) (chained : Bool) : s.finish chained = { s with
      attnLow := true
      hostOut := if s.holdLow = true ∧ m.sent < m.wire.length then .mark else .sending } := by
  rw [State.finish_of_tx chained hr htx, State.outPin_uart_sending hmode hr htx]

/-- A message whose bytes HOLD# or the host's clock holds back does not complete (R128, R129; log entry 5). -/
theorem State.unfinished_iff (s : State) (m : Transmission) : s.unfinished m = true ↔
    if s.mode = .spi then m.sent + 1 < m.wire.length else s.holdLow = true ∧ m.sent < m.wire.length := by
  unfold State.unfinished State.held
  by_cases hmode : s.mode = .spi
  · simp [LinkMode.isUart_eq_false hmode, if_pos hmode]
  · simp [LinkMode.isUart_eq_true hmode, if_neg hmode]

theorem messageCompletion_unfinished {m : Transmission} (htx : s.link.tx = some m) (h : s.unfinished m = true) :
    messageCompletion s = s := by
  unfold messageCompletion
  rw [htx]
  exact if_pos h

theorem messageCompletion_finished {m : Transmission} (htx : s.link.tx = some m) (h : s.unfinished m = false) :
    messageCompletion s = s.clockedOut.messageSent m := by
  unfold messageCompletion
  rw [htx]
  exact if_neg (by simp [h])

/-- A completion out of reset. -/
theorem exec_messageCompletion (hr : s.inReset = false) (dt : Nat) : exec (.messageCompletion dt) s =
    .next ((messageCompletion (s.elapse dt)).finish s.link.tx.isSome) :=
  congrArg Host.Outcome.next (if_neg (by simp [hr]))

/-- A pin level from outside, out of reset. -/
theorem performPin_awake {f : State → State} (h : (f s).inReset = false) :
    performPin f s = .next ((f s).finish false) :=
  congrArg Host.Outcome.next (if_neg (by simp [h]))

/-- The end of the step leaves HOLD# and HCS# as the pin's change has set them. -/
theorem performPin_levels (f : State → State) (s : State) : ∃ t, performPin f s = .next t
    ∧ t.holdLow = (f s).holdLow ∧ t.hcsIsHigh = (f s).hcsIsHigh := by
  refine ⟨_, rfl, ?_⟩
  split
  · exact ⟨rfl, rfl⟩
  · simp

theorem holdAssert_holdLow (begun : Nat) (s : State) : (holdAssert begun s).holdLow = true := by
  unfold holdAssert
  split <;> rfl

end

/-- Settles O15: each level at its pin, with a message in transmission and without. -/
theorem holdAndSelectPins : Obligations.HoldAndSelectPins := by
  unfold Obligations.HoldAndSelectPins
  refine ⟨fun s begun m hr hmode hhold htx => ?_, fun s m hr hmode htx => ?_, fun s m hr hmode htx => ?_,
    fun s hr hmode htx => ⟨fun hreplies hnotices hoffers => ?_, performPin_awake (f := hcsHigh) hr, by simp, ?_⟩,
    fun s dt m hr hmode hhold htx hleft => ?_, fun s begun => ?_⟩
  · have held : holdAssert begun s = { s with
        holdLow := true
        link := { s.link with tx := some { m with sent := max m.sent (min begun m.wire.length) } } } := by
      refine (if_pos ⟨LinkMode.isUart_eq_true hmode, hhold⟩).trans ?_
      rw [htx]
      rfl
    have awake : (holdAssert begun s).inReset = false := held ▸ hr
    have ended := State.finish_uart_sending (held ▸ hmode) awake (congrArg (fun u : State => u.link.tx) held) false
    refine (performPin_awake awake).trans ?_
    rw [ended, held]
    simp only [true_and]
  · refine (performPin_awake (f := holdRelease) hr).trans ?_
    rw [State.finish_uart_sending (s := holdRelease s) hmode hr htx, if_neg (by simp [holdRelease])]
    rfl
  · refine (performPin_awake (f := hcsHigh) hr).trans ?_
    rw [State.finish_of_tx false (s := hcsHigh s) hr htx, State.outPin_spi_deselected (s := hcsHigh s) hmode rfl]
    rfl
  · refine (performPin_awake (f := hcsHigh) hr).trans ?_
    rw [State.finish_idle false (s := hcsHigh s) htx hreplies hnotices (by simpa [hcsHigh] using hoffers),
      State.outPin_spi_deselected (s := hcsHigh s) hmode rfl]
    rfl
  · exact State.outPin_spi_deselected (by simpa using hmode) (by simp)
  · have paused : (s.elapse dt).unfinished m = true :=
      ((s.elapse dt).unfinished_iff m).2 (by simp [hmode, hhold, hleft])
    rw [exec_messageCompletion hr, messageCompletion_unfinished (s := s.elapse dt) htx paused,
      State.finish_uart_sending (s := s.elapse dt) hmode hr htx, if_pos ⟨hhold, hleft⟩]
    rfl
  · obtain ⟨t, ht, hlow, -⟩ := performPin_levels (holdAssert begun) s
    obtain ⟨u, hu, hhigh, -⟩ := performPin_levels holdRelease s
    obtain ⟨v, hv, -, hcs⟩ := performPin_levels hcsHigh s
    exact ⟨t, u, v, ht, hlow.trans (holdAssert_holdLow begun s), hu, hhigh, hv, hcs⟩

end Sys2Proof.Machine
end

section
/-! PART_RESET: its reply, the frames dropped until that has been sent, and the reset (R129, R136, R139, R143, R144). -/

namespace Sys2Proof.Machine

/-! ### Acceptance (R136, R143) -/

/-- PART_RESET passes the session check in every session (R136). -/
theorem exec_partReset {s : State} {tag : Byte} (hr : s.inReset = false) (hp : s.link.resetPending = false)
    (ht : tag ≠ 0#8) (hfree : ∀ r ∈ s.link.requests, r.tag ≠ tag) (hroom : s.link.requests.length < 8) :
    exec (.partReset tag []) s = .next (State.finish
      ((({ s with link := { s.link with resetPending := true } } : State)).replied 0x03#8 tag .ok []) false) := by
  have accepted : s.acceptance 0x03#8 tag [] = none :=
    (State.acceptance_sessionCheck ht (lengths := [0]) rfl (List.mem_singleton.2 rfl)).trans
      ((State.sessionCheck_passes (.inr (.inl rfl))).trans (State.tableCheck_none hfree hroom))
  refine perform_entered hr hp accepted (owner := partReset tag) ?_
  unfold partReset
  rw [State.answer_enter hfree]
  rfl

/-- While a reset is pending acceptance drops every frame, a request kind or none (R136, R143). -/
theorem exec_frame_pending {i : Instr} (hf : (frameOf i).isSome) {s : State} (hr : s.inReset = false)
    (hp : s.link.resetPending = true) : exec i s = .next (s.finish false) := by
  have dropped : ∀ (kind tag : Byte) (body : List Byte) (owner : State → State),
      perform (takeFrame kind tag body owner) s = .next (s.finish false) := fun kind tag body owner => by
    rw [perform_awake hr, takeFrame_pending hp]
  obtain ⟨⟨kind, tag, body⟩, hf⟩ := Option.isSome_iff_exists.1 hf
  cases i
  case unknownKindFrame =>
    have taken : takeUnknownKind kind tag body s = s := by
      unfold takeUnknownKind
      split
      · exact takeFrame_pending hp
      · rfl
    cases hf
    exact (perform_awake hr _).trans (by rw [taken])
  all_goals cases hf
  all_goals exact dropped _ _ _ _

/-! ### The reset (R143, R144) -/

/-- The reset state, with the waiting commands, the pin levels from outside and the link mode as they were (R143;
log entry 7). -/
def HostSide.afterReset (h : HostSide) : State := { State.reset with
  pending := h.pending, holdLow := h.holdLow, mode := h.mode, hcsIsHigh := h.hcsIsHigh
  hostOut := if h.mode = .spi then .driving 0xA5#8 else .mark }

/-- After a reset nothing waits: the end of the step drives the pins only (R144). -/
theorem State.cleared_finish {s : State} (hr : s.inReset = false) (hcs : s.mode = .spi → s.hcsIsHigh = false)
    (chained : Bool) : s.cleared.finish chained = s.hostSide.afterReset := by
  have hout : s.cleared.outPin = if s.mode = .spi then .driving 0xA5#8 else .mark := by
    unfold State.outPin
    by_cases hmode : s.mode = .spi
    · rw [if_pos hmode, LinkMode.isUart_eq_false (m := s.cleared.mode) hmode, if_neg Bool.false_ne_true,
        if_neg (by simp [State.cleared, hr, hcs hmode])]
      rfl
    · rw [if_neg hmode, LinkMode.isUart_eq_true (m := s.cleared.mode) hmode, if_pos rfl]
      exact ite_self _
  rw [State.finish_idle chained (s := s.cleared) rfl rfl rfl s.cleared_not_offered, hout]
  unfold State.cleared HostSide.afterReset
  rw [hr]
  rfl

theorem State.completed_resetReply {s : State} {r : Reply} (hkind : r.kind = 0x03#8) (hr : r.refusal = false) :
    s.completed (.reply r) = (s.replySent r).cleared := if_pos ⟨hkind, hr⟩

/-- The completion of the reply to PART_RESET resets the part (R143). -/
theorem State.txSent_resetReply {s : State} {m : Transmission} {tag : Byte} (htx : s.link.tx = some m)
    (hwhat : m.what = .reply (acceptedReply 0x03#8 tag .ok [])) (hr : s.inReset = false)
    (hcs : s.mode = .spi → s.hcsIsHigh = false) (chained : Bool) :
    s.txSent.finish chained = s.hostSide.afterReset := by
  have reset : s.txSent = s.cleared := by
    rw [State.txSent_eq htx, hwhat, State.completed_resetReply rfl rfl]
    rfl
  rw [reset, State.cleared_finish hr hcs]

/-- A completion in the SPI mode comes at the last clock of the closing delimiter (R129, R139). -/
theorem State.clockedOut_hostSide (s : State) : s.clockedOut.hostSide = { s.hostSide with
    hcsIsHigh := if s.mode = .spi then false else s.hcsIsHigh
    hostOut := if s.mode = .spi then .driving 0xA5#8 else s.hostOut } := by
  unfold State.clockedOut
  by_cases hmode : s.mode = .spi
  · simp only [if_pos hmode, LinkMode.isUart_eq_false hmode, if_neg Bool.false_ne_true]; rfl
  · simp only [if_neg hmode, LinkMode.isUart_eq_true hmode, if_true]; rfl

/-- Settles O13: the reply is sent by a completion, or by the exchange of its closing delimiter. -/
theorem partResetTakesEffectAtItsReply : Obligations.PartResetTakesEffectAtItsReply := by
  unfold Obligations.PartResetTakesEffectAtItsReply
  refine ⟨fun s tag => exec_partReset, fun i s hf => exec_frame_pending hf, fun s dt m tag hr htx hwhat => ?_⟩
  intro reset
  have hreset : ∀ h : HostSide, h.pending = s.pending → h.holdLow = s.holdLow → h.mode = s.mode →
      h.hcsIsHigh = (if s.mode = .spi then false else s.hcsIsHigh) → h.afterReset = reset := by
    rintro ⟨⟩ rfl rfl rfl rfl
    rfl
  refine ⟨fun hdone => ?_, fun value mark hmode hm => ?_⟩
  · have finished : (s.elapse dt).unfinished m = false := by
      rw [Bool.eq_false_iff, ne_eq, State.unfinished_iff, State.elapse_mode, State.elapse_holdLow]
      split at hdone <;> simp_all [imp_iff_not_or]
    have side := (s.elapse dt).clockedOut_hostSide
    have sending := (congrArg HostSide.tx side).trans htx
    have sent := State.txSent_resetReply sending hwhat
      ((congrArg HostSide.inReset side).trans hr)
      (fun hmode => (congrArg HostSide.hcsIsHigh side).trans (if_pos ((congrArg HostSide.mode side).symm.trans hmode)))
      s.link.tx.isSome
    rw [exec_messageCompletion hr, messageCompletion_finished (s := s.elapse dt) htx finished]
    rw [State.txSent_eq sending, side] at sent
    exact congrArg Host.Outcome.next (sent.trans (hreset _ rfl rfl rfl rfl))
  · have side := fun r e => State.received_hostSide dt mark hmode hm r e
    have sent := fun r e => State.txSent_resetReply (congrArg HostSide.tx (side r e)) hwhat
      ((congrArg HostSide.inReset (side r e)).trans hr) (fun _ => congrArg HostSide.hcsIsHigh (side r e)) true
    rw [exec_inboundByte_closing dt value mark hr rfl hmode hm, sent, side]
    exact congrArg Host.Outcome.next (hreset _ rfl rfl rfl (if_pos hmode).symm)

end Sys2Proof.Machine
end

section
/-! The encoding of a frame: its CRC, its stuffing, and its reception byte by byte (R131, R132, R133). -/

namespace Sys2Proof.Machine

/-! ### Numbers and the CRC (R131) -/

theorem crc16_append_singleton (bytes : List Byte) (b : Byte) :
    crc16 (bytes ++ [b]) = crcBit^[8] (crc16 bytes ^^^ (b.setWidth 16 <<< 8)) :=
  List.foldl_append ..

theorem crcBytes_eq (c : Crc) : crcBytes c = [BitVec.ofNat 8 (c.toNat / 256), BitVec.ofNat 8 c.toNat] := by
  have high : (c >>> 8).setWidth 8 = BitVec.ofNat 8 (c.toNat / 256) :=
    BitVec.eq_of_toNat_eq (by simp [Nat.shiftRight_eq_div_pow])
  unfold crcBytes
  rw [high]
  rfl

/-! ### Stuffing (R132) -/

theorem stuffByte_eq (b : Byte) : stuffByte b =
    if b = 0xA5#8 then [0xA6#8, 0x85#8] else if b = 0xA6#8 then [0xA6#8, 0x86#8] else [b] := by
  unfold stuffByte
  by_cases h5 : b = 0xA5#8
  · subst h5; rfl
  · by_cases h6 : b = 0xA6#8
    · subst h6; rfl
    · rw [if_neg h5, if_neg h6]
      exact if_neg (not_or.2 ⟨h5, h6⟩)

/-! ### Reception (R133) -/

/-- The receiver after bytes without a framing error. -/
def Receiver.takeAll (r : Receiver) (bytes : List Byte) : Receiver :=
  bytes.foldl (fun r b => (Receiver.take r b false).1) r

/-- A content byte, stuffed, is received as that byte. -/
theorem Receiver.takeAll_stuffByte {content : List Byte} (h : content.length < 534) (b : Byte) :
    (Receiver.collecting content).takeAll (stuffByte b) = .collecting (content ++ [b]) := by
  have fits := congrArg Prod.fst (appendContent_fits h b)
  rw [stuffByte_eq]
  by_cases h5 : b = 0xA5#8
  · subst h5; exact fits
  · by_cases h6 : b = 0xA6#8
    · subst h6; exact fits
    · rw [if_neg h5, if_neg h6]
      exact (congrArg Prod.fst (Receiver.take_collecting_other content h5 h6)).trans fits

/-- A stuffed content of at most 534 bytes is received as that content. -/
theorem Receiver.takeAll_stuff (content : List Byte) : ∀ before : List Byte, before.length + content.length ≤ 534 →
    (Receiver.collecting before).takeAll (stuff content) = .collecting (before ++ content) := by
  induction content with
  | nil => intro before _; rw [List.append_nil]; rfl
  | cons b rest ih =>
    intro before h
    rw [List.length_cons] at h
    have first := Receiver.takeAll_stuffByte (content := before) (by omega) b
    calc (Receiver.collecting before).takeAll (stuff (b :: rest))
        = ((Receiver.collecting before).takeAll (stuffByte b)).takeAll (stuff rest) := List.foldl_append ..
      _ = .collecting (before ++ [b] ++ rest) := by
          rw [first]; exact ih _ (by rw [List.length_append, List.length_singleton]; omega)
      _ = .collecting (before ++ b :: rest) := by rw [List.append_assoc]; rfl

/-- Settles O8: the receiver takes the stuffed content back byte by byte, by induction on the content. -/
theorem sentFramesAreReceivedGood : Obligations.SentFramesAreReceivedGood := by
  unfold Obligations.SentFramesAreReceivedGood
  refine ⟨rfl, crc16_append_singleton, by decide +kernel, crcBytes_eq, fun n => ⟨rfl, rfl, rfl⟩, ?_⟩
  intro kind tag body h head content stuffed received
  have stuffing : stuff content = stuffed := congrArg content.flatMap (funext stuffByte_eq)
  have fits : content.length ≤ 534 := by
    have := Laws.frameContent_length kind tag body
    change (frameContent kind tag body).length ≤ 534
    omega
  have collected : received stuffed (.collecting []) = .collecting content :=
    stuffing ▸ Receiver.takeAll_stuff content [] (by simpa using fits)
  refine ⟨rfl, ?_, ?_, collected, collected, Receiver.take_collecting_delimiter content,
    judgeContent_frameContent kind tag h⟩
  · exact stuffing ▸ rfl
  · exact stuffing ▸ rfl

end Sys2Proof.Machine
end

section
/-! The notice unit: what becomes of a raised notice, the entries of a removed station, and NOTICE_MASK (R146 to
R151, R154). -/

namespace Sys2Proof.Machine

/-! ### The partner of a notice and what the merge makes of it, by kind (Table 8-1, R147 to R150) -/

section
variable {e : NoticeEntry} {m : Notice}

theorem NoticeEntry.merged_stationState {slot : StationId} {k : TrunkId} {address : Byte}
    {was now : StationState} {changes : Nat} :
    e.merged (.stationState slot k address was now changes) = some m ↔
      e.mergeOpen = true ∧ ∃ was was' count, e.notice = .stationState slot k address was was' count
        ∧ m = .stationState slot k address was now (min (count + changes) 65535) := by
  obtain ⟨time, mergeOpen, notice⟩ := e
  cases notice with
  | stationState i t a w w' count =>
    refine Option.ite_none_right_eq_some.trans ⟨?_, ?_⟩
    · rintro ⟨⟨hopen, rfl, rfl, rfl⟩, ⟨⟩⟩
      exact ⟨hopen, w, w', count, rfl, rfl⟩
    · rintro ⟨hopen, _, _, _, ⟨⟩, rfl⟩
      exact ⟨⟨hopen, rfl, rfl, rfl⟩, rfl⟩
  | _ => exact ⟨nofun, by rintro ⟨_, _, _, _, ⟨⟩, _⟩⟩

theorem NoticeEntry.merged_sequence {slot : StationId} {gaps restarts : Nat} :
    e.merged (.sequence slot gaps restarts) = some m ↔
      e.mergeOpen = true ∧ ∃ g r, e.notice = .sequence slot g r
        ∧ m = .sequence slot (min (g + gaps) 65535) (min (r + restarts) 65535) := by
  obtain ⟨time, mergeOpen, notice⟩ := e
  cases notice with
  | sequence i g r =>
    refine Option.ite_none_right_eq_some.trans ⟨?_, ?_⟩
    · rintro ⟨⟨hopen, rfl⟩, ⟨⟩⟩
      exact ⟨hopen, g, r, rfl, rfl⟩
    · rintro ⟨hopen, _, _, ⟨⟩, rfl⟩
      exact ⟨⟨hopen, rfl⟩, rfl⟩
  | _ => exact ⟨nofun, by rintro ⟨_, _, _, ⟨⟩, _⟩⟩

theorem NoticeEntry.merged_channelLevel {c : ChannelId} {level : Level} {flips : Nat} :
    e.merged (.channelLevel c level flips) = some m ↔
      ∃ old count, e.notice = .channelLevel c old count
        ∧ m = .channelLevel c level (min (count + 1) 65535) := by
  obtain ⟨time, mergeOpen, notice⟩ := e
  cases notice with
  | channelLevel d old count =>
    refine Option.ite_none_right_eq_some.trans ⟨?_, ?_⟩
    · rintro ⟨rfl, ⟨⟩⟩
      exact ⟨old, count, rfl, rfl⟩
    · rintro ⟨_, _, ⟨⟩, rfl⟩
      exact ⟨rfl, rfl⟩
  | _ => exact ⟨nofun, by rintro ⟨_, _, ⟨⟩, _⟩⟩

theorem NoticeEntry.merged_channelLoss {c : ChannelId} {l : Loss} :
    e.merged (.channelLoss c l) = some m ↔
      ∃ o : Loss, e.notice = .channelLoss c o ∧ m = .channelLoss c
        { disabled := min (o.disabled + l.disabled) 65535, keepOld := min (o.keepOld + l.keepOld) 65535
          keepNew := min (o.keepNew + l.keepNew) 65535, noSlot := min (o.noSlot + l.noSlot) 65535 } := by
  obtain ⟨time, mergeOpen, notice⟩ := e
  cases notice with
  | channelLoss d o =>
    refine Option.ite_none_right_eq_some.trans ⟨?_, ?_⟩
    · rintro ⟨rfl, ⟨⟩⟩
      exact ⟨o, rfl, rfl⟩
    · rintro ⟨_, ⟨⟩, rfl⟩
      exact ⟨rfl, rfl⟩
  | _ => exact ⟨nofun, by rintro ⟨_, ⟨⟩, _⟩⟩

theorem NoticeEntry.merged_trunkState {k : TrunkId} {was now : TrunkState} {cause : Cause} :
    e.merged (.trunkState k was now cause) = some m ↔
      ∃ was now' cause', e.notice = .trunkState k was now' cause' ∧ m = .trunkState k was now cause := by
  obtain ⟨time, mergeOpen, notice⟩ := e
  cases notice with
  | trunkState t w w' c =>
    refine Option.ite_none_right_eq_some.trans ⟨?_, ?_⟩
    · rintro ⟨rfl, ⟨⟩⟩
      exact ⟨w, w', c, rfl, rfl⟩
    · rintro ⟨_, _, _, ⟨⟩, rfl⟩
      exact ⟨rfl, rfl⟩
  | _ => exact ⟨nofun, by rintro ⟨_, _, _, ⟨⟩, _⟩⟩

/-- A DIRECTIVE_DONE merges into no entry (R150). -/
theorem NoticeEntry.merged_directiveDone {id : Nat} {slot : StationId} {outcome : DirectiveOutcome} {result : Byte}
    {attempts : Nat} : e.merged (.directiveDone id slot outcome result attempts) = none := by
  unfold NoticeEntry.merged
  cases e.notice <;> rfl

end

/-! ### The filters, the merge, and the room for ordinary entries (R146, R147, R151) -/

/-- A notice merges into its first partner. -/
theorem mergeNotice_append {n m : Notice} {e : NoticeEntry} {after : List NoticeEntry} (he : e.merged n = some m) :
    ∀ {before : List NoticeEntry}, (∀ b ∈ before, b.merged n = none) →
      mergeNotice n (before ++ e :: after) = some (before ++ { e with notice := m } :: after)
  | [], _ => by simp [mergeNotice, he]
  | b :: before, h => by
    obtain ⟨hb, hrest⟩ := List.forall_mem_cons.1 h
    simp [mergeNotice, hb, mergeNotice_append he hrest]

section
variable {q : NoticeQueue} {now : Time} {n : Notice}

theorem NoticeQueue.take_merged {m : Notice} {e : NoticeEntry} {before after : List NoticeEntry}
    (hq : q.entries = before ++ e :: after) (hfirst : ∀ b ∈ before, b.merged n = none) (he : e.merged n = some m) :
    q.take now n = { q with entries := before ++ { e with notice := m } :: after } := by
  rw [NoticeQueue.take, hq, mergeNotice_append he hfirst]

theorem NoticeQueue.take_appended (hnone : ∀ e ∈ q.entries, e.merged n = none) (hroom : q.ordinaryCount < 31) :
    q.take now n = { q with entries := q.entries ++ [{ time := now, mergeOpen := true, notice := n }] } := by
  rw [NoticeQueue.take, mergeNotice_none.2 hnone]
  exact if_pos hroom

theorem NoticeQueue.take_lost (hnone : ∀ e ∈ q.entries, e.merged n = none) (hfull : 31 ≤ q.ordinaryCount) :
    q.take now n = { q with lost := min (q.lost + 1) 65535 } := by
  rw [NoticeQueue.take, mergeNotice_none.2 hnone]
  exact if_neg (Nat.not_lt.2 hfull)

end

/-- The filters of an ordinary notice: the session is OPEN, and the mask enables its kind (R146). -/
theorem State.raise_ordinary (s : State) {n : Notice} (hn : n.ordinary = true) :
    s.raise n = if decide (s.link.session = .opened) && s.notices.mask.getLsbD (n.code - 1) then
      { s with notices := s.notices.take s.timeBase n } else s := by
  simp only [State.raise, NoticeQueue.enables, hn, State.setNotices, Bool.not_true, Bool.false_or, Bool.and_eq_true,
    decide_eq_true_eq]

/-! ### The entries of a removed station (R148) -/

/-- The entry is of a kind that names the station's slot. -/
def NoticeEntry.OfStation (e : NoticeEntry) (i : StationId) : Prop :=
  (∃ k address was now changes, e.notice = .stationState i k address was now changes)
    ∨ ∃ gaps restarts, e.notice = .sequence i gaps restarts

/-- The entry after the removal of the station in slot `i` (R148). -/
def NoticeEntry.closed (e : NoticeEntry) (i : StationId) : NoticeEntry :=
  match e.notice with
  | .stationState slot _ _ _ _ _ => if slot = i then { e with mergeOpen := false } else e
  | .sequence slot _ _ => if slot = i then { e with mergeOpen := false } else e
  | _ => e

theorem NoticeQueue.closeMerging_entries (q : NoticeQueue) (i : StationId) :
    (q.closeMerging i).entries = q.entries.map (NoticeEntry.closed · i) := rfl

theorem NoticeEntry.closed_ofStation {e : NoticeEntry} {i : StationId} (h : e.OfStation i) :
    e.closed i = { e with mergeOpen := false } := by
  rcases h with ⟨_, _, _, _, _, h⟩ | ⟨_, _, h⟩ <;> simp [NoticeEntry.closed, h]

theorem NoticeEntry.closed_other {e : NoticeEntry} {i : StationId} (h : ¬ e.OfStation i) : e.closed i = e := by
  obtain ⟨time, mergeOpen, notice⟩ := e
  cases notice with
  | stationState slot k address was now changes =>
    exact if_neg fun hslot => h (.inl ⟨k, address, was, now, changes, by rw [hslot]⟩)
  | sequence slot gaps restarts => exact if_neg fun hslot => h (.inr ⟨gaps, restarts, by rw [hslot]⟩)
  | _ => rfl

/-- Settles O18: the statement's `makes` is the model's merge kind by kind, and the queue then takes the notice by
whether an entry is its partner. -/
theorem raisedNoticeFate : Obligations.RaisedNoticeFate := by
  unfold Obligations.RaisedNoticeFate
  refine ⟨fun s n hn => ?_, fun q i => ?_⟩
  · intro opens makes
    have ordinary : n.ordinary = true := by
      cases n with
      | noticeLost count => exact absurd rfl (hn count)
      | _ => rfl
    have partner : ∀ e m, makes e m ↔ e.merged n = some m := fun e m => by
      cases n with
      | stationState => exact NoticeEntry.merged_stationState.symm
      | sequence => exact NoticeEntry.merged_sequence.symm
      | directiveDone => exact ⟨False.elim, fun h => nomatch NoticeEntry.merged_directiveDone.symm.trans h⟩
      | channelLevel => exact NoticeEntry.merged_channelLevel.symm
      | channelLoss => exact NoticeEntry.merged_channelLoss.symm
      | trunkState => exact NoticeEntry.merged_trunkState.symm
      | noticeLost count => exact absurd rfl (hn count)
    have noPartner : ∀ {es : List NoticeEntry}, (∀ e ∈ es, ∀ m, ¬ makes e m) → ∀ e ∈ es, e.merged n = none :=
      fun h e he => Option.eq_none_iff_forall_ne_some.2 fun m hm => h e he m ((partner e m).2 hm)
    have filters := s.raise_ordinary ordinary
    refine ⟨fun hclosed => filters.trans (if_neg (Bool.not_eq_true _ ▸ hclosed)), fun hopen => ?_⟩
    have taken : s.raise n = { s with notices := s.notices.take s.timeBase n } := filters.trans (if_pos hopen)
    refine ⟨fun before e after merged hq hfirst he => ?_, fun hnone => ⟨fun hroom => ?_, fun hfull => ?_⟩⟩
    · rw [taken, NoticeQueue.take_merged hq (noPartner hfirst) ((partner e merged).1 he)]
    · rw [taken, NoticeQueue.take_appended (noPartner hnone) hroom]
    · rw [taken, NoticeQueue.take_lost (noPartner hnone) hfull]
  · refine ⟨rfl, rfl, List.length_map _, fun j e he => ?_⟩
    have closed : (q.closeMerging i).entries[j]? = some (e.closed i) := by
      rw [NoticeQueue.closeMerging_entries, List.getElem?_map, he, Option.map_some]
    exact ⟨fun h => closed.trans (congrArg some (NoticeEntry.closed_ofStation h)),
      fun h => closed.trans (congrArg some (NoticeEntry.closed_other h))⟩

/-! ### NOTICE_MASK (R154) -/

/-- Settles O19, by whether the mask has a flag of no ordinary kind. -/
theorem noticeMaskReplacesMask : Obligations.NoticeMaskReplacesMask := by
  unfold Obligations.NoticeMaskReplacesMask
  intro s tag mask h
  by_cases hmask : 64 ≤ mask.toNat
  · rw [if_pos hmask]
    exact perform_answered s (owner := noticeMask tag [mask]) h rfl rfl (by simp) (if_pos hmask)
  · rw [if_neg hmask]
    exact perform_answered { s with notices := { s.notices with mask := mask } } (owner := noticeMask tag [mask]) h rfl
      rfl (by simp) (if_neg hmask)

end Sys2Proof.Machine
end

section
/-! The queue of waiting commands: a step takes the command in front, and no command writes the queue (R162, R163). -/

namespace Sys2Proof.Machine

/-- Settles O1: what a step does is read off the queue, and with an empty one off RESET#. -/
theorem stepRunsFrontCommand : Obligations.StepRunsFrontCommand := by
  unfold Obligations.StepRunsFrontCommand
  refine ⟨fun _ _ _ => rfl, fun s hempty => ?_⟩
  have idles : step s = .next s.tick := by unfold step; rw [hempty]
  exact ⟨fun hr => idles.trans (congrArg _ (if_pos hr)), fun hr => idles.trans (congrArg _ (if_neg (by simp [hr])))⟩

/-- Every command answers a next state (R162). -/
theorem exec_next (i : Instr) (s : State) : ∃ t, exec i s = .next t := by
  cases i <;> exact ⟨_, rfl⟩

/-- What leaves the host's side alone leaves the queue. -/
theorem State.pending_of_hostSide {s u : State} (h : u.hostSide = s.hostSide) : u.pending = s.pending :=
  congrArg HostSide.pending h

/-! ### Operations of the trunks and of the host link -/

section
variable (s : State) (k : TrunkId) (turn : Turn)

@[simp] theorem State.beginPoll_pending : (s.beginPoll k turn).pending = s.pending := by
  unfold State.beginPoll
  split <;> simp

@[simp] theorem State.attach_pending (i : StationId) : (s.attach i).2.pending = s.pending := by
  unfold State.attach
  split <;> simp

@[simp] theorem State.echoFault_pending : (s.echoFault k).pending = s.pending := by
  unfold State.echoFault
  dsimp only
  split <;> simp

@[simp] theorem State.failAttempt_pending : (s.failAttempt k turn).pending = s.pending := by
  unfold State.failAttempt State.endAsMiss
  dsimp only
  split <;> simp

@[simp] theorem State.breakReply_pending : (s.breakReply k turn).pending = s.pending := by
  simp [State.breakReply]

@[simp] theorem State.countStray_pending (number : Byte) : (s.countStray turn number).pending = s.pending := by
  unfold State.countStray
  split <;> simp

@[simp] theorem State.layOut_pending (records : List ReplyRecord) : (s.layOut k turn records).pending = s.pending := by
  unfold State.layOut
  split
  · split <;> simp
  · simp

@[simp] theorem State.endAsHit_pending (frame : ReplyFrame) : (s.endAsHit k turn frame).pending = s.pending := by
  unfold State.endAsHit
  dsimp only
  split <;> simp [State.restartStation, State.countHit]

@[simp] theorem State.completeReply_pending (chars : List Byte) :
    (s.completeReply k turn chars).pending = s.pending := by
  unfold State.completeReply
  split <;> simp

@[simp] theorem State.runTrunk_pending (w : StartWatch) (due : Time) : (s.runTrunk k w due).pending = s.pending := by
  simp [State.runTrunk, State.wakeStations]

@[simp] theorem State.failStart_pending (w : StartWatch) : (s.failStart k w).pending = s.pending := by
  simp [State.failStart]

@[simp] theorem State.closeStation_pending (limit : Nat) : (s.closeStation turn limit).pending = s.pending := by
  obtain ⟨st, h⟩ | ⟨roster, notices, h⟩ := s.closeStation_cases turn limit
  · rw [h]
    simp
  · rw [h]

@[simp] theorem State.turnClosed_pending : (s.turnClosed k).pending = s.pending := by
  unfold State.turnClosed
  dsimp only
  split <;> simp

@[simp] theorem State.closeStopTrunk_pending : (s.closeStopTrunk k).pending = s.pending := by
  unfold State.closeStopTrunk
  split <;> exact State.pending_of_hostSide (by simp)

@[simp] theorem State.flushStep_pending : s.flushStep.pending = s.pending :=
  foldl_keeps State.pending _ (fun u c => by simp [State.flushChannel]) _ s

@[simp] theorem State.screen_pending (x : Record) (gap : Nat) (stamp : Time) (todo : List ReplyRecord) :
    (s.screen k turn x gap stamp todo).pending = s.pending := by
  unfold State.screen
  dsimp only
  split <;> simp

@[simp] theorem State.afterAdmission_pending (stamp : Time) (todo : List ReplyRecord) (x : Screened)
    (ending : AdmissionEnd) : (s.afterAdmission k turn stamp todo x ending).pending = s.pending := by
  unfold State.afterAdmission
  split <;> simp

end

/-! ### The events -/

section
variable (s : State) (k : TrunkId)

theorem resetRelease_pending (mode1 mode0 : Bool) : (resetRelease mode1 mode0 s).pending = s.pending := by
  unfold resetRelease
  split <;> rfl

theorem holdAssert_pending (begun : Nat) : (holdAssert begun s).pending = s.pending := by
  unfold holdAssert
  split <;> rfl

theorem State.exchange_pending (mark : Bool) : (s.exchange mark).pending = s.pending := by
  unfold State.exchange
  split
  · rfl
  · split <;> rfl

theorem State.clockedOut_pending : s.clockedOut.pending = s.pending := by
  unfold State.clockedOut
  split <;> rfl

theorem State.messageSent_pending (m : Transmission) : (s.messageSent m).pending = s.pending := by
  unfold State.messageSent State.completed
  split
  · split <;> rfl
  · rfl
  · simp

theorem closeEnd_pending : (closeEnd s).pending = s.pending := by
  unfold closeEnd
  split
  · split <;> rfl
  · rfl

theorem closeStopStep_pending : (closeStopStep s).pending = s.pending := by
  unfold closeStopStep
  split
  · split
    · exact foldl_keeps State.pending _ (fun u k => by simp) _ _
    · rfl
  · rfl

theorem closeDirectiveStep_pending : (closeDirectiveStep s).pending = s.pending := by
  unfold closeDirectiveStep
  split
  · split <;> simp
  · rfl

theorem lineWentLow_pending (lowFor : Nat) : (lineWentLow k lowFor s).pending = s.pending := by
  unfold lineWentLow
  split <;> simp

theorem roundStart_pending : (roundStart k s).pending = s.pending := by
  unfold roundStart
  split <;> simp

theorem turnBegin_pending : (turnBegin k s).pending = s.pending := by
  unfold turnBegin
  split
  · split
    · simp
    · split
      · split <;> simp [State.beginTurn, State.skipPlace]
      · simp [State.skipPlace]
  · rfl

theorem echoTaken_pending (b : Byte) (fe : Bool) : (echoTaken k b fe s).pending = s.pending := by
  unfold echoTaken
  dsimp only
  split
  · split
    · simp
    · split <;> simp [State.pollSent]
  · rfl

theorem echoDeadline_pending : (echoDeadline k s).pending = s.pending := by
  unfold echoDeadline
  dsimp only
  split <;> simp

theorem replyStarted_pending : (replyStarted k s).pending = s.pending := by
  unfold replyStarted
  split <;> simp

theorem replyTimeout_pending : (replyTimeout k s).pending = s.pending := by
  unfold replyTimeout
  split <;> simp

theorem replyTaken_pending (b : Byte) (fe : Bool) : (replyTaken k b fe s).pending = s.pending := by
  unfold replyTaken
  split
  · split
    · simp
    · split <;> simp
  · rfl

theorem gapExpiry_pending : (gapExpiry k s).pending = s.pending := by
  unfold gapExpiry
  split <;> simp

theorem strayTaken_pending (b : Byte) (fe : Bool) : (strayTaken k b fe s).pending = s.pending := by
  unfold strayTaken
  dsimp only
  split <;> simp

theorem settleEnd_pending : (settleEnd k s).pending = s.pending := by
  unfold settleEnd
  split
  · split
    · split <;> simp
    · simp
  · rfl

theorem sequenceCheck_pending : (sequenceCheck k s).pending = s.pending := by
  unfold sequenceCheck
  split
  · split
    · split <;> simp
    · rfl
  · rfl

theorem admissionStep_pending : (admissionStep k s).pending = s.pending := by
  unfold admissionStep
  split
  · split <;> simp
  · rfl

theorem turnClose_pending : (turnClose k s).pending = s.pending := by
  unfold turnClose
  split
  · split <;> simp
  · rfl

theorem holdExpiry_pending (c : ChannelId) : (holdExpiry c s).pending = s.pending := by
  unfold holdExpiry
  split <;> simp

end

/-! ### Every command -/

/-- No part of a step writes the queue. -/
theorem pending_effects : Effects fun s t => t.pending = s.pending where
  refl _ := rfl
  trans _ _ _ h g := g.trans h
  elapse _ _ _ := rfl
  comeTo _ _ _ := rfl
  finish s chained := (s.finish_keeps chained).1
  drivePins _ := rfl
  resetAssert _ := rfl
  resetRelease := resetRelease_pending
  holdAssert := holdAssert_pending
  holdRelease _ := rfl
  hcsHigh _ := rfl
  exchange s mark _ := s.exchange_pending mark
  receive _ _ _ := rfl
  countLink _ _ _ := rfl
  refuse s kind tag status _ := (s.refuse_keeps kind tag status).1
  linkOpen s tag body _ _ _ := State.pending_of_hostSide (linkOpen_hostSide tag body (s.enter 0x01#8 tag))
  partReset _ _ _ _ := rfl
  noticeMask s tag body _ _ _ := State.pending_of_hostSide (noticeMask_hostSide tag body (s.enter 0x04#8 tag))
  countersRead s tag body _ _ _ := State.pending_of_hostSide (countersRead_hostSide tag body (s.enter 0x05#8 tag))
  ruleWrite s tag body _ _ _ := State.pending_of_hostSide (ruleWrite_hostSide tag body (s.enter 0x10#8 tag))
  ruleErase s tag body _ _ _ := State.pending_of_hostSide (ruleErase_hostSide tag body (s.enter 0x11#8 tag))
  setWrite s tag body _ _ _ := State.pending_of_hostSide (setWrite_hostSide tag body (s.enter 0x12#8 tag))
  defaultWrite s tag body _ _ _ := State.pending_of_hostSide (defaultWrite_hostSide tag body (s.enter 0x13#8 tag))
  stageLoad _ _ _ _ _ := rfl
  ruleCommit s tag body _ _ _ := State.pending_of_hostSide (ruleCommit_hostSide tag body (s.enter 0x15#8 tag))
  ruleRead s tag body _ _ _ := State.pending_of_hostSide (ruleRead_hostSide tag body (s.enter 0x16#8 tag))
  channelConfigEnable s tag body _ _ _ :=
    State.pending_of_hostSide (channelEnable_hostSide tag body (s.enter 0x18#8 tag))
  channelConfigDisable s tag body _ _ _ :=
    State.pending_of_hostSide (channelDisable_hostSide tag body (s.enter 0x18#8 tag))
  channelCredit s tag body _ _ _ := State.pending_of_hostSide (channelCredit_hostSide tag body (s.enter 0x19#8 tag))
  channelFlush s tag body _ _ _ := State.pending_of_hostSide (channelFlush_hostSide tag body (s.enter 0x1A#8 tag))
  channelQuery s tag body _ _ _ := State.pending_of_hostSide (channelQuery_hostSide tag body (s.enter 0x1B#8 tag))
  stationAdd s tag body _ _ _ := State.pending_of_hostSide (stationAdd_hostSide tag body (s.enter 0x20#8 tag))
  stationSet s tag body _ _ _ := State.pending_of_hostSide (stationSet_hostSide tag body (s.enter 0x21#8 tag))
  stationQuery s tag body _ _ _ := State.pending_of_hostSide (stationQuery_hostSide tag body (s.enter 0x22#8 tag))
  stationList _ _ _ _ _ := rfl
  stationSuspend s tag body _ _ _ := State.pending_of_hostSide (stationSuspend_hostSide tag body (s.enter 0x24#8 tag))
  stationResume s tag body _ _ _ := State.pending_of_hostSide (stationResume_hostSide tag body (s.enter 0x25#8 tag))
  stationRemove s tag body _ _ _ := State.pending_of_hostSide (stationRemove_hostSide tag body (s.enter 0x26#8 tag))
  trunkConfig s tag body _ _ _ := State.pending_of_hostSide (trunkConfig_hostSide tag body (s.enter 0x28#8 tag))
  trunkStart s tag body _ _ _ := State.pending_of_hostSide (trunkStart_hostSide tag body (s.enter 0x29#8 tag))
  trunkStop s tag body _ _ _ := State.pending_of_hostSide (trunkStop_hostSide tag body (s.enter 0x2A#8 tag))
  trunkQuery s tag body _ _ _ := State.pending_of_hostSide (trunkQuery_hostSide tag body (s.enter 0x2B#8 tag))
  directiveSubmit s tag body _ _ _ :=
    State.pending_of_hostSide (directiveSubmit_hostSide tag body (s.enter 0x30#8 tag))
  directiveCancel s tag body _ _ _ :=
    State.pending_of_hostSide (directiveCancel_hostSide tag body (s.enter 0x31#8 tag))
  directiveQuery s tag body _ _ _ := State.pending_of_hostSide (directiveQuery_hostSide tag body (s.enter 0x32#8 tag))
  linkClose _ _ _ _ _ := rfl
  closeEnd s _ := closeEnd_pending s
  closeStopStep s _ := closeStopStep_pending s
  closeDirectiveStep s _ := closeDirectiveStep_pending s
  runTrunk s k w due _ _ _ := s.runTrunk_pending k w due
  failStart s k w _ _ _ := s.failStart_pending k w
  lineWentLow s k n _ := lineWentLow_pending s k n
  roundStart s k _ := roundStart_pending s k
  turnBegin s k _ := turnBegin_pending s k
  echoTaken s k b fe _ := echoTaken_pending s k b fe
  echoDeadline s k _ := echoDeadline_pending s k
  replyStarted s k _ := replyStarted_pending s k
  replyTimeout s k _ := replyTimeout_pending s k
  replyTaken s k b fe _ := replyTaken_pending s k b fe
  gapExpiry s k _ := gapExpiry_pending s k
  strayTaken s k b fe _ := strayTaken_pending s k b fe
  settleEnd s k _ := settleEnd_pending s k
  sequenceCheck s k _ := sequenceCheck_pending s k
  admissionStep s k _ := admissionStep_pending s k
  turnClose s k _ := turnClose_pending s k
  holdExpiry s c _ := holdExpiry_pending s c
  clockedOut s _ := s.clockedOut_pending
  messageSent s m _ := s.messageSent_pending m

/-- Settles O2: a command has one outcome, a next state, and no part of a step writes the queue. -/
theorem everyCommandCompletesAndKeepsQueue : Obligations.EveryCommandCompletesAndKeepsQueue := by
  unfold Obligations.EveryCommandCompletesAndKeepsQueue
  intro i s
  obtain ⟨t, ht⟩ := exec_next i s
  exact ⟨t, ht, pending_effects.exec ht⟩

end Sys2Proof.Machine
end

section
/-! The time base through a request row (R163). -/

namespace Sys2Proof.Machine

/-! ### Operations of the requests -/

section
variable (s : State)

@[simp] theorem State.clearCounters_timeBase (m : CounterMember) : (s.clearCounters m).timeBase = s.timeBase := by
  cases m <;> simp [State.clearCounters]

@[simp] theorem State.discardUnwalked_timeBase (i : StationId) (k : TrunkId) :
    (State.discardUnwalked i s k).timeBase = s.timeBase := by
  unfold State.discardUnwalked
  split
  · split <;> simp
  · rfl

@[simp] theorem State.beginStop_timeBase (k : TrunkId) (tag : Option Byte) :
    (s.beginStop k tag).timeBase = s.timeBase := by
  unfold State.beginStop
  dsimp only
  split <;> simp

@[simp] theorem State.abortStart_timeBase (k : TrunkId) : (s.abortStart k).timeBase = s.timeBase := by
  unfold State.abortStart
  dsimp only
  split <;> simp

end

/-! ### The requests at their owners -/

section
variable (tag : Byte) (body : List Byte) (s : State)

theorem linkOpen_timeBase : (linkOpen tag body s).timeBase = s.timeBase := by
  unfold linkOpen
  split
  · simp
  · split <;> simp

theorem linkClose_timeBase : (linkClose tag s).timeBase = s.timeBase := rfl

theorem partReset_timeBase : (partReset tag s).timeBase = s.timeBase := rfl

theorem noticeMask_timeBase : (noticeMask tag body s).timeBase = s.timeBase := by
  unfold noticeMask
  split <;> simp

theorem countersRead_timeBase : (countersRead tag body s).timeBase = s.timeBase := by
  unfold countersRead
  split
  · simp
  · split <;> simp

theorem ruleWrite_timeBase : (ruleWrite tag body s).timeBase = s.timeBase := by
  unfold ruleWrite
  split <;> simp

theorem ruleErase_timeBase : (ruleErase tag body s).timeBase = s.timeBase := by
  unfold ruleErase
  split <;> simp

theorem setWrite_timeBase : (setWrite tag body s).timeBase = s.timeBase := by
  unfold setWrite
  split <;> simp

theorem defaultWrite_timeBase : (defaultWrite tag body s).timeBase = s.timeBase := by
  unfold defaultWrite
  split <;> simp

theorem stageLoad_timeBase : (stageLoad tag s).timeBase = s.timeBase := rfl

theorem ruleCommit_timeBase : (ruleCommit tag body s).timeBase = s.timeBase := by
  unfold ruleCommit
  split <;> simp

theorem ruleRead_timeBase : (ruleRead tag body s).timeBase = s.timeBase := by
  unfold ruleRead
  split <;> simp

theorem channelEnable_timeBase : (channelEnable tag body s).timeBase = s.timeBase := by
  unfold channelEnable
  split
  · dsimp only
    split
    · simp
    · split <;> simp
  · simp

theorem channelDisable_timeBase : (channelDisable tag body s).timeBase = s.timeBase := by
  unfold channelDisable
  split <;> simp

theorem channelCredit_timeBase : (channelCredit tag body s).timeBase = s.timeBase := by
  unfold channelCredit
  split
  · dsimp only
    split
    · simp
    · split <;> simp
  · simp

theorem channelFlush_timeBase : (channelFlush tag body s).timeBase = s.timeBase := by
  unfold channelFlush
  split <;> simp

theorem channelQuery_timeBase : (channelQuery tag body s).timeBase = s.timeBase := by
  unfold channelQuery
  split <;> simp

theorem stationAdd_timeBase : (stationAdd tag body s).timeBase = s.timeBase := by
  unfold stationAdd
  split
  · split
    · simp
    · split
      · simp
      · split <;> simp
  · simp

theorem stationSet_timeBase : (stationSet tag body s).timeBase = s.timeBase := by
  unfold stationSet
  split
  · simp
  · split <;> simp

theorem stationQuery_timeBase : (stationQuery tag body s).timeBase = s.timeBase := by
  unfold stationQuery
  split <;> simp

theorem stationList_timeBase : (stationList tag s).timeBase = s.timeBase := rfl

theorem stationSuspend_timeBase : (stationSuspend tag body s).timeBase = s.timeBase := by
  unfold stationSuspend
  split <;> simp

theorem stationResume_timeBase : (stationResume tag body s).timeBase = s.timeBase := by
  unfold stationResume
  split
  · simp
  · split <;> simp

theorem stationRemove_timeBase : (stationRemove tag body s).timeBase = s.timeBase := by
  unfold stationRemove
  split
  · simp
  · split
    · exact foldl_keeps State.timeBase _ (fun u k => u.discardUnwalked_timeBase _ k) _ _
    · simp

theorem trunkConfig_timeBase : (trunkConfig tag body s).timeBase = s.timeBase := by
  unfold trunkConfig
  split
  · split <;> simp
  · simp

theorem trunkStart_timeBase : (trunkStart tag body s).timeBase = s.timeBase := by
  unfold trunkStart
  split
  · split <;> simp
  · simp

theorem trunkStop_timeBase : (trunkStop tag body s).timeBase = s.timeBase := by
  unfold trunkStop
  split
  · split <;> simp
  · simp

theorem trunkQuery_timeBase : (trunkQuery tag body s).timeBase = s.timeBase := by
  unfold trunkQuery
  split <;> simp

theorem directiveSubmit_timeBase : (directiveSubmit tag body s).timeBase = s.timeBase := by
  obtain ⟨status, h⟩ | ⟨i, st, results, -, -, -, h⟩ := directiveSubmit_cases tag body s <;> rw [h] <;> rfl

theorem directiveCancel_timeBase : (directiveCancel tag body s).timeBase = s.timeBase := by
  unfold directiveCancel
  split
  · simp
  · split
    · simp
    · split <;> simp

theorem directiveQuery_timeBase : (directiveQuery tag body s).timeBase = s.timeBase := by
  unfold directiveQuery
  split
  · simp
  · split <;> simp

end

/-! ### A frame at acceptance -/

/-- A frame whose owner leaves the time base. -/
theorem takeFrame_timeBase {owner : State → State} (ho : ∀ u, (owner u).timeBase = u.timeBase) (kind tag : Byte)
    (body : List Byte) (s : State) : (takeFrame kind tag body owner s).timeBase = s.timeBase := by
  unfold takeFrame
  split
  · rfl
  · split
    · simp
    · rw [ho]
      rfl

theorem takeUnknownKind_timeBase (kind tag : Byte) (body : List Byte) (s : State) :
    (takeUnknownKind kind tag body s).timeBase = s.timeBase := by
  unfold takeUnknownKind
  split
  · exact takeFrame_timeBase (fun _ => rfl) kind tag body s
  · rfl

/-- The end of the step leaves the time base to the effect of the command. -/
theorem perform_timeBase {effect : State → State} {s t : State} (he : (effect s).timeBase = s.timeBase)
    (h : perform effect s = .next t) : t.timeBase = s.timeBase := by
  unfold perform at h
  cases h
  split
  · rfl
  · simpa using he

/-- Settles O4, row by row: no owner of a request writes the time base. -/
theorem requestsLeaveTimeBase : Obligations.RequestsLeaveTimeBase := by
  unfold Obligations.RequestsLeaveTimeBase
  intro i s t hf h
  have row : ∀ {kind tag : Byte} {body : List Byte} {owner : State → State}, (∀ u, (owner u).timeBase = u.timeBase) →
      perform (takeFrame kind tag body owner) s = .next t → t.timeBase = s.timeBase :=
    fun ho => perform_timeBase (takeFrame_timeBase ho _ _ _ s)
  cases i with
  | unknownKindFrame kind tag body => exact perform_timeBase (takeUnknownKind_timeBase kind tag body s) h
  | linkOpen tag body => exact row (linkOpen_timeBase tag body) h
  | linkClose tag body => exact row (linkClose_timeBase tag) h
  | partReset tag body => exact row (partReset_timeBase tag) h
  | noticeMask tag body => exact row (noticeMask_timeBase tag body) h
  | countersRead tag body => exact row (countersRead_timeBase tag body) h
  | ruleWrite tag body => exact row (ruleWrite_timeBase tag body) h
  | ruleErase tag body => exact row (ruleErase_timeBase tag body) h
  | setWrite tag body => exact row (setWrite_timeBase tag body) h
  | defaultWrite tag body => exact row (defaultWrite_timeBase tag body) h
  | stageLoad tag body => exact row (stageLoad_timeBase tag) h
  | ruleCommit tag body => exact row (ruleCommit_timeBase tag body) h
  | ruleRead tag body => exact row (ruleRead_timeBase tag body) h
  | channelConfigEnable tag body => exact row (channelEnable_timeBase tag body) h
  | channelConfigDisable tag body => exact row (channelDisable_timeBase tag body) h
  | channelCredit tag body => exact row (channelCredit_timeBase tag body) h
  | channelFlush tag body => exact row (channelFlush_timeBase tag body) h
  | channelQuery tag body => exact row (channelQuery_timeBase tag body) h
  | stationAdd tag body => exact row (stationAdd_timeBase tag body) h
  | stationSet tag body => exact row (stationSet_timeBase tag body) h
  | stationQuery tag body => exact row (stationQuery_timeBase tag body) h
  | stationList tag body => exact row (stationList_timeBase tag) h
  | stationSuspend tag body => exact row (stationSuspend_timeBase tag body) h
  | stationResume tag body => exact row (stationResume_timeBase tag body) h
  | stationRemove tag body => exact row (stationRemove_timeBase tag body) h
  | trunkConfig tag body => exact row (trunkConfig_timeBase tag body) h
  | trunkStart tag body => exact row (trunkStart_timeBase tag body) h
  | trunkStop tag body => exact row (trunkStop_timeBase tag body) h
  | trunkQuery tag body => exact row (trunkQuery_timeBase tag body) h
  | directiveSubmit tag body => exact row (directiveSubmit_timeBase tag body) h
  | directiveCancel tag body => exact row (directiveCancel_timeBase tag body) h
  | directiveQuery tag body => exact row (directiveQuery_timeBase tag body) h
  | _ => exact absurd hf Bool.false_ne_true

end Sys2Proof.Machine
end

section
/-! COUNTERS_READ: its checks in their order, the group's counters as they stand, and their clearing (R159). -/

namespace Sys2Proof.Machine

/-! ### The member that is named (R158, R159) -/

/-- Only the codes 0 to 3 name a group (Table 10-4). -/
theorem CounterGroup.ofCode_none {b : Byte} (h : 3 < b.toNat) : CounterGroup.ofCode b = none := by
  unfold CounterGroup.ofCode
  split
  case h_5 => rfl
  all_goals omega

section
variable {s : State} {group index clear : Byte}

/-- The group and the clear flag are checked before the member (R159). -/
theorem State.counterMember_badArg (h : 3 < group.toNat ∨ 1 < clear.toNat) :
    s.counterMember [group, index, clear] = .error .badArg := by
  unfold State.counterMember
  obtain hgroup | hclear := h
  · have unknown : CounterGroup.ofCode (byteAt [group, index, clear] 0) = none := CounterGroup.ofCode_none hgroup
    rw [unknown]
  · have refused : index? 2 (byteAt [group, index, clear] 2) = none := index?_none hclear
    rw [refused]
    split
    case h_5 => rfl
    all_goals contradiction

/-- What a group's index byte names, with the checks of the group (R158, R159). -/
def State.groupMember (s : State) (index : Byte) : CounterGroup → Except Status CounterMember
  | .trunk => (index? 2 index).elim (.error .badArg) fun k => .ok (.trunk k)
  | .station => (s.rosterCheck index).map fun p => .station p.1 p.2
  | .channel => (index? 8 index).elim (.error .badArg) fun c => .ok (.channel c)
  | .link => if index = 0#8 then .ok .link else .error .badArg

/-- Past the checks of the group and the clear flag the member is the one the group names (R159). -/
theorem State.counterMember_group {g : CounterGroup} (hgroup : CounterGroup.ofCode group = some g)
    (hclear : clear.toNat ≤ 1) : s.counterMember [group, index, clear] = s.groupMember index g := by
  have first : CounterGroup.ofCode (byteAt [group, index, clear] 0) = some g := hgroup
  have second : byteAt [group, index, clear] 1 = index := rfl
  have flag : index? 2 (byteAt [group, index, clear] 2) = some ⟨clear.toNat, Nat.lt_succ_of_le hclear⟩ := index?_eq rfl
  unfold State.counterMember State.groupMember
  rw [first, second, flag]
  cases g with
  | trunk => cases index? 2 index <;> rfl
  | station => cases s.rosterCheck index <;> rfl
  | channel => cases index? 8 index <;> rfl
  | link => rfl

end

/-! ### The answer (R134, R159) -/

/-- Clearing a member's counters leaves the table of requests. -/
theorem State.clearCounters_requests (s : State) (m : CounterMember) :
    (s.clearCounters m).link.requests = s.link.requests := by
  cases m <;> rfl

/-- The counters are cleared beside the request's entry in the table. -/
theorem State.clearCounters_enter (s : State) (m : CounterMember) (kind tag : Byte) :
    (s.enter kind tag).clearCounters m = (s.clearCounters m).enter kind tag := by
  cases m <;> rfl

section
variable {s : State} {tag : Byte} {body : List Byte} (h : TakesRequest s tag) (hlength : body.length = 3)
include h hlength

theorem exec_countersRead_error {status : Status} (hm : s.counterMember body = .error status) :
    exec (.countersRead tag body) s = .next ((s.replied 0x05#8 tag status []).finish false) := by
  refine perform_answered s (owner := countersRead tag body) h rfl rfl (List.mem_singleton.2 hlength) ?_
  have refused : (s.enter 0x05#8 tag).counterMember body = .error status := hm
  unfold countersRead
  rw [refused]

/-- The values are taken for the reply before the member is cleared (R159). -/
theorem exec_countersRead_ok {m : CounterMember} (hm : s.counterMember body = .ok m) :
    exec (.countersRead tag body) s =
      .next (State.finish ((if byteAt body 2 = 1#8 then s.clearCounters m else s).replied 0x05#8 tag .ok
        (countersReport body (s.counterValues m) s.timeBase)) false) := by
  obtain ⟨-, -, -, -, free, -⟩ := id h
  have named : (s.enter 0x05#8 tag).counterMember body = .ok m := hm
  have values : (s.enter 0x05#8 tag).counterValues m = s.counterValues m := by cases m <;> rfl
  refine (perform_accepted [3] (countersRead tag body) h rfl (List.mem_singleton.2 hlength)).trans ?_
  unfold countersRead
  rw [named]
  dsimp only
  rw [values, State.clearCounters_enter]
  split
  · rw [State.answer_enter (by rw [State.clearCounters_requests]; exact free)]
    rfl
  · rw [State.answer_enter free]
    rfl

end

/-- Settles O20, by the group and within it by the member that is named. -/
theorem countersReadReportsAndClears : Obligations.CountersReadReportsAndClears := by
  unfold Obligations.CountersReadReportsAndClears
  intro s tag group index clear h answers report
  have refused {status : Status} (hm : s.counterMember [group, index, clear] = .error status) :
      answers s status [] := exec_countersRead_error h rfl hm
  have reported {m : CounterMember} {v : State} {values : List Nat} (hm : s.counterMember [group, index, clear] = .ok m)
      (hv : s.clearCounters m = v) (hvalues : s.counterValues m = values) :
      answers (if clear = 1#8 then v else s) .ok (report values) := by
    subst hv hvalues
    exact exec_countersRead_ok h rfl hm
  refine ⟨fun hbad => refused (State.counterMember_badArg hbad), fun hclear => ?_⟩
  have named {g : CounterGroup} (hgroup : CounterGroup.ofCode group = some g) :
      s.counterMember [group, index, clear] = s.groupMember index g := State.counterMember_group hgroup hclear
  refine ⟨?_, ?_, ?_, ?_, ?_, ?_, ?_, ?_⟩
  · rintro rfl hk
    exact refused (by rw [named rfl, State.groupMember, index?_none hk, Option.elim_none])
  · rintro k rfl hk
    exact reported (by rw [named rfl, State.groupMember, index?_eq hk, Option.elim_some]) rfl rfl
  · rintro rfl hi
    exact refused (by rw [named rfl, State.groupMember, State.rosterCheck_badArg hi]; rfl)
  · rintro i rfl hi
    refine ⟨fun hnone => ?_, fun st hst => ⟨fun hr => ?_, fun hr => ?_⟩⟩
    · exact refused (by rw [named rfl, State.groupMember, State.rosterCheck_notFound hi hnone]; rfl)
    · exact refused (by rw [named rfl, State.groupMember, State.rosterCheck_removing hi hst hr]; rfl)
    · refine reported (m := .station i st) ?_ ?_ rfl
      · rw [named rfl, State.groupMember, State.rosterCheck_of_station hi hst hr]
        rfl
      · simp only [State.clearCounters, State.countStation, State.mapStation, hst]
        rfl
  · rintro rfl hc
    exact refused (by rw [named rfl, State.groupMember, index?_none hc, Option.elim_none])
  · rintro c rfl hc
    exact reported (by rw [named rfl, State.groupMember, index?_eq hc, Option.elim_some]) rfl rfl
  · rintro rfl hindex
    exact refused (by rw [named rfl, State.groupMember, if_neg hindex])
  · rintro rfl rfl
    exact reported (by rw [named rfl, State.groupMember, if_pos rfl]) rfl rfl

end Sys2Proof.Machine
end

section
/-! The limits of the request table, the refusals and the notice queue: what replies and notices do to them (R134, R135,
R151, R152). -/

-- One proof at a time: beside the rest of the text these would need more threads than the check's memory holds.
set_option Elab.async false

namespace Sys2Proof.Machine

/-! ### The notice queue -/

/-- How many entries are NOTICE_LOST (R152). -/
def NoticeQueue.lostCount (q : NoticeQueue) : Nat := (q.entries.filter fun e => !e.notice.ordinary).length

/-- The limits of the notice queue, by its two counts. -/
theorem noticesSound_iff (s : State) : NoticesSound s ↔ s.notices.ordinaryCount ≤ 31 ∧ s.notices.lostCount ≤ 1 := by
  refine Iff.of_eq (congrArg₂ And (congrArg (fun l => List.length l ≤ 31) (List.filter_congr fun e _ => ?_))
    (congrArg (fun l => List.length l ≤ 1) (List.filter_congr fun e _ => ?_)))
  all_goals
    obtain ⟨-, -, n⟩ := e
    cases n <;> rfl

/-- What leaves the entries alone keeps the limits. -/
theorem NoticesSound.of_entries {s t : State} (h : NoticesSound s) (he : t.notices.entries = s.notices.entries) :
    NoticesSound t := by
  unfold NoticesSound at h ⊢
  rw [he]
  exact h

/-- Entries that hold the same sorts of notice in the same places count the same. -/
theorem NoticeQueue.counts_of_ordinary {q r : NoticeQueue}
    (h : r.entries.map (fun e => e.notice.ordinary) = q.entries.map fun e => e.notice.ordinary) :
    r.ordinaryCount = q.ordinaryCount ∧ r.lostCount = q.lostCount := by
  have count : ∀ (f : Bool → Bool) (es : List NoticeEntry), (es.filter fun e => f e.notice.ordinary).length =
      ((es.map fun e => e.notice.ordinary).filter f).length := fun f es => by
    rw [List.filter_map, List.length_map]; rfl
  have same : ∀ f : Bool → Bool, (r.entries.filter fun e => f e.notice.ordinary).length =
      (q.entries.filter fun e => f e.notice.ordinary).length := fun f => by rw [count f, count f, h]
  exact ⟨same fun b => b, same fun b => !b⟩

/-- A merge leaves the sorts of the entries (R147). -/
theorem mergeNotice_ordinary {n : Notice} {es fs : List NoticeEntry} (h : mergeNotice n es = some fs) :
    fs.map (fun e => e.notice.ordinary) = es.map fun e => e.notice.ordinary := by
  obtain ⟨before, e, after, m, rfl, -, hm, rfl⟩ := mergeNotice_some h
  simp [NoticeEntry.merged_ordinary hm]

/-- An ordinary notice merges, is appended below the limit, or is lost (R147, R151). -/
theorem NoticeQueue.take_counts {q : NoticeQueue} {n : Notice} (hn : n.ordinary = true) (now : Time)
    (h : q.ordinaryCount ≤ 31) :
    (q.take now n).ordinaryCount ≤ 31 ∧ (q.take now n).lostCount = q.lostCount := by
  unfold NoticeQueue.take
  split
  · rename_i fs hm
    obtain ⟨ho, hl⟩ := NoticeQueue.counts_of_ordinary (q := q) (r := { q with entries := fs }) (mergeNotice_ordinary hm)
    exact ⟨ho.trans_le h, hl⟩
  · split
    · rename_i hroom
      have hroom : q.ordinaryCount < 31 := hroom
      unfold NoticeQueue.ordinaryCount NoticeQueue.lostCount at *
      simp only [List.filter_append, List.length_append, List.filter_cons, hn]
      simpa using hroom
    · exact ⟨h, rfl⟩

/-- A raised notice of an ordinary kind (R146, R151). -/
theorem NoticesSound.raise {s : State} (h : NoticesSound s) {n : Notice} (hn : n.ordinary = true) :
    NoticesSound (s.raise n) := by
  obtain e | ⟨-, -, e⟩ := s.raise_cases n <;> rw [e]
  · exact h
  · rw [noticesSound_iff] at h ⊢
    obtain ⟨ho, hl⟩ := h
    obtain ⟨ho', hl'⟩ := NoticeQueue.take_counts hn s.timeBase ho
    exact ⟨ho', hl'.trans_le hl⟩

/-- The entries of a removed station stay what they are (R148). -/
theorem NoticesSound.closeMerging {s : State} (h : NoticesSound s) (i : StationId) :
    NoticesSound (s.setNotices (s.notices.closeMerging i)) := by
  rw [noticesSound_iff] at h ⊢
  obtain ⟨ho, hl⟩ := NoticeQueue.counts_of_ordinary (q := s.notices) (r := s.notices.closeMerging i) (by
    unfold NoticeQueue.closeMerging
    rw [List.map_map]
    refine List.map_congr_left fun e _ => ?_
    simp only [Function.comp_apply]
    split
    · split <;> rfl
    · split <;> rfl
    · rfl)
  exact ⟨ho.trans_le h.1, hl.trans_le h.2⟩

/-! ### The request table and the refusals -/

/-- What leaves the tags of the requests and the number of the refusals keeps the limits of the link. -/
theorem LinkSound.of_tags {s t : State} (h : LinkSound s)
    (htags : t.link.requests.map Request.tag = s.link.requests.map Request.tag)
    (hrefusals : t.link.refusalCount = s.link.refusalCount) : LinkSound t := by
  obtain ⟨hlength, hnodup, hfour⟩ := h
  refine ⟨?_, htags ▸ hnodup, hrefusals.trans_le hfour⟩
  have := congrArg List.length htags
  simp only [List.length_map] at this
  exact this.trans_le hlength

/-- A reply marked as queued leaves the tags of the table (R134). -/
theorem markAnswered_tags (tag : Byte) (rs : List Request) :
    (markAnswered tag rs).map Request.tag = rs.map Request.tag := by
  unfold markAnswered
  rw [List.map_map]
  refine List.map_congr_left fun r _ => ?_
  simp only [Function.comp_apply]
  split <;> rfl

/-- A request that passes the last checks of acceptance takes a free slot under a free tag (R134, R136). -/
theorem LinkSound.enter {s : State} (h : LinkSound s) {tag : Byte} (ht : s.tableCheck tag = none) (kind : Byte) :
    LinkSound (s.enter kind tag) := by
  obtain ⟨-, hnodup, hfour⟩ := h
  unfold State.tableCheck at ht
  split at ht
  · cases ht
  · rename_i hfree
    split at ht
    · cases ht
    · rename_i hroom
      have hroom : ¬ 8 ≤ s.link.requests.length := hroom
      have hfree : ∀ r ∈ s.link.requests, r.tag ≠ tag := by simpa using hfree
      refine ⟨?_, ?_, hfour⟩
      · simp only [State.enter, State.setLink_link, List.length_append, List.length_cons, List.length_nil]
        omega
      · simp only [State.enter, State.setLink_link, List.map_append, List.map_cons, List.map_nil]
        refine List.nodup_append.2 ⟨hnodup, List.nodup_singleton _, ?_⟩
        intro a ha b hb
        obtain ⟨r, hr, rfl⟩ := List.mem_map.1 ha
        exact (List.mem_singleton.1 hb) ▸ hfree r hr

/-- A refusal is queued below the limit, or the request is dropped (R135). -/
theorem LinkSound.refuse {s : State} (h : LinkSound s) (kind tag : Byte) (status : Status) :
    LinkSound (s.refuse kind tag status) := by
  unfold State.refuse
  split
  · rename_i hroom
    obtain ⟨hlength, hnodup, -⟩ := h
    refine ⟨hlength, hnodup, ?_⟩
    have one : ((s.link.replies ++ [({ tag := tag, kind := kind, status := status, results := [], refusal := true } :
        Reply)]).filter Reply.refusal).length = s.link.refusalCount + 1 := by
      rw [List.filter_append, List.length_append]; rfl
    exact one.trans_le hroom
  · exact h

/-- A reply that has been sent leaves its queue, and the request its slot (R134, R135). -/
theorem LinkSound.replySent {s : State} (h : LinkSound s) (r : Reply) : LinkSound (s.replySent r) := by
  obtain ⟨hlength, hnodup, hfour⟩ := h
  have hrequests : (s.replySent r).link.requests.Sublist s.link.requests := by
    unfold State.replySent
    simp only [State.setLink_link]
    split
    · exact List.Sublist.refl _
    · exact List.filter_sublist
  have hreplies : (s.replySent r).link.replies.Sublist s.link.replies := List.erase_sublist
  exact ⟨hrequests.length_le.trans hlength, (hrequests.map _).nodup hnodup,
    (hreplies.filter _).length_le.trans hfour⟩

end Sys2Proof.Machine
end

section
/-! Events that touch the host's side only by the replies they queue and the notices they raise, said once for each
operation. -/

-- One proof at a time: beside the rest of the text these would need more threads than the check's memory holds.
set_option Elab.async false

namespace Sys2Proof.Machine

/-! ### The relations -/

/-- Between `s` and `t` the session is as it was; in the request table replies have been marked as queued, in the reply
queue replies that are no refusals have been added, and the notice queue has kept its limits (R134, R135, R151). -/
structure LinkKept (s t : State) : Prop where
  session : t.link.session = s.link.session
  tags : t.link.requests.map Request.tag = s.link.requests.map Request.tag
  refusals : t.link.refusalCount = s.link.refusalCount
  notices : NoticesSound s → NoticesSound t

/-- So are the channels and the store: an event between `s` and `t` touches the host's side by the replies it queues and
the notices it raises only. -/
structure Reports (s t : State) : Prop extends LinkKept s t where
  channels : t.channels = s.channels
  store : t.store = s.store

namespace LinkKept
variable {s t u v : State}

theorem refl (s : State) : LinkKept s s := ⟨rfl, rfl, rfl, id⟩

theorem trans (h : LinkKept s t) (g : LinkKept t u) : LinkKept s u where
  session := g.session.trans h.session
  tags := g.tags.trans h.tags
  refusals := g.refusals.trans h.refusals
  notices hs := g.notices (h.notices hs)

/-- What leaves the link and the entries of the notice queue. -/
theorem frame (h : LinkKept s u) (hl : v.link = u.link) (hn : v.notices.entries = u.notices.entries) : LinkKept s v :=
  h.trans ⟨by rw [hl], by rw [hl], by rw [hl], fun hs => hs.of_entries hn⟩

/-- What writes the link, but for the session, the requests and the replies. -/
theorem setLink (h : LinkKept s u) {l : Link} (hsession : l.session = u.link.session)
    (hrequests : l.requests = u.link.requests) (hreplies : l.replies = u.link.replies) : LinkKept s (u.setLink l) :=
  h.trans ⟨hsession, congrArg _ hrequests, congrArg (fun rs => (List.filter Reply.refusal rs).length) hreplies,
    fun hs => hs.of_entries rfl⟩

theorem countLink (h : LinkKept s u) (f : LinkCounters → LinkCounters) : LinkKept s (u.countLink f) :=
  h.setLink rfl rfl rfl

/-- The reply to an accepted request (R134, R135). -/
theorem answer (h : LinkKept s u) (kind tag : Byte) (status : Status) (results : List Byte) :
    LinkKept s (u.answer kind tag status results) := by
  refine h.trans ⟨rfl, markAnswered_tags tag _, ?_, fun hs => hs.of_entries rfl⟩
  unfold State.answer Link.refusalCount
  simp

/-- A notice of an ordinary kind (R146, R151). -/
theorem raise (h : LinkKept s u) (n : Notice) (hn : n.ordinary = true := by rfl) : LinkKept s (u.raise n) :=
  h.trans ⟨by simp, by simp, by simp, fun hs => hs.raise hn⟩

/-- What every step of a fold does, the fold does. -/
theorem foldl {α : Type} {f : State → α → State} (hf : ∀ u a, LinkKept s u → LinkKept s (f u a)) :
    ∀ (l : List α) {u : State}, LinkKept s u → LinkKept s (l.foldl f u)
  | [], _, h => h
  | a :: l, _, h => foldl hf l (hf _ a h)

end LinkKept

namespace Reports
variable {s t u v : State}

theorem refl (s : State) : Reports s s := ⟨LinkKept.refl s, rfl, rfl⟩

/-- What then keeps the limits of the link and leaves the channels and the store. -/
theorem andThen (h : Reports s u) (hk : LinkKept s v) (hc : v.channels = u.channels) (hst : v.store = u.store) :
    Reports s v := ⟨hk, hc.trans h.channels, hst.trans h.store⟩

/-- What leaves the channels, the store, the link and the notices. -/
theorem frame (h : Reports s u) (hc : v.channels = u.channels) (hst : v.store = u.store) (hl : v.link = u.link)
    (hn : v.notices = u.notices) : Reports s v := h.andThen (h.toLinkKept.frame hl (by rw [hn])) hc hst

/-- What writes the link, but for the session, the requests and the replies. -/
theorem setLink (h : Reports s u) {l : Link} (hsession : l.session = u.link.session)
    (hrequests : l.requests = u.link.requests) (hreplies : l.replies = u.link.replies) : Reports s (u.setLink l) :=
  h.andThen (h.toLinkKept.setLink hsession hrequests hreplies) rfl rfl

/-! ### The operations the commands share -/

theorem advanceTo (h : Reports s u) (due : Time) : Reports s (u.advanceTo due) := h.frame rfl rfl rfl rfl

theorem elapse (h : Reports s u) (dt : Nat) : Reports s (u.elapse dt) := h.frame rfl rfl rfl rfl

theorem comeTo (h : Reports s u) (now : Time) : Reports s (u.comeTo now) := h.frame rfl rfl rfl rfl

theorem setTrunk (h : Reports s u) (k : TrunkId) (x : Trunk) : Reports s (u.setTrunk k x) := h.frame rfl rfl rfl rfl

theorem countTrunk (h : Reports s u) (k : TrunkId) (f : TrunkCounters → TrunkCounters) :
    Reports s (u.countTrunk k f) := h.setTrunk k _

theorem setPhase (h : Reports s u) (k : TrunkId) (p : Phase) : Reports s (u.setPhase k p) := h.setTrunk k _

theorem beginSettling (h : Reports s u) (k : TrunkId) : Reports s (u.beginSettling k) := h.setPhase k _

theorem setStage (h : Reports s u) (k : TrunkId) (turn : Turn) (stage : TurnStage) :
    Reports s (u.setStage k turn stage) := h.setTrunk k _

theorem setStation (h : Reports s u) (i : StationId) (x : Option Station) : Reports s (u.setStation i x) :=
  h.frame rfl rfl rfl rfl

theorem mapStation (h : Reports s u) (i : StationId) (f : Station → Station) : Reports s (u.mapStation i f) :=
  h.setStation i _

theorem countStation (h : Reports s u) (i : StationId) (f : StationCounters → StationCounters) :
    Reports s (u.countStation i f) := h.mapStation i _

theorem wakeStations (h : Reports s u) (k : TrunkId) : Reports s (u.wakeStations k) := h.frame rfl rfl rfl rfl

theorem setDirectives (h : Reports s u) (es : List Directive) : Reports s (u.setDirectives es) :=
  h.frame rfl rfl rfl rfl

theorem countLink (h : Reports s u) (f : LinkCounters → LinkCounters) : Reports s (u.countLink f) :=
  h.setLink rfl rfl rfl

theorem answer (h : Reports s u) (kind tag : Byte) (status : Status) (results : List Byte) :
    Reports s (u.answer kind tag status results) := h.andThen (h.toLinkKept.answer kind tag status results) rfl rfl

theorem raise (h : Reports s u) (n : Notice) (hn : n.ordinary = true := by rfl) : Reports s (u.raise n) :=
  h.andThen (h.toLinkKept.raise n hn) (by simp) (by simp)

/-- The notice mask and the lost-notice count (R140, R154). -/
theorem setNotices (h : Reports s u) {q : NoticeQueue} (hq : q.entries = u.notices.entries) :
    Reports s (u.setNotices q) := h.andThen (h.toLinkKept.frame rfl hq) rfl rfl

theorem closeMerging (h : Reports s u) (i : StationId) : Reports s (u.setNotices (u.notices.closeMerging i)) :=
  h.andThen (h.toLinkKept.trans ⟨rfl, rfl, rfl, fun hs => hs.closeMerging i⟩) rfl rfl

/-- What every step of a fold does, the fold does. -/
theorem foldl {α : Type} {f : State → α → State} (hf : ∀ u a, Reports s u → Reports s (f u a)) :
    ∀ (l : List α) {u : State}, Reports s u → Reports s (l.foldl f u)
  | [], _, h => h
  | a :: l, _, h => foldl hf l (hf _ a h)

/-! ### Directives and the roster -/

theorem completeDirective (h : Reports s u) (d : Directive) (o : DirectiveOutcome) (r : Byte) (n : Nat) :
    Reports s (u.completeDirective d o r n) := (h.setDirectives _).raise _

theorem unacknowledged (h : Reports s u) (d : Directive) (mark : Bool) : Reports s (u.unacknowledged d mark) := by
  unfold State.unacknowledged
  split
  · split
    · exact h.completeDirective _ _ _ _
    · exact h.setDirectives _
  · exact h.setDirectives _

theorem settle (h : Reports s u) (turn : Turn) (ack : Option (Byte × Byte)) : Reports s (u.settle turn ack) := by
  unfold State.settle
  split
  · exact h
  · split
    · split
      · exact h.completeDirective _ _ _ _
      · exact h.unacknowledged _ _
    · exact h.unacknowledged _ _

theorem attach (h : Reports s u) (i : StationId) : Reports s (u.attach i).2 := by
  unfold State.attach
  split
  · exact h
  · exact h.setDirectives _

theorem countStray (h : Reports s u) (turn : Turn) (n : Byte) : Reports s (u.countStray turn n) := by
  unfold State.countStray
  split
  · exact h.countStation _ _
  · exact h

theorem freeStation (h : Reports s u) (i : StationId) : Reports s (u.freeStation i) := by
  have aborted : Reports s (u.abortDirectives i) := foldl (fun u d h => h.completeDirective d _ _ _) _ h
  exact (aborted.closeMerging i).setStation i none

theorem completeRemoval (h : Reports s u) (i : StationId) (st : Station) : Reports s (u.completeRemoval i st) := by
  unfold State.completeRemoval
  split
  · exact (h.freeStation i).answer _ _ _ _
  · exact h.freeStation i

theorem groundStations (h : Reports s u) (k : TrunkId) : Reports s (u.groundStations k) := by
  refine foldl (fun u i h => ?_) _ h
  unfold State.groundStation
  split
  · split
    · split
      · exact h.completeRemoval _ _
      · exact h.setStation _ _
    · exact h
  · exact h

theorem discardUnwalked (h : Reports s u) (i : StationId) (k : TrunkId) : Reports s (State.discardUnwalked i u k) := by
  unfold State.discardUnwalked
  split
  · split
    · exact (h.setTrunk k _).countStation _ _
    · exact h
  · exact h

theorem abandonStation (h : Reports s u) (turn : Turn) : Reports s (u.abandonStation turn) := by
  unfold State.abandonStation
  split
  · split
    · exact h.completeRemoval _ _
    · split
      · exact (h.setStation _ _).raise _
      · exact h
  · exact h

theorem abandonTurn (h : Reports s u) (turn : Option Turn) : Reports s (u.abandonTurn turn) := by
  unfold State.abandonTurn
  split
  · exact (h.settle _ none).abandonStation _
  · exact h

theorem closeStation (h : Reports s u) (turn : Turn) (limit : Nat) : Reports s (u.closeStation turn limit) := by
  unfold State.closeStation
  split
  · split
    · exact h.completeRemoval _ _
    · extract_lets outcome now closed
      have moved : Reports s closed := h.setStation _ _
      split
      · exact moved
      · exact moved.raise _
  · exact h

/-! ### The trunks -/

theorem startRound (h : Reports s u) (k : TrunkId) : Reports s (u.startRound k) := h.setTrunk k _

theorem endRound (h : Reports s u) (k : TrunkId) (turned : Bool) : Reports s (u.endRound k turned) := h.setTrunk k _

theorem endRoundIfDone (h : Reports s u) (k : TrunkId) : Reports s (u.endRoundIfDone k) := by
  unfold State.endRoundIfDone
  split
  · split
    · exact h.endRound k _
    · exact h
  · exact h

theorem answerStop (h : Reports s u) (tag : Option Byte) (state : TrunkState) : Reports s (u.answerStop tag state) := by
  unfold State.answerStop
  split
  · exact h.answer _ _ _ _
  · exact h

theorem completeStop (h : Reports s u) (k : TrunkId) : Reports s (u.completeStop k) :=
  (((h.setTrunk k _).groundStations k).answerStop _ _).raise _

theorem stopFaulted (h : Reports s u) (k : TrunkId) : Reports s (u.stopFaulted k) := (h.setTrunk k _).raise _

theorem faultTrunk (h : Reports s u) (k : TrunkId) : Reports s (u.faultTrunk k) := by
  unfold State.faultTrunk
  dsimp only
  split
  · exact (((((h.abandonTurn _).setTrunk k _).groundStations k).raise _).answerStop _ _).stopFaulted k
  · exact ((((h.abandonTurn _).setTrunk k _).groundStations k).raise _).answerStop _ _

theorem beginPoll (h : Reports s u) (k : TrunkId) (turn : Turn) : Reports s (u.beginPoll k turn) := by
  unfold State.beginPoll
  split
  · exact h.setTrunk k _
  · exact h

theorem beginTurn (h : Reports s u) (k : TrunkId) (i : StationId) (st : Station) (places : List Place) :
    Reports s (u.beginTurn k i st places) := ((h.attach i).setTrunk k _).beginPoll k _

theorem skipPlace (h : Reports s u) (k : TrunkId) (r : Round) (places : List Place) :
    Reports s (u.skipPlace k r places) := (h.setTrunk k _).endRoundIfDone k

theorem echoFault (h : Reports s u) (k : TrunkId) : Reports s (u.echoFault k) := by
  unfold State.echoFault
  dsimp only
  split
  · exact (h.setTrunk k _).faultTrunk k
  · exact (h.setTrunk k _).beginSettling k

theorem failAttempt (h : Reports s u) (k : TrunkId) (turn : Turn) : Reports s (u.failAttempt k turn) := by
  unfold State.failAttempt
  dsimp only
  split
  · exact (h.setTrunk k _).beginSettling k
  · exact (((h.beginSettling k).setStage k turn _).countStation _ _).settle _ _

theorem breakReply (h : Reports s u) (k : TrunkId) (turn : Turn) : Reports s (u.breakReply k turn) :=
  (h.countTrunk k _).failAttempt k turn

theorem layOut (h : Reports s u) (k : TrunkId) (turn : Turn) (rs : List ReplyRecord) :
    Reports s (u.layOut k turn rs) := by
  unfold State.layOut
  split
  · split
    · exact (h.setStage k turn _).countStation _ _
    · exact h.setStage k turn _
  · exact h.setStage k turn _

theorem endAsHit (h : Reports s u) (k : TrunkId) (turn : Turn) (frame : ReplyFrame) :
    Reports s (u.endAsHit k turn frame) := by
  unfold State.endAsHit
  extract_lets counted settled
  have counted : Reports s counted := ((h.countTrunk k _).beginSettling k).mapStation turn.slot _
  have settled : Reports s settled := (counted.countStray turn frame.ack).settle turn _
  split
  · exact ((settled.mapStation turn.slot _).raise _).layOut k turn _
  · exact settled.layOut k turn _

theorem completeReply (h : Reports s u) (k : TrunkId) (turn : Turn) (chars : List Byte) :
    Reports s (u.completeReply k turn chars) := by
  unfold State.completeReply
  split
  · exact (h.countTrunk k _).failAttempt k turn
  · exact (h.countTrunk k _).failAttempt k turn
  · exact h.breakReply k turn
  · exact h.endAsHit k turn _

theorem turnClosed (h : Reports s u) (k : TrunkId) : Reports s (u.turnClosed k) := by
  unfold State.turnClosed
  dsimp only
  split
  · exact (h.setTrunk k _).completeStop k
  · exact (h.setTrunk k _).endRoundIfDone k
  · exact h.setTrunk k _

theorem runTrunk (h : Reports s u) (k : TrunkId) (w : StartWatch) (due : Time) : Reports s (u.runTrunk k w due) := by
  unfold State.runTrunk
  exact (((((h.advanceTo due).setTrunk k _).wakeStations k).startRound k).answer _ _ _ _).raise _

theorem failStart (h : Reports s u) (k : TrunkId) (w : StartWatch) : Reports s (u.failStart k w) :=
  (((h.advanceTo w.limit).setTrunk k _).answer _ _ _ _).raise _

theorem beginStop (h : Reports s u) (k : TrunkId) (tag : Option Byte) : Reports s (u.beginStop k tag) := by
  unfold State.beginStop
  dsimp only
  split
  · exact (h.setTrunk k _).completeStop k
  · exact h.setTrunk k _

theorem abortStart (h : Reports s u) (k : TrunkId) : Reports s (u.abortStart k) := by
  unfold State.abortStart
  dsimp only
  split
  · exact (h.setTrunk k _).answer _ _ _ _
  · exact h.setTrunk k _

theorem closeStopTrunk (h : Reports s u) (k : TrunkId) : Reports s (u.closeStopTrunk k) := by
  unfold State.closeStopTrunk
  split
  · exact h.stopFaulted k
  · exact h.beginStop k none
  all_goals exact h

end Reports
end Sys2Proof.Machine
end

section
/-! The requests at their owners and the events of the trunks, by the replies they queue and the notices they raise. -/

namespace Sys2Proof.Machine.Reports

variable {s u : State}

/-! ### Requests on the link, the notices and the tables -/

theorem partReset (h : Reports s u) (tag : Byte) : Reports s (partReset tag u) :=
  (h.answer _ _ _ _).setLink rfl rfl rfl

theorem noticeMask (h : Reports s u) (tag : Byte) (body : List Byte) : Reports s (noticeMask tag body u) := by
  unfold Machine.noticeMask
  split
  · exact h.answer _ _ _ _
  · exact Reports.answer (h.setNotices (by rfl)) _ _ _ _

/-- What writes the tables of the screening unit. -/
theorem tables (h : Reports s u) (a : ActiveTable) (t : RuleTable) : Reports s { u with active := a, staging := t } :=
  h.frame rfl rfl rfl rfl

theorem ruleWrite (h : Reports s u) (tag : Byte) (body : List Byte) : Reports s (ruleWrite tag body u) := by
  unfold Machine.ruleWrite
  split
  · exact (h.tables u.active _).answer _ _ _ _
  · exact h.answer _ _ _ _

theorem ruleErase (h : Reports s u) (tag : Byte) (body : List Byte) : Reports s (ruleErase tag body u) := by
  unfold Machine.ruleErase
  split
  · exact (h.tables u.active _).answer _ _ _ _
  · exact h.answer _ _ _ _

theorem setWrite (h : Reports s u) (tag : Byte) (body : List Byte) : Reports s (setWrite tag body u) := by
  unfold Machine.setWrite
  split
  · exact (h.tables u.active _).answer _ _ _ _
  · exact h.answer _ _ _ _

theorem defaultWrite (h : Reports s u) (tag : Byte) (body : List Byte) : Reports s (defaultWrite tag body u) := by
  unfold Machine.defaultWrite
  split
  · exact (h.tables u.active _).answer _ _ _ _
  · exact h.answer _ _ _ _

theorem stageLoad (h : Reports s u) (tag : Byte) : Reports s (stageLoad tag u) :=
  (h.tables u.active _).answer _ _ _ _

theorem ruleCommit (h : Reports s u) (tag : Byte) (body : List Byte) : Reports s (ruleCommit tag body u) := by
  unfold Machine.ruleCommit
  split
  · exact h.answer _ _ _ _
  · exact (h.tables _ u.staging).answer _ _ _ _

theorem ruleRead (h : Reports s u) (tag : Byte) (body : List Byte) : Reports s (ruleRead tag body u) := by
  unfold Machine.ruleRead
  split <;> exact h.answer _ _ _ _

theorem channelQuery (h : Reports s u) (tag : Byte) (body : List Byte) : Reports s (channelQuery tag body u) := by
  unfold Machine.channelQuery
  split <;> exact h.answer _ _ _ _

/-! ### Requests on stations and directives -/

theorem stationAdd (h : Reports s u) (tag : Byte) (body : List Byte) : Reports s (stationAdd tag body u) := by
  unfold Machine.stationAdd
  split
  · split
    · exact h.answer _ _ _ _
    · split
      · exact h.answer _ _ _ _
      · split
        · exact h.answer _ _ _ _
        · exact Reports.answer (h.frame (by rfl) (by rfl) (by rfl) (by rfl)) _ _ _ _
  · exact h.answer _ _ _ _

theorem stationSet (h : Reports s u) (tag : Byte) (body : List Byte) : Reports s (stationSet tag body u) := by
  unfold Machine.stationSet
  split
  · exact h.answer _ _ _ _
  · split
    · exact h.answer _ _ _ _
    · exact (h.setStation _ _).answer _ _ _ _

theorem stationQuery (h : Reports s u) (tag : Byte) (body : List Byte) : Reports s (stationQuery tag body u) := by
  unfold Machine.stationQuery
  split <;> exact h.answer _ _ _ _

theorem stationList (h : Reports s u) (tag : Byte) : Reports s (stationList tag u) := h.answer _ _ _ _

theorem stationSuspend (h : Reports s u) (tag : Byte) (body : List Byte) : Reports s (stationSuspend tag body u) := by
  unfold Machine.stationSuspend
  split
  · exact h.answer _ _ _ _
  · exact (h.setStation _ _).answer _ _ _ _

theorem stationResume (h : Reports s u) (tag : Byte) (body : List Byte) : Reports s (stationResume tag body u) := by
  unfold Machine.stationResume
  split
  · exact h.answer _ _ _ _
  · split
    · exact (h.setStation _ _).answer _ _ _ _
    · exact h.answer _ _ _ _

theorem stationRemove (h : Reports s u) (tag : Byte) (body : List Byte) : Reports s (stationRemove tag body u) := by
  unfold Machine.stationRemove
  split
  · exact h.answer _ _ _ _
  · split
    · exact foldl (fun u k h => h.discardUnwalked _ k) _ (h.setStation _ _)
    · exact (h.freeStation _).answer _ _ _ _

theorem directiveSubmit (h : Reports s u) (tag : Byte) (body : List Byte) :
    Reports s (directiveSubmit tag body u) := by
  unfold Machine.directiveSubmit
  split
  · exact h.answer _ _ _ _
  · split
    · exact h.answer _ _ _ _
    · split
      · exact h.answer _ _ _ _
      · split
        · exact h.answer _ _ _ _
        · extract_lets d
          exact Reports.answer (Reports.mapStation (h.frame (by rfl) (by rfl) (by rfl) (by rfl)) _ _) _ _ _ _

theorem directiveCancel (h : Reports s u) (tag : Byte) (body : List Byte) :
    Reports s (directiveCancel tag body u) := by
  unfold Machine.directiveCancel
  split
  · exact h.answer _ _ _ _
  · split
    · exact h.answer _ _ _ _
    · split
      · exact h.answer _ _ _ _
      all_goals exact (h.setDirectives _).answer _ _ _ _

theorem directiveQuery (h : Reports s u) (tag : Byte) (body : List Byte) : Reports s (directiveQuery tag body u) := by
  unfold Machine.directiveQuery
  split
  · exact h.answer _ _ _ _
  · split <;> exact h.answer _ _ _ _

/-! ### Requests on trunks -/

theorem trunkConfig (h : Reports s u) (tag : Byte) (body : List Byte) : Reports s (trunkConfig tag body u) := by
  unfold Machine.trunkConfig
  split
  · split
    iterate 2 exact (h.setTrunk _ _).answer _ _ _ _
    all_goals exact h.answer _ _ _ _
  · exact h.answer _ _ _ _

theorem trunkStart (h : Reports s u) (tag : Byte) (body : List Byte) : Reports s (trunkStart tag body u) := by
  unfold Machine.trunkStart
  split
  · split
    iterate 2 exact h.setTrunk _ _
    all_goals exact h.answer _ _ _ _
  · exact h.answer _ _ _ _

theorem trunkStop (h : Reports s u) (tag : Byte) (body : List Byte) : Reports s (trunkStop tag body u) := by
  unfold Machine.trunkStop
  split
  · split
    · exact h.answer _ _ _ _
    · exact ((h.abortStart _).answer _ _ _ _).raise _
    · exact h.beginStop _ _
    · exact h.answer _ _ _ _
    · exact (h.stopFaulted _).answer _ _ _ _
  · exact h.answer _ _ _ _

theorem trunkQuery (h : Reports s u) (tag : Byte) (body : List Byte) : Reports s (trunkQuery tag body u) := by
  unfold Machine.trunkQuery
  split <;> exact h.answer _ _ _ _

/-! ### The rounds and turns of a trunk -/

theorem roundStart (h : Reports s u) (k : TrunkId) : Reports s (roundStart k u) := by
  unfold Machine.roundStart
  split
  · exact (h.advanceTo _).startRound k
  · exact h

theorem turnBegin (h : Reports s u) (k : TrunkId) : Reports s (turnBegin k u) := by
  unfold Machine.turnBegin
  split
  · split
    · exact h.endRound k _
    · split
      · split
        · exact h.beginTurn k _ _ _
        · exact h.skipPlace k _ _
      · exact h.skipPlace k _ _
  · exact h

theorem echoTaken (h : Reports s u) (k : TrunkId) (b : Byte) (fe : Bool) : Reports s (echoTaken k b fe u) := by
  unfold Machine.echoTaken
  dsimp only
  split
  · split
    · exact h.echoFault k
    · split
      · exact h.setTrunk k _
      · exact h.setPhase k _
  · exact h

theorem echoDeadline (h : Reports s u) (k : TrunkId) : Reports s (echoDeadline k u) := by
  unfold Machine.echoDeadline
  dsimp only
  split
  · exact (h.advanceTo _).echoFault k
  · exact h

theorem replyStarted (h : Reports s u) (k : TrunkId) : Reports s (replyStarted k u) := by
  unfold Machine.replyStarted
  split
  · exact h.setPhase k _
  · exact h

theorem replyTimeout (h : Reports s u) (k : TrunkId) : Reports s (replyTimeout k u) := by
  unfold Machine.replyTimeout
  split
  · exact ((h.advanceTo _).countTrunk k _).failAttempt k _
  · exact h

theorem gapExpiry (h : Reports s u) (k : TrunkId) : Reports s (gapExpiry k u) := by
  unfold Machine.gapExpiry
  split
  · exact (h.advanceTo _).breakReply k _
  · exact h

theorem replyTaken (h : Reports s u) (k : TrunkId) (b : Byte) (fe : Bool) : Reports s (replyTaken k b fe u) := by
  unfold Machine.replyTaken
  split
  · split
    · exact h.breakReply k _
    · split
      · exact h.completeReply k _ _
      · exact h.setPhase k _
  · exact h

theorem strayTaken (h : Reports s u) (k : TrunkId) (b : Byte) (fe : Bool) : Reports s (strayTaken k b fe u) := by
  unfold Machine.strayTaken
  dsimp only
  split
  · exact h.setTrunk k _
  · exact h

theorem settleEnd (h : Reports s u) (k : TrunkId) : Reports s (settleEnd k u) := by
  unfold Machine.settleEnd
  split
  · split
    · split
      · exact (h.advanceTo _).beginPoll k _
      · exact (h.advanceTo _).setPhase k _
    · exact (h.advanceTo _).setPhase k _
  · exact h

theorem turnClose (h : Reports s u) (k : TrunkId) : Reports s (turnClose k u) := by
  unfold Machine.turnClose
  split
  · split
    · exact (h.closeStation _ _).turnClosed k
    · exact h
  · exact h

theorem lineWentLow (h : Reports s u) (k : TrunkId) (lowFor : Nat) : Reports s (lineWentLow k lowFor u) := by
  unfold Machine.lineWentLow
  split
  · exact h.setTrunk k _
  · exact h

/-! ### The record's way (R79 to R82) -/

theorem outcome (h : Reports s u) (b : Bool) (g : Nat) (is : List RuleId) : Reports s (u.outcome b g is) :=
  h.frame rfl rfl rfl rfl

theorem acceptRecord (h : Reports s u) (i : StationId) (seq : Byte) (gap : Nat) :
    Reports s (u.acceptRecord i seq gap) := by
  unfold State.acceptRecord
  extract_lets moved
  have moved : Reports s moved := h.mapStation i _
  split
  · exact moved
  · exact moved.raise _

theorem sequenceCheck (h : Reports s u) (k : TrunkId) : Reports s (sequenceCheck k u) := by
  unfold Machine.sequenceCheck
  split
  · split
    · split
      · exact (h.setStage k _ _).countStation _ _
      · unfold State.screen
        dsimp only
        split
        · exact (((h.setStage k _ _).countLink _).outcome _ _ _).acceptRecord _ _ _
        · exact (h.setStage k _ _).countLink _
    · exact h
  · exact h

/-- What follows an admission (R16, R81, R82). -/
theorem afterAdmission (h : Reports s u) (k : TrunkId) (turn : Turn) (stamp : Time) (todo : List ReplyRecord)
    (x : Screened) (ending : AdmissionEnd) : Reports s (u.afterAdmission k turn stamp todo x ending) := by
  unfold State.afterAdmission
  split
  · exact ((h.setStage k turn _).outcome _ _ _).countStation _ _
  all_goals exact ((h.setStage k turn _).outcome _ _ _).acceptRecord _ _ _

/-! ### Events on the line of a trunk -/

theorem idleComplete (h : Reports s u) (k : TrunkId) : Reports s (idleComplete k u) := by
  unfold Machine.idleComplete
  split
  · split
    · split
      · exact h
      · exact h.runTrunk k _ _
    · exact h
  · exact h

theorem startLimitExpiry (h : Reports s u) (k : TrunkId) : Reports s (startLimitExpiry k u) := by
  unfold Machine.startLimitExpiry
  split
  · split
    · split
      · exact h
      · exact h.failStart k _
    · exact h.failStart k _
  · exact h

theorem lineTo (h : Reports s u) (k : TrunkId) (low now : Time) : Reports s (u.lineTo k low now) := by
  have expired : Reports s (u.expireBefore k low now) := by
    rcases u.expireBefore_cases k low now with e | e | e | e | ⟨w, -, -, ⟨due, e⟩ | e⟩ <;> rw [e]
    · exact h
    · exact h.echoDeadline k
    · exact h.replyTimeout k
    · exact h.gapExpiry k
    · exact h.runTrunk k w due
    · exact h.failStart k w
  exact expired.comeTo now

theorem character (h : Reports s u) (k : TrunkId) (dt : Nat) (b : Byte) (fe : Bool) :
    Reports s (u.character k dt b fe) := by
  have there := h.lineTo k (u.charStart k (later u.timeBase dt)) (later u.timeBase dt)
  unfold State.character characterTaken
  split
  · exact there.echoTaken k b fe
  · exact there.replyTaken k b fe
  all_goals exact there.strayTaken k b fe

theorem echoCharacter (h : Reports s u) (k : TrunkId) (dt : Nat) (b : Byte) (fe : Bool) :
    Reports s (echoCharacter k dt b fe u) := by
  unfold Machine.echoCharacter
  split
  · exact h.character k dt b fe
  · exact h.elapse dt

theorem replyStart (h : Reports s u) (k : TrunkId) (dt : Nat) : Reports s (replyStart k dt u) := by
  unfold Machine.replyStart
  split
  · exact (h.lineTo k _ _).replyStarted k
  · exact h.elapse dt

theorem replyCharacter (h : Reports s u) (k : TrunkId) (dt : Nat) (b : Byte) (fe : Bool) :
    Reports s (replyCharacter k dt b fe u) := by
  unfold Machine.replyCharacter
  split
  · exact h.character k dt b fe
  · exact h.elapse dt

theorem strayByte (h : Reports s u) (k : TrunkId) (dt : Nat) (b : Byte) (fe : Bool) :
    Reports s (strayByte k dt b fe u) := by
  unfold Machine.strayByte
  split
  · exact h.character k dt b fe
  · exact h.elapse dt

theorem lineLow (h : Reports s u) (k : TrunkId) (dt lowFor : Nat) : Reports s (lineLow k dt lowFor u) := by
  unfold Machine.lineLow
  split
  · exact (h.lineTo k _ _).lineWentLow k lowFor
  · exact h.elapse dt

/-! ### The host's pins and the SPI exchange -/

theorem holdAssert (h : Reports s u) (begun : Nat) : Reports s (holdAssert begun u) := by
  unfold Machine.holdAssert
  split
  · exact (h.setLink
      (l := { u.link with tx := u.link.tx.map fun m => { m with sent := max m.sent (min begun m.wire.length) } })
      rfl rfl rfl).frame rfl rfl rfl rfl
  · exact h.frame rfl rfl rfl rfl

theorem exchange (h : Reports s u) (mark : Bool) : Reports s (u.exchange mark) := by
  unfold State.exchange
  split
  · exact h
  · split
    · rename_i m _
      exact (h.setLink (l := { u.link with tx := some { m with sent := m.sent + 1 } }) rfl rfl rfl).frame rfl rfl rfl rfl
    · exact h.frame rfl rfl rfl rfl

theorem clockedOut (h : Reports s u) : Reports s u.clockedOut := by
  unfold State.clockedOut
  split
  · exact h
  · exact h.frame rfl rfl rfl rfl

end Sys2Proof.Machine.Reports
end

section
/-! What the end of a step, the flush of a close and an admission keep, once each of their parts is known to keep it. -/

-- One proof at a time: beside the rest of the text these would need more threads than the check's memory holds.
set_option Elab.async false

namespace Sys2Proof.Machine

/-! ### The end of a step (R138) -/

section
variable {P : State → Prop} (chained : Bool) (hwithdraw : ∀ u c, P u → P (u.withdrawOffer c))
  (hreply : ∀ u r, P u → P (u.sendReply chained r))
  (hnotice : ∀ u e rest, u.notices.offer = some (e, rest) → P u → P (u.sendNotice chained e rest))
  (hbatch : ∀ u c, (u.channels[c]).ready = true → P u → P (u.sendBatch chained c))
include hwithdraw hreply hnotice hbatch

/-- A pick withdraws the offers of channels that are not ready, and sends a reply, the offered notice or the batch of a
ready channel at most. -/
theorem State.pick_preserves : ∀ (fuel : Nat) (s : State), P s → P (State.pick chained fuel s)
  | 0, _, h => h
  | fuel + 1, s, h => by
    have batch : P (match s.nextOffered with
        | none => s
        | some c => if (s.channels[c]).ready then s.sendBatch chained c
          else State.pick chained fuel (s.withdrawOffer c)) := by
      split
      · exact h
      · split
        · exact hbatch _ _ ‹_› h
        · exact State.pick_preserves fuel _ (hwithdraw _ _ h)
    unfold State.pick
    dsimp only
    split
    · exact batch
    · split
      · exact hreply _ _ h
      · split
        · exact hnotice _ _ _ ‹_› h
        · exact batch

theorem State.finish_preserves (hpins : ∀ u, P u → P u.drivePins) {s : State} (h : P s) : P (s.finish chained) := by
  refine hpins _ ?_
  unfold State.arbitrate
  split
  · exact State.pick_preserves chained hwithdraw hreply hnotice hbatch 9 s h
  · exact h

end

/-! ### An admission (R34 to R40) -/

section
variable {P : State → Prop} (hevict : ∀ u c, P u → P (u.evictHead c))

section
include hevict

theorem Admission.fullQueues_preserves : ∀ (cs : List ChannelId) (a : Admission), P a.state →
    P (Admission.fullQueues cs a).state
  | [], _, h => h
  | c :: cs, a, h => by
    unfold Admission.fullQueues
    split
    · split
      · exact Admission.fullQueues_preserves cs _ h
      · exact Admission.fullQueues_preserves cs _ (hevict _ _ h)
      · exact Admission.fullQueues_preserves cs _ h
    · exact Admission.fullQueues_preserves cs _ h

theorem Admission.makeRoom_preserves : ∀ (fuel : Nat) (a : Admission), P a.state → P (Admission.makeRoom fuel a).state
  | 0, _, h => h
  | fuel + 1, a, h => by
    unfold Admission.makeRoom
    split
    · exact h
    · split
      · exact Admission.makeRoom_preserves fuel _ (hevict _ _ h)
      · exact h

end

/-- The evictions for a slot strike no channel from the set (R38). -/
theorem Admission.makeRoom_kept : ∀ (fuel : Nat) (a : Admission), (Admission.makeRoom fuel a).kept = a.kept
  | 0, _ => rfl
  | fuel + 1, a => by
    unfold Admission.makeRoom
    split
    · rfl
    · split
      · exact Admission.makeRoom_kept fuel _
      · rfl

/-- The slot that is found free is free (R39). -/
theorem Store.lowestFree_free {st : Store} {i : SlotId} (h : st.lowestFree = some i) : st.slots[i] = none :=
  Option.isNone_iff_eq_none.1 (List.find?_some (p := fun i : SlotId => (st.slots[i]).isNone) h)

/-- What is kept by each step of a fold is kept by the fold. -/
theorem foldl_preserves {σ α : Type} {P : σ → Prop} {f : σ → α → σ} (hf : ∀ u a, P u → P (f u a)) :
    ∀ (l : List α) {u : σ}, P u → P (l.foldl f u)
  | [], _, h => h
  | a :: l, _, h => foldl_preserves hf l (hf _ a h)

/-- An admission evicts, stores the record in a free slot for the channels left, reports, evaluates and counts. -/
theorem State.takeAdmission_preserves (hevict : ∀ u c, P u → P (u.evictHead c))
    (hstore : ∀ u r (i : SlotId) cs, cs ≠ [] → u.store.slots[i] = none → P u → P (u.storeRecord r i cs))
    (hreport : ∀ u p, P u → P (u.reportLoss p)) (heval : ∀ u c, P u → P (u.evalChannel c))
    (hcount : ∀ u f, P u → P (u.countLink f)) {s : State} (h : P s) (r : Record) (cs : List ChannelId) :
    P (s.takeAdmission r cs).2 := by
  have conclude : ∀ (a : Admission) (stored : Bool), P a.state → P (a.conclude stored) := fun a _ ha =>
    foldl_preserves heval _ (foldl_preserves hreport a.losses ha)
  unfold State.takeAdmission
  dsimp only
  split
  · dsimp only
    exact hcount _ _ (conclude (s.beginAdmission cs) false h)
  · split
    · exact h
    · have full := Admission.fullQueues_preserves hevict (s.beginAdmission cs).kept (s.beginAdmission cs) h
      split
      · exact conclude _ _ full
      · rename_i hkept
        refine conclude _ _ ?_
        have roomy := Admission.makeRoom_preserves hevict
          (Admission.fullQueues (s.beginAdmission cs).kept (s.beginAdmission cs)).entries _ full
        unfold Admission.place
        split
        · rename_i i hi
          refine hstore _ _ _ _ ?_ ?_ roomy
          · rw [Admission.makeRoom_kept]
            exact fun he => hkept (List.isEmpty_iff.2 he)
          · split at hi
            · exact Store.lowestFree_free hi
            · cases hi
        · exact roomy

end

end Sys2Proof.Machine
end

section
/-! The channels and the store through the events of the channel unit: reserves and credits, and the entries that name a
slot (R28, R32, R41, R50). -/

namespace Sys2Proof.Machine

/-! ### Channels that hold the same -/

/-- The channel `y` has the settings and the credit of `x` and names the same slots. -/
structure Channel.Alike (x y : Channel) : Prop where
  config : y.config = x.config
  credit : y.credit = x.credit
  queue : y.queue = x.queue
  inflight : y.inflight = x.inflight

/-- Each of the eight channels holds in `t` what it held in `s`. -/
def ChannelsAlike (s t : State) : Prop := ∀ c : ChannelId, (s.channels[c]).Alike t.channels[c]

theorem ChannelsAlike.of_eq {s t : State} (h : t.channels = s.channels) : ChannelsAlike s t := fun c => by
  rw [h]
  exact ⟨rfl, rfl, rfl, rfl⟩

theorem ChannelsAlike.trans {s t u : State} (h : ChannelsAlike s t) (g : ChannelsAlike t u) : ChannelsAlike s u :=
  fun c => ⟨(g c).config.trans (h c).config, (g c).credit.trans (h c).credit, (g c).queue.trans (h c).queue,
    (g c).inflight.trans (h c).inflight⟩

section
variable (s : State) (c : ChannelId)

theorem ChannelsAlike.setChannel {x : Channel} (h : (s.channels[c]).Alike x) : ChannelsAlike s (s.setChannel c x) :=
  fun d => by
    rw [State.setChannel_read]
    split
    · subst_vars; exact h
    · exact ⟨rfl, rfl, rfl, rfl⟩

theorem ChannelsAlike.evalReady : ChannelsAlike s (s.evalReady c) := .setChannel s c ⟨rfl, rfl, rfl, rfl⟩

theorem ChannelsAlike.withdrawOffer : ChannelsAlike s (s.withdrawOffer c) := .setChannel s c ⟨rfl, rfl, rfl, rfl⟩

theorem ChannelsAlike.evalChannel : ChannelsAlike s (s.evalChannel c) := fun d => by
  rw [State.evalChannel_get]
  split
  · rename_i e
    subst e
    obtain ⟨b, due, hx⟩ := (s.channels[c]).evalHold_fields s.timeBase
    simp only [hx]
    exact ⟨rfl, rfl, rfl, rfl⟩
  · exact ⟨rfl, rfl, rfl, rfl⟩

theorem ChannelsAlike.reportLoss (p : ChannelId × Loss) : ChannelsAlike s (s.reportLoss p) := fun d => by
  obtain ⟨k, hk⟩ := s.reportLoss_get p d
  rw [hk]
  exact ⟨rfl, rfl, rfl, rfl⟩

end

/-! ### Sums over the channels -/

theorem State.sum_channels (s : State) (f : Channel → Nat) :
    (s.channels.toList.map f).sum = ∑ c : ChannelId, f s.channels[c] := by
  rw [Vector.toList_eq_map_finRange, List.map_map, Fin.sum_univ_def]
  rfl

/-- What replacing one channel does to a sum over the eight. -/
theorem State.sum_setChannel (s : State) (c : ChannelId) (x : Channel) (f : Channel → Nat) :
    (∑ d : ChannelId, f (s.setChannel c x).channels[d]) + f s.channels[c] =
      (∑ d : ChannelId, f s.channels[d]) + f x := by
  have rest : ∑ d ∈ Finset.univ.erase c, f (s.setChannel c x).channels[d] =
      ∑ d ∈ Finset.univ.erase c, f s.channels[d] := Finset.sum_congr rfl fun d hd => by
    rw [State.setChannel_read, if_neg (Finset.ne_of_mem_erase hd).symm]
  rw [← Finset.add_sum_erase Finset.univ _ (Finset.mem_univ c), ← Finset.add_sum_erase Finset.univ
    (fun d : ChannelId => f s.channels[d]) (Finset.mem_univ c), rest, State.setChannel_read, if_pos rfl]
  omega

/-! ### Reserves and credits (R32, R50) -/

theorem creditSound_iff (s : State) : CreditSound s ↔
    ∑ c : ChannelId, (s.channels[c]).config.reserve ≤ 256 ∧ ∀ c : ChannelId, (s.channels[c]).credit ≤ 255 := by
  unfold CreditSound
  rw [State.sum_channels]

/-- What leaves settings and raises no credit. -/
theorem CreditSound.of_alike {s t : State} (h : CreditSound s) (ha : ChannelsAlike s t) : CreditSound t := by
  rw [creditSound_iff] at h ⊢
  simp only [(ha _).config, (ha _).credit]
  exact h

/-- A channel replaced by one whose reserve goes with the others and whose credit is within its limit. -/
theorem CreditSound.setChannel {s : State} (h : CreditSound s) (c : ChannelId) {x : Channel}
    (hreserve : s.otherReserves c + x.config.reserve ≤ 256 ∨ x.config = (s.channels[c]).config)
    (hcredit : x.credit ≤ 255) : CreditSound (s.setChannel c x) := by
  rw [creditSound_iff] at h ⊢
  obtain ⟨hsum, hcredits⟩ := h
  have hset := s.sum_setChannel c x fun y => y.config.reserve
  have hothers : s.otherReserves c + (s.channels[c]).config.reserve =
      ∑ d : ChannelId, (s.channels[d]).config.reserve := by
    unfold State.otherReserves
    rw [← Fin.sum_univ_def, ← Finset.add_sum_erase Finset.univ _ (Finset.mem_univ c),
      ← Finset.add_sum_erase Finset.univ (fun d : ChannelId => (s.channels[d]).config.reserve) (Finset.mem_univ c),
      if_pos rfl, Finset.sum_congr rfl fun d hd => if_neg (Finset.ne_of_mem_erase hd)]
    omega
  refine ⟨?_, fun d => ?_⟩
  · obtain hreserve | hreserve := hreserve
    · omega
    · rw [hreserve] at hset; omega
  · rw [State.setChannel_read]
    split
    · exact hcredit
    · exact hcredits d

/-! ### The entries that name a slot (R28) -/

/-- How many entries of the part's queues and in-flight batches name the slot. -/
def State.namings (s : State) (i : SlotId) : Nat := ∑ c : ChannelId, (s.channels[c]).names i

/-- The store counts `n i` references to each slot `i`, an occupied slot has one at least, and F is exact (R28). -/
structure Store.Counts (st : Store) (n : SlotId → Nat) : Prop where
  refs : ∀ i, st.refCount i = n i
  occupied : ∀ i : SlotId, (st.slots[i]).isSome → 1 ≤ st.refCount i
  free : st.free = st.slots.toList.countP Option.isNone

theorem storeSound_iff (s : State) : StoreSound s ↔ s.store.Counts s.namings := by
  have hsum : ∀ i, (s.channels.toList.map fun x => x.names i).sum = s.namings i := fun i => s.sum_channels _
  unfold StoreSound
  simp only [hsum]
  exact ⟨fun ⟨refs, occupied, free⟩ => ⟨refs, occupied, free⟩, fun ⟨refs, occupied, free⟩ => ⟨refs, occupied, free⟩⟩

/-- The count of a slot in terms of what it holds. -/
theorem Store.refCount_eq (st : Store) (i : SlotId) : st.refCount i = (st.slots[i]).elim 0 Stored.refs := by
  unfold Store.refCount
  cases st.slots[i] <;> rfl

/-- The free slots when one slot is written. -/
theorem countP_setAt {α : Type} {n : Nat} (p : α → Bool) (v : Vector α n) (i : Fin n) (a : α) :
    (setAt v i a).toList.countP p + (if p v[i] then 1 else 0) = v.toList.countP p + if p a then 1 else 0 := by
  have hi : (i : Nat) < v.toList.length := by simp
  have hlist : (setAt v i a).toList = v.toList.set i a := rfl
  have hsplit := List.countP_set (p := p) (a := a) hi
  have hpos : p (v.toList[(i : Nat)]'hi) = true → 0 < v.toList.countP p := fun hp =>
    List.countP_pos_iff.2 ⟨_, List.getElem_mem hi, hp⟩
  have hread : v.toList[(i : Nat)]'hi = v[i] := by simp
  rw [hread] at hsplit hpos
  rw [hlist, hsplit]
  split
  · have := hpos ‹_›; omega
  · omega

theorem Store.slots_release (st : Store) (i : SlotId) : st.slots[i] = none ∧ st.release i = st
    ∨ ∃ x, st.slots[i] = some x ∧ st.release i =
      { slots := setAt st.slots i (if x.refs ≤ 1 then none else some { x with refs := x.refs - 1 })
        free := if x.refs ≤ 1 then st.free + 1 else st.free } := by
  unfold Store.release
  split
  · exact .inl ⟨‹_›, rfl⟩
  · rename_i x hx
    refine .inr ⟨x, hx, ?_⟩
    split <;> rfl

/-- The end of one reference to a slot that is named (R41). -/
theorem Store.Counts.release {st : Store} {n m : SlotId → Nat} (h : st.Counts n) (i : SlotId)
    (hn : ∀ j, n j = m j + if j = i then 1 else 0) : (st.release i).Counts m := by
  obtain ⟨refs, occupied, free⟩ := h
  have named : st.refCount i = m i + 1 := by rw [refs, hn, if_pos rfl]
  obtain ⟨hnone, -⟩ | ⟨x, hx, hrelease⟩ := st.slots_release i
  · rw [Store.refCount_eq, hnone] at named
    simp at named
  · have hrefs : x.refs = m i + 1 := by rw [Store.refCount_eq, hx] at named; exact named
    have counts : ∀ j, (st.release i).refCount j = m j := fun j => by
      rw [Store.refCount_eq, hrelease, get_setAt]
      by_cases hj : i = j
      · subst hj
        rw [if_pos rfl]
        split
        · simp only [Option.elim_none]; omega
        · simp only [Option.elim_some]; omega
      · rw [if_neg hj, ← Store.refCount_eq, refs, hn, if_neg (Ne.symm hj), Nat.add_zero]
    refine ⟨counts, fun j hj => ?_, ?_⟩
    · rw [counts]
      rw [hrelease, get_setAt] at hj
      by_cases hij : i = j
      · subst hij
        rw [if_pos rfl] at hj
        split at hj
        · cases hj
        · omega
      · rw [if_neg hij] at hj
        have := occupied j hj
        rw [refs, hn, if_neg (Ne.symm hij)] at this
        exact this
    · have hfree := countP_setAt Option.isNone st.slots i
        (if x.refs ≤ 1 then none else some { x with refs := x.refs - 1 })
      rw [hx] at hfree
      rw [hrelease]
      split at hfree
      · simp_all
      · simp_all

/-- The ends of several references (R41). -/
theorem Store.Counts.releaseAll : ∀ (is : List SlotId) {st : Store} {n m : SlotId → Nat}, st.Counts n →
    (∀ j, n j = m j + is.count j) → (st.releaseAll is).Counts m
  | [], _, n, m, h, hn => by
    have : n = m := funext hn
    exact this ▸ h
  | i :: is, st, n, m, h, hn => by
    refine Store.Counts.releaseAll is (h.release i (m := fun j => m j + is.count j) fun j => ?_) fun _ => rfl
    rw [hn, List.count_cons, Nat.add_assoc]
    simp only [beq_iff_eq, eq_comm (a := i)]

/-- A record takes a free slot with references from one entry at least (R39). -/
theorem Store.Counts.occupy {st : Store} {n : SlotId → Nat} (h : st.Counts n) {i : SlotId} (hi : st.slots[i] = none)
    (r : Record) {k : Nat} (hk : 1 ≤ k) : (st.occupy i r k).Counts fun j => n j + if j = i then k else 0 := by
  obtain ⟨refs, occupied, free⟩ := h
  have unnamed : n i = 0 := by rw [← refs, Store.refCount_eq, hi]; rfl
  have counts : ∀ j, (st.occupy i r k).refCount j = n j + if j = i then k else 0 := fun j => by
    rw [Store.refCount_eq]
    unfold Store.occupy
    rw [get_setAt]
    by_cases hj : i = j
    · subst hj; simp [unnamed]
    · rw [if_neg hj, ← Store.refCount_eq, refs, if_neg (Ne.symm hj), Nat.add_zero]
  refine ⟨counts, fun j hj => ?_, ?_⟩
  · rw [counts]
    by_cases hij : i = j
    · subst hij; rw [if_pos rfl]; omega
    · unfold Store.occupy at hj
      rw [get_setAt, if_neg hij] at hj
      have := occupied j hj
      rw [refs] at this
      omega
  · have hfree := countP_setAt Option.isNone st.slots i (some { record := r, refs := k })
    rw [hi] at hfree
    simp only [Option.isNone_none, if_true, Option.isNone_some, Bool.false_eq_true, if_false] at hfree
    unfold Store.occupy
    dsimp only
    omega

/-! ### The store through the events of the channels -/

/-- What names the same slots and leaves the store. -/
theorem StoreSound.of_alike {s t : State} (h : StoreSound s) (ha : ChannelsAlike s t) (hs : t.store = s.store) :
    StoreSound t := by
  have hnames : t.namings = s.namings := funext fun i => Finset.sum_congr rfl fun c _ => by
    unfold Channel.names
    rw [(ha c).queue, (ha c).inflight]
  rw [storeSound_iff] at h ⊢
  rw [hnames, hs]
  exact h

/-- Entries that leave a channel release the slots they name (R41). -/
theorem StoreSound.releaseAll {s : State} (h : StoreSound s) (c : ChannelId) {x : Channel} (is : List SlotId)
    (hx : ∀ i, (s.channels[c]).names i = x.names i + is.count i) :
    StoreSound { s.setChannel c x with store := s.store.releaseAll is } := by
  rw [storeSound_iff] at h ⊢
  refine h.releaseAll is fun i => ?_
  have hset := s.sum_setChannel c x fun y => y.names i
  have hi := hx i
  have hleft : State.namings { s.setChannel c x with store := s.store.releaseAll is } i =
    ∑ d : ChannelId, ((s.setChannel c x).channels[d]).names i := rfl
  have hright : s.namings i = ∑ d : ChannelId, (s.channels[d]).names i := rfl
  omega

/-- A channel that names the same slots in another order of its entries. -/
theorem StoreSound.setChannel {s : State} (h : StoreSound s) (c : ChannelId) {x : Channel}
    (hx : ∀ i, (s.channels[c]).names i = x.names i) : StoreSound (s.setChannel c x) :=
  h.releaseAll c [] hx

theorem StoreSound.flushQueue {s : State} (h : StoreSound s) (c : ChannelId) : StoreSound (s.flushQueue c) :=
  h.releaseAll c _ fun i => by
    unfold Channel.names Channel.emptied
    simp only [List.map_nil, List.count_nil]
    omega

theorem StoreSound.completeBatch {s : State} (h : StoreSound s) (c : ChannelId) : StoreSound (s.completeBatch c) := by
  refine StoreSound.of_alike (s := { s.setChannel c _ with store := _ }) ?_ (.evalReady _ c) rfl
  exact h.releaseAll c _ fun i => by unfold Channel.names; simp

theorem StoreSound.evictHead {s : State} (h : StoreSound s) (c : ChannelId) : StoreSound (s.evictHead c) := by
  unfold State.evictHead
  split
  · exact h
  · rename_i e rest hq
    refine h.releaseAll c [e.slot] fun i => ?_
    unfold Channel.names Channel.dropHead
    rw [hq, List.map_cons, List.tail_cons, List.count_cons, List.count_singleton]
    dsimp only
    omega

/-- A batch's records go from the queue to the in-flight batch (R55). -/
theorem Channel.formBatch_names {x : Channel} (hx : x.inflight = []) (i : SlotId) : x.names i = x.formBatch.names i := by
  have hsplit : (x.queue.map QueueEntry.slot).count i = ((x.queue.take x.batchSize).map QueueEntry.slot).count i
      + ((x.queue.drop x.batchSize).map QueueEntry.slot).count i := by
    rw [← List.count_append, ← List.map_append, List.take_append_drop]
  unfold Channel.names Channel.formBatch
  rw [hx, hsplit]
  simp only [List.count_nil]
  omega

theorem State.namings_appendEntries (i j : SlotId) : ∀ (cs : List ChannelId) (s : State),
    (s.appendEntries i cs).namings j = s.namings j + if j = i then cs.length else 0
  | [], s => by simp [State.appendEntries]
  | c :: cs, s => by
    have happend : (s.appendEntries i (c :: cs)) =
        (s.setChannel c ((s.channels[c]).append s.timeBase i)).appendEntries i cs := rfl
    have hset : (s.setChannel c ((s.channels[c]).append s.timeBase i)).namings j + (s.channels[c]).names j =
        s.namings j + ((s.channels[c]).append s.timeBase i).names j := s.sum_setChannel c _ fun y => y.names j
    have hnames : ((s.channels[c]).append s.timeBase i).names j =
        (s.channels[c]).names j + if j = i then 1 else 0 := by
      unfold Channel.names Channel.append
      simp only [List.map_append, List.map_cons, List.map_nil, List.count_append, List.count_singleton, beq_iff_eq,
        eq_comm (a := i)]
      omega
    rw [happend, State.namings_appendEntries i j cs, List.length_cons]
    split at hnames
    · rename_i hj
      rw [if_pos hj, if_pos hj]
      omega
    · rename_i hj
      rw [if_neg hj, if_neg hj]
      omega

/-- The record is stored with one reference for each entry (R39). -/
theorem StoreSound.storeRecord {s : State} (h : StoreSound s) (r : Record) {i : SlotId} (hi : s.store.slots[i] = none)
    {cs : List ChannelId} (hcs : cs ≠ []) : StoreSound (s.storeRecord r i cs) := by
  rw [storeSound_iff] at h ⊢
  have occupied := h.occupy hi r (List.length_pos_of_ne_nil hcs)
  have hstore : (s.storeRecord r i cs).store = s.store.occupy i r cs.length := by
    unfold State.storeRecord
    simp
  have hnames : (s.storeRecord r i cs).namings = fun j => s.namings j + if j = i then cs.length else 0 :=
    funext fun j => State.namings_appendEntries i j cs { s with store := s.store.occupy i r cs.length }
  rw [hstore, hnames]
  exact occupied

end Sys2Proof.Machine
end

section
/-! Events of the arbiter and of the channel unit, by what they leave of the limits and the reference counts. -/

-- One proof at a time: beside the rest of the text these would need more threads than the check's memory holds.
set_option Elab.async false

namespace Sys2Proof.Machine

/-! ### The link through the events of the channels -/

/-- The offered entry leaves the others in their order (R153). -/
theorem takeFirst_sublist {α : Type} {p : α → Bool} : ∀ {l : List α} {a : α} {rest : List α},
    takeFirst p l = some (a, rest) → rest.Sublist l
  | [], _, _, h => by cases h
  | b :: l, a, rest, h => by
    unfold takeFirst at h
    split at h
    · cases h
      exact List.sublist_cons_self _ _
    · obtain ⟨⟨a', rest'⟩, hr, he⟩ := Option.map_eq_some_iff.1 h
      cases he
      exact (takeFirst_sublist hr).cons_cons _

theorem NoticeQueue.offer_sublist {q : NoticeQueue} {e : NoticeEntry} {rest : List NoticeEntry}
    (h : q.offer = some (e, rest)) : rest.Sublist q.entries := by
  unfold NoticeQueue.offer at h
  split at h
  · cases h
    exact takeFirst_sublist ‹_›
  · exact takeFirst_sublist h

/-- The first NOTICE_LOST entry takes the count, and the entries stay what they are; without one there is none (R152). -/
theorem addToLost_ordinary (count : Nat) (es : List NoticeEntry) :
    (∃ fs, addToLost count es = some fs
      ∧ fs.map (fun e => e.notice.ordinary) = es.map fun e => e.notice.ordinary)
    ∨ (addToLost count es = none ∧ ∀ e ∈ es, e.notice.ordinary = true) := by
  induction es with
  | nil => exact .inr ⟨rfl, by simp⟩
  | cons e es ih =>
    cases hn : e.notice with
    | noticeLost n =>
      refine .inl ⟨_, by rw [addToLost, hn], ?_⟩
      simp [hn, Notice.ordinary]
    | _ =>
      have ho : e.notice.ordinary = true := by rw [hn]; rfl
      have hcons := addToLost_cons (count := count) (e := e) (by rw [hn]; simp) es
      obtain ⟨fs, hfs, hmap⟩ | ⟨hnone, hall⟩ := ih
      · exact .inl ⟨e :: fs, by rw [hcons, hfs]; rfl, by rw [List.map_cons, List.map_cons, hmap]⟩
      · exact .inr ⟨by rw [hcons, hnone]; rfl, by simpa [ho] using hall⟩

/-- The departure of an entry keeps the limits: a NOTICE_LOST is made only when none is queued (R152). -/
theorem NoticeQueue.afterDeparture_counts {q : NoticeQueue} (now : Time) (h : q.ordinaryCount ≤ 31)
    (hl : q.lostCount ≤ 1) :
    (q.afterDeparture now).ordinaryCount ≤ 31 ∧ (q.afterDeparture now).lostCount ≤ 1 := by
  unfold NoticeQueue.afterDeparture
  split
  · exact ⟨h, hl⟩
  · obtain ⟨fs, hfs, hmap⟩ | ⟨hnone, hall⟩ := addToLost_ordinary q.lost q.entries
    · obtain ⟨ho, hl'⟩ := NoticeQueue.counts_of_ordinary (q := q) (r := { q with entries := fs, lost := 0 }) hmap
      rw [hfs]
      exact ⟨ho.trans_le h, hl'.trans_le hl⟩
    · have none : q.entries.filter (fun e => !e.notice.ordinary) = [] :=
        List.filter_eq_nil_iff.2 fun e he => by simp [hall e he]
      unfold NoticeQueue.ordinaryCount NoticeQueue.lostCount at *
      simp only [hnone, List.filter_append, List.length_append, none]
      exact ⟨h, le_rfl⟩

theorem NoticesSound.sendNotice {s : State} (h : NoticesSound s) (chained : Bool) {e : NoticeEntry}
    {rest : List NoticeEntry} (he : s.notices.offer = some (e, rest)) : NoticesSound (s.sendNotice chained e rest) := by
  rw [noticesSound_iff] at h ⊢
  have hrest := NoticeQueue.offer_sublist he
  exact NoticeQueue.afterDeparture_counts (q := { s.notices with entries := rest }) s.timeBase
    ((hrest.filter _).length_le.trans h.1) ((hrest.filter _).length_le.trans h.2)

namespace LinkKept
variable {s u : State} (h : LinkKept s u)
include h

theorem setChannel (c : ChannelId) (x : Channel) : LinkKept s (u.setChannel c x) := h.frame rfl rfl

theorem evalReady (c : ChannelId) : LinkKept s (u.evalReady c) := h.setChannel c _

theorem evalChannel (c : ChannelId) : LinkKept s (u.evalChannel c) := by
  have held : LinkKept s (u.evalHold c) := h.setChannel c _
  have marked : LinkKept s ((u.evalHold c).evalMarks c) := by
    unfold State.evalMarks
    dsimp only
    split
    · exact held
    · exact (held.setChannel c _).raise _
  exact marked.evalReady c

theorem reportLoss (p : ChannelId × Loss) : LinkKept s (u.reportLoss p) := by
  unfold State.reportLoss
  split
  · exact (h.setChannel p.1 _).raise _
  · exact h

theorem evictHead (c : ChannelId) : LinkKept s (u.evictHead c) := by
  unfold State.evictHead
  split
  · exact h
  · exact h.frame rfl rfl

theorem storeRecord (r : Record) (i : SlotId) (cs : List ChannelId) : LinkKept s (u.storeRecord r i cs) :=
  h.frame (by simp) (by simp)

theorem sendNotice (chained : Bool) {e : NoticeEntry} {rest : List NoticeEntry}
    (he : u.notices.offer = some (e, rest)) : LinkKept s (u.sendNotice chained e rest) :=
  h.trans ⟨rfl, rfl, rfl, fun hs => hs.sendNotice chained he⟩

theorem sendBatch (chained : Bool) (c : ChannelId) : LinkKept s (u.sendBatch chained c) := by
  have formed : LinkKept s ((u.setChannel c (u.channels[c]).formBatch).evalChannel c) :=
    (h.setChannel c _).evalChannel c
  exact LinkKept.setLink (LinkKept.setLink formed rfl rfl rfl) rfl rfl rfl

end LinkKept

/-! ### Credits through the events of the channels -/

namespace CreditSound
variable {s : State} (h : CreditSound s)
include h

theorem of_channels {t : State} (hc : t.channels = s.channels) : CreditSound t := h.of_alike (.of_eq hc)

/-- A channel replaced by one with its settings and no more credit. -/
theorem sameSettings (c : ChannelId) {x : Channel} (hconfig : x.config = (s.channels[c]).config)
    (hcredit : x.credit ≤ (s.channels[c]).credit) : CreditSound (s.setChannel c x) :=
  h.setChannel c (.inr hconfig) (hcredit.trans (h.2 c))

theorem flushQueue (c : ChannelId) : CreditSound (s.flushQueue c) :=
  (h.sameSettings c (x := (s.channels[c]).emptied) rfl le_rfl).of_channels rfl

theorem completeBatch (c : ChannelId) : CreditSound (s.completeBatch c) := by
  refine CreditSound.of_alike (s := { s.setChannel c _ with store := _ }) ?_ (.evalReady _ c)
  exact (h.sameSettings c (by rfl) (by rfl)).of_channels rfl

theorem evictHead (c : ChannelId) : CreditSound (s.evictHead c) := by
  unfold State.evictHead
  split
  · exact h
  · exact (h.sameSettings c (x := (s.channels[c]).dropHead) rfl le_rfl).of_channels rfl

theorem storeRecord (r : Record) (i : SlotId) (cs : List ChannelId) : CreditSound (s.storeRecord r i cs) := by
  have occupied : CreditSound { s with store := s.store.occupy i r cs.length } := h.of_channels rfl
  exact foldl_preserves (P := CreditSound) (fun u c hu => hu.sameSettings c
    (x := (u.channels[c]).append u.timeBase i) rfl le_rfl) cs occupied

end CreditSound

/-! ### The limits and the reference counts together -/

/-- Between `s` and `t` the limits of the link and the notices, those of the reserves and credits, and the store's
soundness are kept. -/
structure LimitsKept (s t : State) : Prop extends LinkKept s t where
  credit : CreditSound s → CreditSound t
  storeSound : StoreSound s → StoreSound t

theorem Reports.limitsKept {s t : State} (h : Reports s t) : LimitsKept s t :=
  ⟨h.toLinkKept, fun hs => hs.of_channels h.channels, fun hs => hs.of_alike (.of_eq h.channels) h.store⟩

namespace LimitsKept
variable {s t u v : State}

theorem refl (s : State) : LimitsKept s s := (Reports.refl s).limitsKept

theorem trans (h : LimitsKept s t) (g : LimitsKept t u) : LimitsKept s u :=
  ⟨h.toLinkKept.trans g.toLinkKept, fun hs => g.credit (h.credit hs), fun hs => g.storeSound (h.storeSound hs)⟩

variable (h : LimitsKept s u)
include h

/-- What then keeps the limits of the link, leaves the store, and leaves the channels what they hold. -/
theorem alike (hk : LinkKept s v) (ha : ChannelsAlike u v) (hst : v.store = u.store) : LimitsKept s v :=
  ⟨hk, fun hs => (h.credit hs).of_alike ha, fun hs => (h.storeSound hs).of_alike ha hst⟩

theorem frame (hc : v.channels = u.channels) (hst : v.store = u.store) (hl : v.link = u.link)
    (hn : v.notices = u.notices) : LimitsKept s v :=
  h.alike (h.toLinkKept.frame hl (by rw [hn])) (.of_eq hc) hst

theorem answer (kind tag : Byte) (status : Status) (results : List Byte) :
    LimitsKept s (u.answer kind tag status results) :=
  h.alike (h.toLinkKept.answer kind tag status results) (.of_eq rfl) rfl

theorem countLink (f : LinkCounters → LinkCounters) : LimitsKept s (u.countLink f) :=
  h.alike (h.toLinkKept.countLink f) (.of_eq rfl) rfl

theorem evalReady (c : ChannelId) : LimitsKept s (u.evalReady c) :=
  h.alike (h.toLinkKept.evalReady c) (.evalReady u c) rfl

theorem evalChannel (c : ChannelId) : LimitsKept s (u.evalChannel c) :=
  h.alike (h.toLinkKept.evalChannel c) (.evalChannel u c) (by simp)

theorem reportLoss (p : ChannelId × Loss) : LimitsKept s (u.reportLoss p) :=
  h.alike (h.toLinkKept.reportLoss p) (.reportLoss u p) (by simp)

/-- A channel replaced by one that names the same slots. -/
theorem setChannel (c : ChannelId) (x : Channel) (hqueue : x.queue = (u.channels[c]).queue)
    (hinflight : x.inflight = (u.channels[c]).inflight) (hcredit : CreditSound u → CreditSound (u.setChannel c x)) :
    LimitsKept s (u.setChannel c x) where
  toLinkKept := h.toLinkKept.frame rfl rfl
  credit hs := hcredit (h.credit hs)
  storeSound hs := (h.storeSound hs).setChannel c fun i => by unfold Channel.names; rw [hqueue, hinflight]

theorem flushQueue (c : ChannelId) : LimitsKept s (u.flushQueue c) :=
  ⟨h.toLinkKept.frame rfl rfl, fun hs => (h.credit hs).flushQueue c, fun hs => (h.storeSound hs).flushQueue c⟩

theorem completeBatch (c : ChannelId) : LimitsKept s (u.completeBatch c) :=
  ⟨h.toLinkKept.frame rfl rfl, fun hs => (h.credit hs).completeBatch c, fun hs => (h.storeSound hs).completeBatch c⟩

/-- A ready channel has no batch in flight whose entries could be lost (R53, R55). -/
theorem sendBatch (chained : Bool) {c : ChannelId} (hc : (u.channels[c]).ready = true) :
    LimitsKept s (u.sendBatch chained c) := by
  have formed : LimitsKept s (u.setChannel c (u.channels[c]).formBatch) :=
    ⟨h.toLinkKept.frame rfl rfl, fun hs => (h.credit hs).sameSettings c rfl (Nat.sub_le _ _),
      fun hs => (h.storeSound hs).setChannel c (Channel.formBatch_names (Channel.ready_fields hc).2.1)⟩
  exact (formed.evalChannel c).alike (h.toLinkKept.sendBatch chained c) (.of_eq rfl) rfl

/-- The end of a step (R138). -/
theorem finish (chained : Bool) : LimitsKept s (u.finish chained) :=
  State.finish_preserves chained
    (fun v c hv => hv.alike (hv.toLinkKept.frame rfl rfl) (.withdrawOffer v c) rfl)
    (fun _ _ hv => hv.alike (hv.toLinkKept.setLink rfl rfl rfl) (.of_eq rfl) rfl)
    (fun _ _ _ he hv => hv.alike (hv.toLinkKept.sendNotice chained he) (.of_eq rfl) rfl)
    (fun _ _ hc hv => hv.sendBatch chained hc)
    (fun _ hv => hv.frame rfl rfl rfl rfl) h

/-- An admission (R34 to R40). -/
theorem takeAdmission (r : Record) (cs : List ChannelId) : LimitsKept s (u.takeAdmission r cs).2 :=
  State.takeAdmission_preserves
    (fun _ c hv => ⟨hv.toLinkKept.evictHead c, fun hs => (hv.credit hs).evictHead c,
      fun hs => (hv.storeSound hs).evictHead c⟩)
    (fun _ r i cs hcs hi hv => ⟨hv.toLinkKept.storeRecord r i cs, fun hs => (hv.credit hs).storeRecord r i cs,
      fun hs => (hv.storeSound hs).storeRecord r hi hcs⟩)
    (fun _ p hv => hv.reportLoss p) (fun _ c hv => hv.evalChannel c) (fun _ f hv => hv.countLink f) h r cs

end LimitsKept

end Sys2Proof.Machine
end

section
/-! Every step keeps the limits of the shared tables and the store's reference counts (R28, R32, R41, R50, R134, R135,
R151). -/

-- One proof at a time: beside the rest of the text these would need more threads than the check's memory holds.
set_option Elab.async false

namespace Sys2Proof.Machine

/-! ### The four invariants -/

/-- Between `s` and `t` each of the four invariants is kept. -/
structure HostSound (s t : State) : Prop where
  link : LinkSound s → LinkSound t
  notices : NoticesSound s → NoticesSound t
  credit : CreditSound s → CreditSound t
  store : StoreSound s → StoreSound t

theorem HostSound.trans {s t u : State} (h : HostSound s t) (g : HostSound t u) : HostSound s u :=
  ⟨fun hs => g.link (h.link hs), fun hs => g.notices (h.notices hs), fun hs => g.credit (h.credit hs),
    fun hs => g.store (h.store hs)⟩

theorem LimitsKept.sound {s t : State} (h : LimitsKept s t) : HostSound s t :=
  ⟨fun hs => hs.of_tags h.tags h.refusals, h.notices, h.credit, h.storeSound⟩

/-- None of the four speaks of the session. -/
theorem HostSound.setSession (s : State) (x : Session) : HostSound s (s.setLink { s.link with session := x }) :=
  ⟨id, id, id, id⟩

/-- A request that takes its slot of the table, and its owner's work (R134, R136). -/
theorem HostSound.accepted {s t : State} {kind tag : Byte} (ht : s.tableCheck tag = none)
    (h : HostSound (s.enter kind tag) t) : HostSound s t :=
  HostSound.trans ⟨fun hs => hs.enter ht kind, id, id, id⟩ h

/-- The reset values are sound (R30, R45, R134, R145). -/
theorem HostSound.of_reset {s t : State} (hl : t.link = State.reset.link) (hn : t.notices = State.reset.notices)
    (hc : t.channels = State.reset.channels) (hst : t.store = State.reset.store) : HostSound s t := by
  obtain ⟨link, -, notices, credit, -, -, store, -⟩ := resetMeetsInvariants
  exact ⟨fun _ => link.of_tags (by rw [hl]) (by rw [hl]), fun _ => notices.of_entries (by rw [hn]),
    fun _ => credit.of_channels hc, fun _ => store.of_alike (.of_eq hc) hst⟩

theorem resetRelease_hostSound (a b : Bool) (s : State) : HostSound s (resetRelease a b s) := by
  unfold resetRelease
  split
  · exact .of_reset rfl rfl rfl rfl
  · exact (LimitsKept.refl s).sound

/-! ### The session -/

theorem linkOpen_hostSound (tag : Byte) (body : List Byte) (s : State) : HostSound s (linkOpen tag body s) := by
  unfold linkOpen
  split
  · exact ((Reports.refl s).answer _ _ _ _).limitsKept.sound
  · split
    · exact (HostSound.setSession s .opened).trans
        (Reports.answer (Reports.setNotices (.refl _) (by rfl)) _ _ _ _).limitsKept.sound
    · exact ((Reports.refl s).answer _ _ _ _).limitsKept.sound

theorem closeEnd_hostSound (s : State) : HostSound s (closeEnd s) := by
  unfold closeEnd
  split
  · split
    · exact (HostSound.setSession s .closed).trans ((Reports.refl _).answer _ _ _ _).limitsKept.sound
    · exact (LimitsKept.refl s).sound
  · exact (LimitsKept.refl s).sound

theorem closeStopStep_hostSound (s : State) : HostSound s (closeStopStep s) := by
  unfold closeStopStep
  split
  · split
    · exact (HostSound.setSession s _).trans
        (Reports.foldl (fun _ k h => h.closeStopTrunk k) _ (.refl _)).limitsKept.sound
    · exact (LimitsKept.refl s).sound
  · exact (LimitsKept.refl s).sound

/-- An emptied notice queue is within its limits (R155). -/
theorem HostSound.emptyNotices (s : State) : HostSound s (s.setNotices { s.notices with entries := [] }) :=
  ⟨id, fun _ => ⟨Nat.zero_le _, Nat.zero_le _⟩, id, id⟩

theorem LimitsKept.flushChannel {s u : State} (h : LimitsKept s u) (c : ChannelId) :
    LimitsKept s (u.flushChannel c) := by
  have flushed := h.flushQueue c
  exact (flushed.setChannel c _ (by rfl) (by rfl) fun hu =>
    hu.sameSettings c (by rfl) (by exact Nat.zero_le _)).evalChannel c

theorem LimitsKept.flushStep {s u : State} (h : LimitsKept s u) : LimitsKept s u.flushStep :=
  foldl_preserves (P := LimitsKept s) (fun _ c hu => hu.flushChannel c) _ h

theorem closeDirectiveStep_hostSound (s : State) : HostSound s (closeDirectiveStep s) := by
  unfold closeDirectiveStep
  split
  · split
    · rename_i tag _ _
      have flushed : LimitsKept s (s.setDirectives []).flushStep :=
        ((Reports.refl s).setDirectives []).limitsKept.flushStep
      generalize (s.setDirectives []).flushStep = u at flushed
      exact (flushed.sound.trans (.emptyNotices u)).trans (.setSession _ (.closing .batches tag))
    · exact (LimitsKept.refl s).sound
  · exact (LimitsKept.refl s).sound

/-! ### Channels -/

theorem LimitsKept.channelEnable {s u : State} (h : LimitsKept s u) (tag : Byte) (body : List Byte) :
    LimitsKept s (channelEnable tag body u) := by
  unfold Machine.channelEnable
  split
  · dsimp only
    split
    · exact h.answer _ _ _ _
    · split
      · exact h.answer _ _ _ _
      · rename_i hroom
        exact ((h.setChannel _ _ (by rfl) (by rfl) fun hu =>
          hu.setChannel _ (.inl (by exact Nat.not_lt.1 hroom)) (by exact hu.2 _)).evalReady _).answer _ _ _ _
  · exact h.answer _ _ _ _

theorem LimitsKept.channelDisable {s u : State} (h : LimitsKept s u) (tag : Byte) (body : List Byte) :
    LimitsKept s (channelDisable tag body u) := by
  unfold Machine.channelDisable
  split
  · exact (((h.flushQueue _).setChannel _ _ (by rfl) (by rfl) fun hu =>
      hu.sameSettings _ (by rfl) (by exact Nat.zero_le _)).evalChannel _).answer _ _ _ _
  · exact h.answer _ _ _ _

theorem LimitsKept.channelCredit {s u : State} (h : LimitsKept s u) (tag : Byte) (body : List Byte) :
    LimitsKept s (channelCredit tag body u) := by
  unfold Machine.channelCredit
  split
  · dsimp only
    split
    · exact h.answer _ _ _ _
    · split
      · exact h.answer _ _ _ _
      · exact ((h.setChannel _ _ (by rfl) (by rfl) fun hu =>
          hu.setChannel _ (.inr (by rfl)) (by exact Nat.min_le_left _ _)).evalReady _).answer _ _ _ _
  · exact h.answer _ _ _ _

theorem LimitsKept.channelFlush {s u : State} (h : LimitsKept s u) (tag : Byte) (body : List Byte) :
    LimitsKept s (channelFlush tag body u) := by
  unfold Machine.channelFlush
  split
  · exact ((h.flushQueue _).evalChannel _).answer _ _ _ _
  · exact h.answer _ _ _ _

theorem LimitsKept.holdExpiry {s u : State} (h : LimitsKept s u) (c : ChannelId) : LimitsKept s (holdExpiry c u) := by
  unfold Machine.holdExpiry
  split
  · rename_i due _
    have there : LimitsKept s (u.advanceTo due) := h.frame rfl rfl rfl rfl
    exact (there.setChannel c _ (by rfl) (by rfl) fun hu => hu.sameSettings c (by rfl) (by rfl)).evalReady c
  · exact h

/-- COUNTERS_READ, which may clear the counters of a trunk, a station, a channel or the link (R159). -/
theorem LimitsKept.countersRead {s u : State} (h : LimitsKept s u) (tag : Byte) (body : List Byte) :
    LimitsKept s (countersRead tag body u) := by
  have cleared : ∀ m, LimitsKept s (u.clearCounters m) := fun m => by
    cases m with
    | trunk k => exact h.frame rfl rfl rfl rfl
    | station i st => exact h.frame rfl rfl rfl rfl
    | channel c => exact h.setChannel c _ rfl rfl fun hu => hu.sameSettings c rfl le_rfl
    | link => exact h.countLink fun _ => .zero
  unfold Machine.countersRead
  split
  · exact h.answer _ _ _ _
  · split
    · exact (cleared _).answer _ _ _ _
    · exact h.answer _ _ _ _

/-! ### Records and completions -/

theorem LimitsKept.admissionStep {s u : State} (h : LimitsKept s u) (k : TrunkId) :
    LimitsKept s (admissionStep k u) := by
  unfold Machine.admissionStep
  split
  · split
    · exact (h.takeAdmission _ _).trans ((Reports.refl _).afterAdmission k _ _ _ _ _).limitsKept
    · exact h
  · exact h

theorem messageSent_hostSound (m : Transmission) (s : State) : HostSound s (s.messageSent m) := by
  have free : LimitsKept s (s.setLink { s.link with tx := none }) :=
    ((Reports.refl s).setLink (by rfl) (by rfl) (by rfl)).limitsKept
  unfold State.messageSent State.completed
  split
  · split
    · exact .of_reset rfl rfl rfl rfl
    · exact free.sound.trans ⟨fun hs => hs.replySent _, id, id, id⟩
  · exact free.sound
  · exact (free.completeBatch _).sound

/-! ### Every step -/

/-- Every part of a step keeps the four invariants. -/
theorem hostSound_effects : Effects HostSound where
  refl s := (LimitsKept.refl s).sound
  trans _ _ _ h g := h.trans g
  elapse s dt _ := ((Reports.refl s).elapse dt).limitsKept.sound
  comeTo s now _ := ((Reports.refl s).comeTo now).limitsKept.sound
  finish s chained := ((LimitsKept.refl s).finish chained).sound
  drivePins s := ((Reports.refl s).frame (by rfl) (by rfl) (by rfl) (by rfl)).limitsKept.sound
  resetAssert _ := .of_reset rfl rfl rfl rfl
  resetRelease s a b := resetRelease_hostSound a b s
  holdAssert s begun := ((Reports.refl s).holdAssert begun).limitsKept.sound
  holdRelease s := ((Reports.refl s).frame (by rfl) (by rfl) (by rfl) (by rfl)).limitsKept.sound
  hcsHigh s := ((Reports.refl s).frame (by rfl) (by rfl) (by rfl) (by rfl)).limitsKept.sound
  exchange s mark _ := ((Reports.refl s).exchange mark).limitsKept.sound
  receive s _ _ := ((Reports.refl s).setLink (by rfl) (by rfl) (by rfl)).limitsKept.sound
  countLink s f _ := ((Reports.refl s).countLink f).limitsKept.sound
  refuse s kind tag status _ := by
    refine ⟨fun hs => hs.refuse kind tag status, ?_, ?_, ?_⟩
    · exact fun hs => hs.of_entries (by simp)
    · exact fun hs => hs.of_channels (by simp)
    · exact fun hs => hs.of_alike (.of_eq (by simp)) (by simp)
  linkOpen s tag body _ _ ht := .accepted ht (linkOpen_hostSound tag body _)
  partReset s tag _ ht := .accepted ht ((Reports.refl _).partReset tag).limitsKept.sound
  noticeMask s tag body _ _ ht := .accepted ht ((Reports.refl _).noticeMask tag body).limitsKept.sound
  countersRead s tag body _ _ ht := .accepted ht ((LimitsKept.refl _).countersRead tag body).sound
  ruleWrite s tag body _ _ ht := .accepted ht ((Reports.refl _).ruleWrite tag body).limitsKept.sound
  ruleErase s tag body _ _ ht := .accepted ht ((Reports.refl _).ruleErase tag body).limitsKept.sound
  setWrite s tag body _ _ ht := .accepted ht ((Reports.refl _).setWrite tag body).limitsKept.sound
  defaultWrite s tag body _ _ ht := .accepted ht ((Reports.refl _).defaultWrite tag body).limitsKept.sound
  stageLoad s tag _ _ ht := .accepted ht ((Reports.refl _).stageLoad tag).limitsKept.sound
  ruleCommit s tag body _ _ ht := .accepted ht ((Reports.refl _).ruleCommit tag body).limitsKept.sound
  ruleRead s tag body _ _ ht := .accepted ht ((Reports.refl _).ruleRead tag body).limitsKept.sound
  channelConfigEnable s tag body _ _ ht := .accepted ht ((LimitsKept.refl _).channelEnable tag body).sound
  channelConfigDisable s tag body _ _ ht := .accepted ht ((LimitsKept.refl _).channelDisable tag body).sound
  channelCredit s tag body _ _ ht := .accepted ht ((LimitsKept.refl _).channelCredit tag body).sound
  channelFlush s tag body _ _ ht := .accepted ht ((LimitsKept.refl _).channelFlush tag body).sound
  channelQuery s tag body _ _ ht := .accepted ht ((Reports.refl _).channelQuery tag body).limitsKept.sound
  stationAdd s tag body _ _ ht := .accepted ht ((Reports.refl _).stationAdd tag body).limitsKept.sound
  stationSet s tag body _ _ ht := .accepted ht ((Reports.refl _).stationSet tag body).limitsKept.sound
  stationQuery s tag body _ _ ht := .accepted ht ((Reports.refl _).stationQuery tag body).limitsKept.sound
  stationList s tag _ _ ht := .accepted ht ((Reports.refl _).stationList tag).limitsKept.sound
  stationSuspend s tag body _ _ ht := .accepted ht ((Reports.refl _).stationSuspend tag body).limitsKept.sound
  stationResume s tag body _ _ ht := .accepted ht ((Reports.refl _).stationResume tag body).limitsKept.sound
  stationRemove s tag body _ _ ht := .accepted ht ((Reports.refl _).stationRemove tag body).limitsKept.sound
  trunkConfig s tag body _ _ ht := .accepted ht ((Reports.refl _).trunkConfig tag body).limitsKept.sound
  trunkStart s tag body _ _ ht := .accepted ht ((Reports.refl _).trunkStart tag body).limitsKept.sound
  trunkStop s tag body _ _ ht := .accepted ht ((Reports.refl _).trunkStop tag body).limitsKept.sound
  trunkQuery s tag body _ _ ht := .accepted ht ((Reports.refl _).trunkQuery tag body).limitsKept.sound
  directiveSubmit s tag body _ _ ht := .accepted ht ((Reports.refl _).directiveSubmit tag body).limitsKept.sound
  directiveCancel s tag body _ _ ht := .accepted ht ((Reports.refl _).directiveCancel tag body).limitsKept.sound
  directiveQuery s tag body _ _ ht := .accepted ht ((Reports.refl _).directiveQuery tag body).limitsKept.sound
  linkClose s tag _ _ ht := .accepted ht (.setSession _ _)
  closeEnd s _ := closeEnd_hostSound s
  closeStopStep s _ := closeStopStep_hostSound s
  closeDirectiveStep s _ := closeDirectiveStep_hostSound s
  runTrunk s k w due _ _ _ := ((Reports.refl s).runTrunk k w due).limitsKept.sound
  failStart s k w _ _ _ := ((Reports.refl s).failStart k w).limitsKept.sound
  lineWentLow s k n _ := ((Reports.refl s).lineWentLow k n).limitsKept.sound
  roundStart s k _ := ((Reports.refl s).roundStart k).limitsKept.sound
  turnBegin s k _ := ((Reports.refl s).turnBegin k).limitsKept.sound
  echoTaken s k b fe _ := ((Reports.refl s).echoTaken k b fe).limitsKept.sound
  echoDeadline s k _ := ((Reports.refl s).echoDeadline k).limitsKept.sound
  replyStarted s k _ := ((Reports.refl s).replyStarted k).limitsKept.sound
  replyTimeout s k _ := ((Reports.refl s).replyTimeout k).limitsKept.sound
  replyTaken s k b fe _ := ((Reports.refl s).replyTaken k b fe).limitsKept.sound
  gapExpiry s k _ := ((Reports.refl s).gapExpiry k).limitsKept.sound
  strayTaken s k b fe _ := ((Reports.refl s).strayTaken k b fe).limitsKept.sound
  settleEnd s k _ := ((Reports.refl s).settleEnd k).limitsKept.sound
  sequenceCheck s k _ := ((Reports.refl s).sequenceCheck k).limitsKept.sound
  admissionStep s k _ := ((LimitsKept.refl s).admissionStep k).sound
  turnClose s k _ := ((Reports.refl s).turnClose k).limitsKept.sound
  holdExpiry s c _ := ((LimitsKept.refl s).holdExpiry c).sound
  clockedOut s _ := (Reports.refl s).clockedOut.limitsKept.sound
  messageSent s m _ := messageSent_hostSound m s

/-- A step keeps the four invariants. -/
theorem step_hostSound {s t : State} (h : step s = .next t) : HostSound s t :=
  hostSound_effects.step (fun _ _ => ⟨id, id, id, id⟩) h

/-- Settles O53, across the effects of every command. -/
theorem stepKeepsLimits : Obligations.StepKeepsLimits := by
  unfold Obligations.StepKeepsLimits
  intro s t h
  have sound := step_hostSound h
  exact ⟨sound.link, sound.notices, sound.credit⟩

end Sys2Proof.Machine
end

section
/-! The record of an occupied slot: no step but an ADMISSION's fills a slot, raises a count or alters a record (R28, R39,
R41). -/

-- One proof at a time: beside the rest of the text these would need more threads than the check's memory holds.
set_option Elab.async false

namespace Sys2Proof.Machine

/-! ### A store that only gives slots up -/

/-- Each occupied slot of the store `b` is occupied in `a`, with the same record and no fewer references. -/
def Store.Within (a b : Store) : Prop :=
  ∀ (i : SlotId) (y : Stored), b.slots[i] = some y →
    ∃ x, a.slots[i] = some x ∧ y.record = x.record ∧ y.refs ≤ x.refs

theorem Store.Within.refl (a : Store) : a.Within a := fun _ y hy => ⟨y, hy, rfl, le_rfl⟩

theorem Store.Within.trans {a b c : Store} (h : a.Within b) (g : b.Within c) : a.Within c := fun i z hz => by
  obtain ⟨y, hy, hrecord, hrefs⟩ := g i z hz
  obtain ⟨x, hx, hrecord', hrefs'⟩ := h i y hy
  exact ⟨x, hx, hrecord.trans hrecord', hrefs.trans hrefs'⟩

theorem Store.Within.of_eq {a b : Store} (h : b = a) : a.Within b := h ▸ .refl a

/-- The end of a reference (R41). -/
theorem Store.Within.release (a : Store) (i : SlotId) : a.Within (a.release i) := fun j y hy => by
  obtain ⟨-, hrelease⟩ | ⟨x, hx, hrelease⟩ := a.slots_release i <;> rw [hrelease] at hy
  · exact ⟨y, hy, rfl, le_rfl⟩
  · rw [get_setAt] at hy
    by_cases hij : i = j
    · subst hij
      rw [if_pos rfl] at hy
      split at hy
      · cases hy
      · cases hy
        exact ⟨x, hx, rfl, Nat.sub_le _ _⟩
    · rw [if_neg hij] at hy
      exact ⟨y, hy, rfl, le_rfl⟩

theorem Store.Within.releaseAll : ∀ (is : List SlotId) (a : Store), a.Within (a.releaseAll is)
  | [], a => .refl a
  | i :: is, a => (release a i).trans (releaseAll is (a.release i))

/-- The store of reset holds nothing (R30). -/
theorem Store.Within.reset (a : Store) : a.Within State.reset.store := fun i y hy => by
  have hnone : (State.reset.store.slots[i]) = none := by simp [State.reset, Store.reset]
  rw [hnone] at hy
  cases hy

/-! ### The events that end references -/

theorem State.flushChannel_within (s : State) (c : ChannelId) : s.store.Within (s.flushChannel c).store := by
  have hstore : (s.flushChannel c).store = s.store.releaseAll ((s.channels[c]).queue.map QueueEntry.slot) := by
    simp [State.flushChannel, State.flushQueue]
  exact hstore ▸ .releaseAll _ _

theorem channelEnable_within (tag : Byte) (body : List Byte) (s : State) :
    s.store.Within (channelEnable tag body s).store := by
  unfold channelEnable
  split
  · dsimp only
    split
    · exact .of_eq rfl
    · split <;> exact .of_eq rfl
  · exact .of_eq rfl

theorem channelDisable_within (tag : Byte) (body : List Byte) (s : State) :
    s.store.Within (channelDisable tag body s).store := by
  unfold channelDisable
  split
  · rename_i c _
    have hstore : ∀ x, ((((s.flushQueue c).setChannel c x).evalChannel c).answer 0x18#8 tag .ok
        [byteOf (s.channels[c]).queue.length]).store =
          s.store.releaseAll ((s.channels[c]).queue.map QueueEntry.slot) := fun x => by simp [State.flushQueue]
    exact (Store.Within.releaseAll _ _).trans (.of_eq (hstore _))
  · exact .of_eq rfl

theorem channelCredit_within (tag : Byte) (body : List Byte) (s : State) :
    s.store.Within (channelCredit tag body s).store := by
  unfold channelCredit
  split
  · dsimp only
    split
    · exact .of_eq rfl
    · split <;> exact .of_eq rfl
  · exact .of_eq rfl

theorem channelFlush_within (tag : Byte) (body : List Byte) (s : State) :
    s.store.Within (channelFlush tag body s).store := by
  unfold channelFlush
  split
  · rename_i c _
    have hstore : (((s.flushQueue c).evalChannel c).answer 0x1A#8 tag .ok
        [byteOf (s.channels[c]).queue.length]).store =
          s.store.releaseAll ((s.channels[c]).queue.map QueueEntry.slot) := by simp [State.flushQueue]
    exact (Store.Within.releaseAll _ _).trans (.of_eq hstore)
  · exact .of_eq rfl

/-- The flush of a close (R62). -/
theorem State.flushStep_within (s : State) : s.store.Within s.flushStep.store := by
  unfold State.flushStep
  exact foldl_preserves (P := fun u : State => s.store.Within u.store)
    (fun u c hu => hu.trans (u.flushChannel_within c)) (List.finRange 8) (.refl _)

theorem closeDirectiveStep_within (s : State) : s.store.Within (closeDirectiveStep s).store := by
  unfold closeDirectiveStep
  split
  · split
    · have flushed := State.flushStep_within (s.setDirectives [])
      dsimp only
      generalize (s.setDirectives []).flushStep = u at flushed ⊢
      exact flushed
    · exact .refl _
  · exact .refl _

theorem closeEnd_store (s : State) : (closeEnd s).store = s.store := by
  unfold closeEnd
  split
  · split <;> rfl
  · rfl

theorem closeStopStep_store (s : State) : (closeStopStep s).store = s.store := by
  unfold closeStopStep
  split
  · split
    · exact (Reports.foldl (fun _ k h => h.closeStopTrunk k) _ (.refl _)).store
    · rfl
  · rfl

theorem holdExpiry_within (c : ChannelId) (s : State) : s.store.Within (holdExpiry c s).store := by
  unfold holdExpiry
  split <;> exact .of_eq rfl

theorem State.messageSent_within (s : State) (m : Transmission) : s.store.Within (s.messageSent m).store := by
  unfold State.messageSent State.completed
  split
  · split
    · exact .reset _
    · exact .of_eq rfl
  · exact .of_eq rfl
  · exact .releaseAll _ _

theorem countersRead_within (tag : Byte) (body : List Byte) (s : State) :
    s.store.Within (countersRead tag body s).store := by
  have cleared : ∀ m, (s.clearCounters m).store = s.store := fun m => by cases m <;> rfl
  unfold countersRead
  split
  · exact .of_eq rfl
  · split
    · exact .of_eq (cleared _)
    · exact .of_eq rfl

/-! ### A host frame -/

theorem takeFrame_within {owner : State → State} (ho : ∀ u : State, u.store.Within (owner u).store) (kind tag : Byte)
    (body : List Byte) (s : State) : s.store.Within (takeFrame kind tag body owner s).store := by
  unfold takeFrame
  split
  · exact .of_eq rfl
  · split
    · exact .of_eq (by simp)
    · exact ho (s.enter kind tag)

theorem takeUnknownKind_within (kind tag : Byte) (body : List Byte) (s : State) :
    s.store.Within (takeUnknownKind kind tag body s).store := by
  unfold takeUnknownKind
  split
  · exact takeFrame_within (owner := id) (fun u => .refl u.store) kind tag body s
  · exact .refl _

theorem linkOpen_within (tag : Byte) (body : List Byte) (s : State) : s.store.Within (linkOpen tag body s).store := by
  unfold linkOpen
  split
  · exact .of_eq rfl
  · split <;> exact .of_eq rfl

/-- A good frame at acceptance (R136). -/
theorem deliver_within (kind tag : Byte) (body : List Byte) (s : State) :
    s.store.Within (deliver kind tag body s).store := by
  have owner : ∀ {owner : State → State} {kind tag : Byte} {body : List Byte}, (∀ u, Reports u (owner u)) →
      s.store.Within (takeFrame kind tag body owner s).store :=
    fun h => takeFrame_within (fun u => .of_eq (h u).store) _ _ _ s
  generalize hf : deliver kind tag body = f
  unfold deliver at hf
  split at hf
  · subst hf; exact takeFrame_within (linkOpen_within tag body) _ _ _ s
  · subst hf; exact takeFrame_within (owner := linkClose tag) (fun u => .of_eq rfl) _ _ _ s
  · subst hf; exact owner fun u => (Reports.refl u).partReset tag
  · subst hf; exact owner fun u => (Reports.refl u).noticeMask tag body
  · subst hf; exact takeFrame_within (countersRead_within tag body) _ _ _ s
  · subst hf; exact owner fun u => (Reports.refl u).ruleWrite tag body
  · subst hf; exact owner fun u => (Reports.refl u).ruleErase tag body
  · subst hf; exact owner fun u => (Reports.refl u).setWrite tag body
  · subst hf; exact owner fun u => (Reports.refl u).defaultWrite tag body
  · subst hf; exact owner fun u => (Reports.refl u).stageLoad tag
  · subst hf; exact owner fun u => (Reports.refl u).ruleCommit tag body
  · subst hf; exact owner fun u => (Reports.refl u).ruleRead tag body
  · split at hf <;> subst hf
    · exact takeFrame_within (channelDisable_within tag body) _ _ _ s
    · exact takeFrame_within (channelEnable_within tag body) _ _ _ s
  · subst hf; exact takeFrame_within (channelCredit_within tag body) _ _ _ s
  · subst hf; exact takeFrame_within (channelFlush_within tag body) _ _ _ s
  · subst hf; exact owner fun u => (Reports.refl u).channelQuery tag body
  · subst hf; exact owner fun u => (Reports.refl u).stationAdd tag body
  · subst hf; exact owner fun u => (Reports.refl u).stationSet tag body
  · subst hf; exact owner fun u => (Reports.refl u).stationQuery tag body
  · subst hf; exact owner fun u => (Reports.refl u).stationList tag
  · subst hf; exact owner fun u => (Reports.refl u).stationSuspend tag body
  · subst hf; exact owner fun u => (Reports.refl u).stationResume tag body
  · subst hf; exact owner fun u => (Reports.refl u).stationRemove tag body
  · subst hf; exact owner fun u => (Reports.refl u).trunkConfig tag body
  · subst hf; exact owner fun u => (Reports.refl u).trunkStart tag body
  · subst hf; exact owner fun u => (Reports.refl u).trunkStop tag body
  · subst hf; exact owner fun u => (Reports.refl u).trunkQuery tag body
  · subst hf; exact owner fun u => (Reports.refl u).directiveSubmit tag body
  · subst hf; exact owner fun u => (Reports.refl u).directiveCancel tag body
  · subst hf; exact owner fun u => (Reports.refl u).directiveQuery tag body
  · subst hf; exact takeUnknownKind_within kind tag body s

theorem State.receiverEvent_within (s : State) (e : ReceiverEvent) : s.store.Within (s.receiverEvent e).store := by
  unfold State.receiverEvent
  split
  · exact .refl _
  · exact .of_eq rfl
  · exact .of_eq rfl
  · unfold State.frameEnded
    split
    · exact .refl _
    · exact .of_eq rfl
    · exact .of_eq rfl
    · exact deliver_within _ _ _ s

/-! ### Every command but ADMISSION -/

theorem inboundByte_within (value : Byte) (mark : Bool) (s : State) :
    s.store.Within (inboundByte value mark s).store := by
  have exchanged : (s.exchange mark).store = s.store := ((Reports.refl s).exchange mark).store
  have received : ∀ r e, s.store.Within
      (((s.exchange mark).setLink { (s.exchange mark).link with receiver := r }).receiverEvent e).store := fun r e =>
    (Store.Within.of_eq exchanged).trans (State.receiverEvent_within _ e)
  unfold inboundByte
  dsimp only
  split
  · refine (received (s.link.receiver.take value (mark && s.mode.isUart)).1
      (s.link.receiver.take value (mark && s.mode.isUart)).2).trans ?_
    unfold State.txSent
    split
    · exact State.messageSent_within _ _
    · exact .refl _
  · exact received _ _

theorem messageCompletion_within (s : State) : s.store.Within (messageCompletion s).store := by
  unfold messageCompletion
  split
  · exact .refl _
  · split
    · exact .refl _
    · exact (Store.Within.of_eq (Reports.refl s).clockedOut.store).trans (State.messageSent_within _ _)

theorem perform_within {f : State → State} {s t : State} (hf : s.store.Within (f s).store)
    (h : perform f s = .next t) : s.store.Within t.store := by
  unfold perform at h
  cases h
  split
  · exact .refl _
  · exact hf.trans (.of_eq (by simp))

theorem performPin_within {f : State → State} {s t : State} (hf : s.store.Within (f s).store)
    (h : performPin f s = .next t) : s.store.Within t.store := by
  unfold performPin at h
  cases h
  split
  · exact hf.trans (.of_eq rfl)
  · exact hf.trans (.of_eq (by simp))

/-- Every command but an ADMISSION leaves the store within what it was. -/
theorem exec_within {i : Instr} {s t : State} (hi : ∀ k, i ≠ .admission k) (h : exec i s = .next t) :
    s.store.Within t.store := by
  have event : ∀ {f : State → State}, Reports s (f s) → perform f s = .next t → s.store.Within t.store :=
    fun hf => perform_within (.of_eq hf.store)
  have frame : ∀ (kind tag : Byte) (body : List Byte), perform (deliver kind tag body) s = .next t →
      s.store.Within t.store := fun kind tag body => perform_within (deliver_within kind tag body s)
  have self := Reports.refl s
  cases i with
  | admission k => exact absurd rfl (hi k)
  | resetAssert => exact performPin_within (.reset _) h
  | resetRelease a b =>
    refine performPin_within ?_ h
    unfold resetRelease
    split
    · exact .reset _
    · exact .refl _
  | holdRelease => exact performPin_within (.of_eq rfl) h
  | hcsHigh => exact performPin_within (.of_eq rfl) h
  | holdAssert n => exact performPin_within (.of_eq (self.holdAssert n).store) h
  | inboundByte dt value mark =>
    simp only [exec, execInboundByte] at h
    cases h
    split
    · exact .refl _
    · exact (inboundByte_within value mark (s.elapse dt)).trans (.of_eq (by simp))
  | messageCompletion dt =>
    simp only [exec, execMessageCompletion] at h
    cases h
    split
    · exact .refl _
    · exact (messageCompletion_within (s.elapse dt)).trans (.of_eq (by simp))
  | unknownKindFrame kind tag body => exact perform_within (takeUnknownKind_within kind tag body s) h
  | linkOpen tag body => exact frame 0x01#8 tag body h
  | linkClose tag body => exact frame 0x02#8 tag body h
  | partReset tag body => exact frame 0x03#8 tag body h
  | noticeMask tag body => exact frame 0x04#8 tag body h
  | countersRead tag body => exact frame 0x05#8 tag body h
  | ruleWrite tag body => exact frame 0x10#8 tag body h
  | ruleErase tag body => exact frame 0x11#8 tag body h
  | setWrite tag body => exact frame 0x12#8 tag body h
  | defaultWrite tag body => exact frame 0x13#8 tag body h
  | stageLoad tag body => exact frame 0x14#8 tag body h
  | ruleCommit tag body => exact frame 0x15#8 tag body h
  | ruleRead tag body => exact frame 0x16#8 tag body h
  | channelConfigEnable tag body =>
    exact perform_within (takeFrame_within (channelEnable_within tag body) _ _ _ s) h
  | channelConfigDisable tag body =>
    exact perform_within (takeFrame_within (channelDisable_within tag body) _ _ _ s) h
  | channelCredit tag body => exact frame 0x19#8 tag body h
  | channelFlush tag body => exact frame 0x1A#8 tag body h
  | channelQuery tag body => exact frame 0x1B#8 tag body h
  | stationAdd tag body => exact frame 0x20#8 tag body h
  | stationSet tag body => exact frame 0x21#8 tag body h
  | stationQuery tag body => exact frame 0x22#8 tag body h
  | stationList tag body => exact frame 0x23#8 tag body h
  | stationSuspend tag body => exact frame 0x24#8 tag body h
  | stationResume tag body => exact frame 0x25#8 tag body h
  | stationRemove tag body => exact frame 0x26#8 tag body h
  | trunkConfig tag body => exact frame 0x28#8 tag body h
  | trunkStart tag body => exact frame 0x29#8 tag body h
  | trunkStop tag body => exact frame 0x2A#8 tag body h
  | trunkQuery tag body => exact frame 0x2B#8 tag body h
  | directiveSubmit tag body => exact frame 0x30#8 tag body h
  | directiveCancel tag body => exact frame 0x31#8 tag body h
  | directiveQuery tag body => exact frame 0x32#8 tag body h
  | closeEnd => exact perform_within (.of_eq (closeEnd_store s)) h
  | closeStopStep => exact perform_within (.of_eq (closeStopStep_store s)) h
  | closeDirectiveStep => exact perform_within (closeDirectiveStep_within s) h
  | idleComplete k => exact event (self.idleComplete k) h
  | startLimitExpiry k => exact event (self.startLimitExpiry k) h
  | lineLow k dt lowFor => exact event (self.lineLow k dt lowFor) h
  | roundStart k => exact event (self.roundStart k) h
  | turnBegin k => exact event (self.turnBegin k) h
  | echoCharacter k dt b fe => exact event (self.echoCharacter k dt b fe) h
  | echoDeadlineExpiry k => exact event (self.echoDeadline k) h
  | replyStart k dt => exact event (self.replyStart k dt) h
  | replyTimeout k => exact event (self.replyTimeout k) h
  | replyCharacter k dt b fe => exact event (self.replyCharacter k dt b fe) h
  | gapExpiry k => exact event (self.gapExpiry k) h
  | strayByte k dt b fe => exact event (self.strayByte k dt b fe) h
  | settleEnd k => exact event (self.settleEnd k) h
  | sequenceCheck k => exact event (self.sequenceCheck k) h
  | turnClose k => exact event (self.turnClose k) h
  | holdExpiry c => exact perform_within (holdExpiry_within c s) h

/-- What one release does to its slot, to F and to the other slots (R41). -/
theorem Store.release_frees (st : Store) (i : SlotId) : (st.slots[i] = none → st.release i = st)
    ∧ ∀ x, st.slots[i] = some x →
      (st.release i).slots[i] = (if x.refs ≤ 1 then none else some { record := x.record, refs := x.refs - 1 })
        ∧ (st.release i).free = (if x.refs ≤ 1 then st.free + 1 else st.free)
        ∧ ∀ j : SlotId, j ≠ i → (st.release i).slots[j] = st.slots[j] := by
  obtain ⟨hnone, hrelease⟩ | ⟨x, hx, hrelease⟩ := st.slots_release i
  · exact ⟨fun _ => hrelease, fun x hx => by rw [hnone] at hx; cases hx⟩
  · refine ⟨fun hnone => (by rw [hnone] at hx; cases hx), fun y hy => ?_⟩
    obtain rfl : x = y := Option.some.inj (hx.symm.trans hy)
    rw [hrelease]
    exact ⟨by rw [get_setAt, if_pos rfl], rfl, fun j hj => by rw [get_setAt, if_neg (Ne.symm hj)]⟩

/-- Settles O56: the counts by the effects of every command, the records by the commands one by one. -/
theorem stepKeepsStoreSound : Obligations.StepKeepsStoreSound := by
  unfold Obligations.StepKeepsStoreSound
  refine ⟨fun s t hs h => (step_hostSound h).store hs, fun s t h hi => ?_, fun st i => ?_⟩
  · unfold step at h
    split at h
    · cases h
      unfold State.tick
      split <;> exact Store.Within.refl _
    · rename_i c rest hpending
      exact exec_within (s := { s with pending := rest }) (fun k hc => hi k rest (hc ▸ hpending)) h
  · obtain ⟨free, occupied⟩ := st.release_frees i
    exact ⟨free, occupied, rfl, fun _ => rfl⟩

end Sys2Proof.Machine
end

section
/-! The completion of a message at its owner (R57, R129, R134, R139). -/

-- One proof at a time: beside the rest of the text these would need more threads than the check's memory holds.
set_option Elab.async false

namespace Sys2Proof.Machine

section
variable {s : State} {m : Transmission}

/-- A message that completes is reported from the state that clocks out its closing delimiter. -/
theorem sentReport_of_finished (hr : s.inReset = false) (htx : s.link.tx = some m) (dt : Nat)
    (hdone : (s.elapse dt).unfinished m = false) :
    (s.elapse dt).clockedOut.SentReport m.what fun u => exec (.messageCompletion dt) s = .next (u.finish true) := by
  have hout : (s.elapse dt).clockedOut.link.tx = some m := by
    unfold State.clockedOut
    split <;> exact htx
  refine State.sentReport_of_txSent hout rfl ?_
  rw [exec_messageCompletion hr, messageCompletion_finished (s := s.elapse dt) htx hdone, htx]
  unfold State.txSent
  rw [hout]
  rfl

/-- Settles O17: by the mode of the link and by what is left to send. -/
theorem messageCompletionReportsToOwner : Obligations.MessageCompletionReportsToOwner := by
  intro s dt m hr htx elapsed
  have paused := (s.elapse dt).unfinished_iff m
  rw [State.elapse_mode, State.elapse_holdLow] at paused
  refine ⟨fun hmode hall => ?_, fun hmode hall => ?_, fun hmode hmore => ?_⟩
  · have hout : (s.elapse dt).clockedOut = elapsed := if_pos (LinkMode.isUart_eq_true hmode)
    rw [← hout]
    refine sentReport_of_finished hr htx dt (Bool.eq_false_iff.mpr fun h => ?_)
    obtain ⟨hhold, hleft⟩ := (if_neg hmode ▸ paused.mp h : _ ∧ _)
    obtain hhigh | hsent := hall
    · exact absurd hhold (by simp [hhigh])
    · exact absurd hsent (Nat.not_le.mpr hleft)
  · have hout : (s.elapse dt).clockedOut = { elapsed with hcsIsHigh := false, hostOut := .driving 0xA5#8 } :=
      if_neg (by simp [LinkMode.isUart_eq_false hmode])
    rw [← hout]
    refine sentReport_of_finished hr htx dt (Bool.eq_false_iff.mpr fun h => ?_)
    have hleft := paused.mp h
    rw [if_pos hmode] at hleft
    omega
  · rw [exec_messageCompletion hr, messageCompletion_unfinished (s := s.elapse dt) htx
      (paused.mpr (by rwa [if_pos hmode])), htx]
    rfl

end
end Sys2Proof.Machine
end

section
/-! CHANNEL_CONFIG that disables, and CHANNEL_FLUSH, in an OPEN session (R43, R47, R58, R60). -/

-- One proof at a time: beside the rest of the text these would need more threads than the check's memory holds.
set_option Elab.async false

namespace Sys2Proof.Machine

/-- A channel with an empty queue, after the evaluations that end the event (R49, R54, R58). -/
def Channel.atRest (x : Channel) : Channel :=
  { x with level := .normal, holdRunOut := false, holdDue := none, offered := false }

/-- Every queue entry of the channel has left and released its slot, the channel now stands as `y`, and a FILLING
level has drained with its notice (R43, R58). -/
def State.withdrawn (s : State) (c : ChannelId) (y : Channel) : State :=
  let u : State := { s with
    channels := setAt s.channels c y
    store := s.store.releaseAll ((s.channels[c]).queue.map QueueEntry.slot) }
  if (s.channels[c]).level = .filling then u.raise (.channelLevel c .normal 1) else u

theorem State.withdrawn_link (s : State) (c : ChannelId) (y : Channel) : (s.withdrawn c y).link = s.link := by
  unfold State.withdrawn
  dsimp only
  split
  · rw [State.raise_frame]
  · rfl

/-- Whether a notice is taken does not depend on the request table (R146). -/
theorem State.enter_raise (s : State) (kind tag : Byte) (n : Notice) :
    (s.enter kind tag).raise n = (s.raise n).enter kind tag := by
  rw [State.raise_frame, State.raise_frame s, State.raise_notices, State.raise_notices]
  rfl

theorem State.enter_withdrawn (s : State) (kind tag : Byte) (c : ChannelId) (y : Channel) :
    (s.enter kind tag).withdrawn c y = (s.withdrawn c y).enter kind tag := by
  have hread : (s.enter kind tag).channels[c] = s.channels[c] := rfl
  unfold State.withdrawn
  dsimp only
  rw [hread]
  split
  · exact State.enter_raise { s with
      channels := setAt s.channels c y
      store := s.store.releaseAll ((s.channels[c]).queue.map QueueEntry.slot) } kind tag _
  · rfl

/-- The evaluations of a channel with an empty queue, with the notice of a level that drains (R49, R58). -/
theorem State.evalChannel_empty (s : State) (c : ChannelId) {x : Channel} (hq : x.queue = []) (hh : 1 ≤ x.config.high) :
    (s.setChannel c x).evalChannel c =
      if x.level = .filling then (s.setChannel c x.atRest).raise (.channelLevel c .normal 1)
      else s.setChannel c x.atRest := by
  have hhold : x.evalHold s.timeBase = { x with holdRunOut := false, holdDue := none } := Channel.evalHold_nil _ hq
  have hlevel : ({ x with holdRunOut := false, holdDue := none } : Channel).markedLevel = .normal :=
    Channel.markedLevel_of_empty hq hh
  have hready : ({ x with holdRunOut := false, holdDue := none } : Channel).ready = false := Channel.ready_of_empty hq
  rw [State.evalChannel_eq, State.setChannel_get, State.setChannel_timeBase, hhold, hlevel, hready,
    State.setChannel_levelNotices, State.levelNotices, State.setChannel_raise]
  cases x.level <;> simp [State.setChannel, Channel.atRest]

/-- The removal of every queue entry, and the evaluations of the channel `x` it leaves (R43). -/
theorem State.flushQueue_evaluated (s : State) (c : ChannelId) {x : Channel} (hq : x.queue = [])
    (hlevel : x.level = (s.channels[c]).level) (hh : 1 ≤ x.config.high) :
    ((s.flushQueue c).setChannel c x).evalChannel c = s.withdrawn c x.atRest := by
  have hset : ∀ y, (s.flushQueue c).setChannel c y = { s with
      channels := setAt s.channels c y
      store := s.store.releaseAll ((s.channels[c]).queue.map QueueEntry.slot) } := fun y => by
    simp [State.flushQueue, State.setChannel]
  rw [State.evalChannel_empty (s.flushQueue c) c hq hh, hlevel, hset]
  rfl

theorem State.flushQueue_setChannel (s : State) (c : ChannelId) :
    (s.flushQueue c).setChannel c (s.channels[c]).emptied = s.flushQueue c := by
  simp [State.flushQueue, State.setChannel]

section
variable {s : State} {tag : Byte} (h : TakesRequest s tag) {c8 : Byte} {c : ChannelId} (hc : c8.toNat = c.1)
  (hh : 1 ≤ (s.channels[c]).config.high)
include h hc hh

theorem exec_channelConfigDisable {rest : List Byte} (hrest : rest.length = 8) :
    exec (.channelConfigDisable tag ([c8, 0#8] ++ rest)) s = .next (((s.withdrawn c
      ({ (s.channels[c]).emptied with credit := 0, enabled := false } : Channel).atRest).replied 0x18#8 tag .ok
        [byteOf (s.channels[c]).queue.length]).finish false) := by
  have hindex : index? 8 (byteAt ([c8, 0#8] ++ rest) 0) = some c := index?_eq hc
  have hread : ((s.enter 0x18#8 tag).flushQueue c).channels[c] = (s.channels[c]).emptied := by
    rw [State.flushQueue_get, if_pos rfl]
    rfl
  refine perform_answered _ (owner := channelDisable tag ([c8, 0#8] ++ rest)) h (s.withdrawn_link c _) rfl
    (by simp [hrest]) ?_
  rw [channelDisable, hindex]
  dsimp only
  rw [hread, State.flushQueue_evaluated (s.enter 0x18#8 tag) c (x := { (s.channels[c]).emptied with
    credit := 0, enabled := false }) rfl rfl hh, State.enter_withdrawn]
  rfl

theorem exec_channelFlush :
    exec (.channelFlush tag [c8]) s = .next (((s.withdrawn c (s.channels[c]).emptied.atRest).replied 0x1A#8 tag .ok
      [byteOf (s.channels[c]).queue.length]).finish false) := by
  have hindex : index? 8 (byteAt [c8] 0) = some c := index?_eq hc
  refine perform_answered _ (owner := channelFlush tag [c8]) h (s.withdrawn_link c _) rfl (by simp) ?_
  rw [channelFlush, hindex]
  dsimp only
  rw [← State.flushQueue_setChannel,
    State.flushQueue_evaluated (s.enter 0x1A#8 tag) c (x := ((s.enter 0x1A#8 tag).channels[c]).emptied) rfl rfl hh,
    State.enter_withdrawn]
  rfl

end

/-- Settles O27: the two requests remove the queue the same way, and differ in what they make of credit and flag. -/
theorem channelDisableAndFlush : Obligations.ChannelDisableAndFlush := by
  unfold Obligations.ChannelDisableAndFlush
  refine fun s tag c8 h => ⟨fun hbad => ⟨fun rest hrest => ?_, ?_⟩, fun c hc hh => ⟨fun rest hrest => ?_, ?_⟩⟩
  · refine perform_answered s (owner := channelDisable tag ([c8, 0#8] ++ rest)) h rfl rfl (by simp [hrest]) ?_
    have hindex : index? 8 (byteAt ([c8, 0#8] ++ rest) 0) = none := index?_none hbad
    rw [channelDisable, hindex]
  · refine perform_answered s (owner := channelFlush tag [c8]) h rfl rfl (by simp) ?_
    have hindex : index? 8 (byteAt [c8] 0) = none := index?_none hbad
    rw [channelFlush, hindex]
  · exact exec_channelConfigDisable h hc hh hrest
  · exact exec_channelFlush h hc hh

end Sys2Proof.Machine
end

section
/-! A closed session at rest: in a CLOSED session, and in the batch wait of a close, nothing runs and nothing but replies
is queued (R30, R140, R141). -/

-- One proof at a time: beside the rest of the text these would need more threads than the check's memory holds.
set_option Elab.async false

namespace Sys2Proof.Machine

/-! ### Sessions and states at rest -/

/-- The sessions in which the part is at rest: CLOSED, and a close that waits for its batches (R141). -/
def Session.rests (x : Session) : Prop := x = .closed ∨ ∃ tag, x = .closing .batches tag

/-- Nothing is queued at the channel, and it has no credit. -/
def Channel.Empty (x : Channel) : Prop := x.queue = [] ∧ x.credit = 0

/-- What a session at rest requires of the state (R30, R140, R141). -/
structure State.AtRest (s : State) : Prop where
  stopped : ∀ k : TrunkId, (s.trunks[k]).state = .stopped
  notices : s.notices.entries = []
  directives : s.directives.entries = []
  channels : ∀ c : ChannelId, (s.channels[c]).Empty
  batches : s.link.session = .closed → ∀ c : ChannelId, (s.channels[c]).inflight = []

theorem closedSound_iff (s : State) : ClosedSound s ↔ (s.link.session.rests → s.AtRest) :=
  ⟨fun h hrests => have ⟨stopped, notices, directives, channels, batches⟩ := h hrests
    ⟨stopped, notices, directives, channels, batches⟩,
    fun h hrests => have ⟨stopped, notices, directives, channels, batches⟩ := h hrests
    ⟨stopped, notices, directives, channels, batches⟩⟩

theorem Session.not_rests_of_opened {x : Session} (h : x = .opened) : ¬ x.rests := by
  rintro (hclosed | ⟨tag, hbatches⟩)
  · cases h.symm.trans hclosed
  · cases h.symm.trans hbatches

/-- A state that has what another at rest has, where a session at rest asks for it. -/
theorem State.AtRest.same {s t : State} (h : s.AtRest) (hsession : t.link.session = s.link.session)
    (htrunks : ∀ k : TrunkId, (t.trunks[k]).state = (s.trunks[k]).state)
    (hnotices : t.notices.entries = s.notices.entries) (hdirectives : t.directives.entries = s.directives.entries)
    (hchannels : ChannelsAlike s t) : t.AtRest where
  stopped k := (htrunks k).trans (h.stopped k)
  notices := hnotices.trans h.notices
  directives := hdirectives.trans h.directives
  channels c := ⟨(hchannels c).queue.trans (h.channels c).1, (hchannels c).credit.trans (h.channels c).2⟩
  batches hclosed c := (hchannels c).inflight.trans (h.batches (hsession ▸ hclosed) c)

/-! ### What an event does to a session at rest -/

/-- Between `s` and `t` a closed session stays at rest, the trunks being sound. -/
structure ClosedKept (s t : State) : Prop where
  trunks : TrunksSound s → TrunksSound t
  closed : TrunksSound s → ClosedSound s → ClosedSound t

namespace ClosedKept
variable {s t u : State}

theorem refl (s : State) : ClosedKept s s := ⟨id, fun _ => id⟩

theorem trans (h : ClosedKept s t) (g : ClosedKept t u) : ClosedKept s u :=
  ⟨fun hs => g.trunks (h.trunks hs), fun hs hc => g.closed (h.trunks hs) (h.closed hs hc)⟩

/-- A session that is not at rest asks for nothing. -/
theorem busy (hfield : FieldSound s t) (h : ¬ t.link.session.rests) : ClosedKept s t :=
  ⟨hfield.trunks, fun _ _ => (closedSound_iff t).mpr fun hrests => absurd hrests h⟩

/-- An event that leaves the session need be looked at in a session at rest only. -/
theorem inSession (hfield : FieldSound s t) (hsession : t.link.session = s.link.session)
    (h : TrunksSound s → s.AtRest → t.AtRest) : ClosedKept s t where
  trunks := hfield.trunks
  closed htrunks hclosed := (closedSound_iff t).mpr fun hrests =>
    h htrunks ((closedSound_iff s).mp hclosed (hsession ▸ hrests))

/-- An event that leaves the trunks, the queues and the channels. -/
theorem frame (hfield : FieldSound s t) (hsession : t.link.session = s.link.session) (htrunks : t.trunks = s.trunks)
    (hnotices : t.notices.entries = s.notices.entries) (hdirectives : t.directives = s.directives)
    (hchannels : ChannelsAlike s t) : ClosedKept s t :=
  inSession hfield hsession fun _ h => h.same hsession (fun k => by rw [htrunks]) hnotices (by rw [hdirectives]) hchannels

/-- A request is taken in an OPEN session (R136). -/
theorem request {kind tag : Byte} (hopen : s.link.session = .opened) (h : LinkKept (s.enter kind tag) t)
    (hfield : FieldSound s t) : ClosedKept s t :=
  busy hfield (Session.not_rests_of_opened (h.session.trans hopen))

/-- An event that does nothing at a trunk that is STOPPED, with no turn in flight and its sequencer idle. -/
theorem trunk (k : TrunkId) (hfield : FieldSound s t) (hkept : LinkKept s t)
    (hstill : (s.trunks[k]).state = .stopped → (s.trunks[k]).phase = .idle → (s.trunks[k]).turn = none → t = s) :
    ClosedKept s t :=
  inSession hfield hkept.session fun htrunks h => by
    have hstopped := h.stopped k
    obtain ⟨-, -, hidle, -, -⟩ := htrunks k
    obtain ⟨hphase, hturn⟩ := hidle (by rw [hstopped]; decide) (by rw [hstopped]; decide)
    exact hstill hstopped hphase hturn ▸ h

/-- The reset state is at rest (R30). -/
theorem of_reset (hsession : t.link.session = .closed) (htrunks : t.trunks = State.reset.trunks)
    (hnotices : t.notices = State.reset.notices) (hdirectives : t.directives = State.reset.directives)
    (hchannels : t.channels = State.reset.channels) (hroster : t.roster = State.reset.roster) : ClosedKept s t where
  trunks := (FieldSound.of_reset hroster htrunks).trunks
  closed _ _ := (closedSound_iff t).mpr fun _ =>
    ((closedSound_iff State.reset).mp closedSound_reset (.inl rfl)).same hsession (fun k => by rw [htrunks])
      (by rw [hnotices]) (by rw [hdirectives]) (.of_eq hchannels)

end ClosedKept

/-! ### The events of a trunk that is STOPPED -/

section
variable {s : State} {k : TrunkId}

theorem lineWentLow_stopped (h : (s.trunks[k]).state = .stopped) (n : Nat) : lineWentLow k n s = s := by
  unfold lineWentLow
  rw [h]

theorem roundStart_stopped (h : (s.trunks[k]).state = .stopped) : roundStart k s = s := by
  unfold roundStart
  rw [h]

theorem turnBegin_stopped (h : (s.trunks[k]).state = .stopped) : turnBegin k s = s := by
  unfold turnBegin
  rw [h]

theorem strayTaken_stopped (h : (s.trunks[k]).state = .stopped) (b : Byte) (fe : Bool) : strayTaken k b fe s = s := by
  have hdeaf : (s.trunks[k]).hearsStray = false := by
    unfold Trunk.hearsStray
    rw [h]
  exact if_neg (by rw [hdeaf]; decide)

section
variable (h : (s.trunks[k]).phase = .idle)
include h

theorem echoTaken_idle (b : Byte) (fe : Bool) : echoTaken k b fe s = s := by
  unfold echoTaken
  simp only [h]

theorem echoDeadline_idle : echoDeadline k s = s := by
  unfold echoDeadline
  simp only [h]

theorem replyStarted_idle : replyStarted k s = s := by
  unfold replyStarted
  rw [h]

theorem replyTimeout_idle : replyTimeout k s = s := by
  unfold replyTimeout
  rw [h]

theorem replyTaken_idle (b : Byte) (fe : Bool) : replyTaken k b fe s = s := by
  unfold replyTaken
  rw [h]

theorem gapExpiry_idle : gapExpiry k s = s := by
  unfold gapExpiry
  rw [h]

theorem settleEnd_idle : settleEnd k s = s := by
  unfold settleEnd
  rw [h]

end

section
variable (h : (s.trunks[k]).turn = none)
include h

theorem sequenceCheck_noTurn : sequenceCheck k s = s := by
  unfold sequenceCheck
  rw [h]

theorem admissionStep_noTurn : admissionStep k s = s := by
  unfold admissionStep
  rw [h]

theorem turnClose_noTurn : turnClose k s = s := by
  unfold turnClose
  rw [h]

end
end

/-! ### The session (R140, R141) -/

theorem linkOpen_closedKept (tag : Byte) (body : List Byte) (s : State) : ClosedKept s (linkOpen tag body s) := by
  have answered : ∀ status results, ClosedKept s (s.answer 0x01#8 tag status results) := fun status results =>
    .frame ((FieldKept.refl s).answer _ _ _ _).sound rfl rfl rfl rfl (.of_eq rfl)
  unfold linkOpen
  split
  · exact answered _ _
  · split
    · exact .busy (OffField.sound ⟨rfl, rfl⟩) (Session.not_rests_of_opened rfl)
    · exact answered _ _

theorem closeEnd_closedKept (s : State) : ClosedKept s (closeEnd s) := by
  unfold closeEnd
  split
  · rename_i tag hsession
    split
    · rename_i hnone
      refine ⟨(OffField.sound ⟨rfl, rfl⟩).trunks, fun _ hclosed => (closedSound_iff _).mpr fun _ => ?_⟩
      have h := (closedSound_iff s).mp hclosed (.inr ⟨tag, hsession⟩)
      exact ⟨h.stopped, h.notices, h.directives, h.channels, fun _ => s.noBatchInFlight_iff.mp hnone⟩
    · exact .refl s
  · exact .refl s

theorem closeStopStep_closedKept (s : State) : ClosedKept s (closeStopStep s) := by
  have hfield : FieldSound s (closeStopStep s) := (FieldKept.refl s).closeStopStep.sound
  have hsession : closeStopStep s = s ∨ ¬ (closeStopStep s).link.session.rests := by
    unfold closeStopStep
    split
    · split
      · rw [(Reports.foldl (fun _ k h => h.closeStopTrunk k) _ (.refl _)).session]
        rename_i tag _ _
        refine .inr ?_
        rintro (hclosed | ⟨_, hbatches⟩)
        · cases hclosed
        · cases hbatches
      · exact .inl rfl
    · exact .inl rfl
  obtain hsame | hbusy := hsession
  · exact hsame.symm ▸ .refl s
  · exact .busy hfield hbusy

/-- The flush of a close leaves the channel empty (R62). -/
theorem State.flushChannel_empty (s : State) (c : ChannelId) : ((s.flushChannel c).channels[c]).Empty := by
  have hread : ((s.flushQueue c).channels[c]).queue = [] := by
    rw [State.flushQueue_get, if_pos rfl]
    rfl
  have alike := ChannelsAlike.evalChannel
    ((s.flushQueue c).setChannel c { (s.flushQueue c).channels[c] with credit := 0 }) c c
  rw [State.setChannel_read, if_pos rfl] at alike
  exact ⟨alike.queue.trans hread, alike.credit⟩

/-- The flush of one channel leaves the others (R62). -/
theorem State.flushChannel_other (s : State) {c d : ChannelId} (h : c ≠ d) :
    (s.flushChannel c).channels[d] = s.channels[d] := by
  unfold State.flushChannel
  dsimp only
  rw [State.evalChannel_get, if_neg h, State.setChannel_read, if_neg h, State.flushQueue_get, if_neg h]

/-- What the flush of some channels leaves empty (R62). -/
theorem State.flushChannels_empty : ∀ (cs : List ChannelId) (s : State) (d : ChannelId),
    d ∈ cs ∨ (s.channels[d]).Empty → (((cs.foldl State.flushChannel s).channels[d]).Empty)
  | [], _, _, h => h.resolve_left List.not_mem_nil
  | c :: cs, s, d, h => by
    refine State.flushChannels_empty cs (s.flushChannel c) d ?_
    by_cases hcd : c = d
    · subst hcd
      exact .inr (s.flushChannel_empty c)
    · rw [s.flushChannel_other hcd]
      exact h.imp_left fun hd => (List.mem_cons.mp hd).resolve_left (Ne.symm hcd)

theorem State.flushStep_directives (s : State) : s.flushStep.directives = s.directives :=
  foldl_preserves (P := fun u : State => u.directives = s.directives)
    (fun u c hu => by simpa [State.flushChannel] using hu) _ rfl

theorem State.flushStep_trunks (s : State) : s.flushStep.trunks = s.trunks :=
  foldl_preserves (P := fun u : State => u.trunks = s.trunks)
    (fun u c hu => by simpa [State.flushChannel] using hu) _ rfl

theorem State.trunksStopped_iff (s : State) :
    s.trunksStopped = true ↔ ∀ k : TrunkId, (s.trunks[k]).state = .stopped := by
  simp only [State.trunksStopped, Vector.toList_eq_map_finRange, List.all_map, List.all_eq_true, List.mem_finRange,
    forall_const, Function.comp_apply, decide_eq_true_eq]

theorem closeDirectiveStep_closedKept (s : State) : ClosedKept s (closeDirectiveStep s) := by
  have hfield : FieldSound s (closeDirectiveStep s) := ((FieldKept.refl s).offField (closeDirectiveStep_offField s)).sound
  refine ⟨hfield.trunks, fun _ hclosed => ?_⟩
  unfold closeDirectiveStep
  split
  · split
    · rename_i tag _ hstopped
      have hempty : ∀ c : ChannelId, ((s.setDirectives []).flushStep.channels[c]).Empty := fun c =>
        State.flushChannels_empty (List.finRange 8) (s.setDirectives []) c (.inl (List.mem_finRange c))
      have hdirectives : (s.setDirectives []).flushStep.directives.entries = [] := by
        rw [State.flushStep_directives]
        rfl
      have htrunks : (s.setDirectives []).flushStep.trunks = s.trunks := State.flushStep_trunks _
      generalize (s.setDirectives []).flushStep = u at hempty hdirectives htrunks
      refine (closedSound_iff _).mpr fun _ => ⟨fun k => ?_, rfl, hdirectives, hempty, fun hc => by cases hc⟩
      have hsame : u.trunks[k] = s.trunks[k] := by rw [htrunks]
      exact (congrArg Trunk.state hsame).trans (s.trunksStopped_iff.mp hstopped k)
    · exact hclosed
  · exact hclosed

/-! ### Completions, and the end of a step -/

/-- A state at rest stays so when a channel is replaced by an empty one with no new batch. -/
theorem State.AtRest.setChannel {s : State} (h : s.AtRest) (c : ChannelId) {x : Channel} (hx : x.Empty)
    (hinflight : (s.channels[c]).inflight = [] → x.inflight = []) : (s.setChannel c x).AtRest where
  stopped := h.stopped
  notices := h.notices
  directives := h.directives
  channels d := by
    rw [State.setChannel_read]
    split
    · exact hx
    · exact h.channels d
  batches hclosed d := by
    rw [State.setChannel_read]
    split
    · exact hinflight (h.batches hclosed c)
    · exact h.batches hclosed d

theorem State.AtRest.evalReady {s : State} (h : s.AtRest) (c : ChannelId) : (s.evalReady c).AtRest :=
  h.setChannel c (h.channels c) id

/-- The completion of a batch: its channel has none in flight then (R57). -/
theorem State.AtRest.completeBatch {s : State} (h : s.AtRest) (c : ChannelId) : (s.completeBatch c).AtRest := by
  have done := h.setChannel c (x := { s.channels[c] with
    inflight := [], usage := (s.channels[c]).usage - (s.channels[c]).inflight.length
    counters := { (s.channels[c]).counters with
      sent := bump (s.channels[c]).counters.sent (s.channels[c]).inflight.length
      batches := bump (s.channels[c]).counters.batches 1 } }) (h.channels c) fun _ => rfl
  unfold State.completeBatch
  exact State.AtRest.evalReady (by exact ⟨done.stopped, done.notices, done.directives, done.channels, done.batches⟩) c

theorem messageSent_closedKept (m : Transmission) (s : State) : ClosedKept s (s.messageSent m) := by
  unfold State.messageSent State.completed
  split
  · split
    · exact .of_reset rfl rfl rfl rfl rfl rfl
    · exact .frame (OffField.sound ⟨rfl, rfl⟩) rfl rfl rfl rfl (.of_eq rfl)
  · exact .frame (OffField.sound ⟨rfl, rfl⟩) rfl rfl rfl rfl (.of_eq rfl)
  · refine .inSession (OffField.sound ⟨by simp, by simp⟩) (by simp) fun _ h => State.AtRest.completeBatch ?_ _
    exact ⟨h.stopped, h.notices, h.directives, h.channels, h.batches⟩

theorem holdExpiry_closedKept (c : ChannelId) (s : State) : ClosedKept s (holdExpiry c s) := by
  unfold holdExpiry
  split
  · rename_i due _
    refine .inSession (OffField.sound ⟨rfl, rfl⟩) rfl fun _ h => State.AtRest.evalReady ?_ c
    have there : (s.advanceTo due).AtRest := ⟨h.stopped, h.notices, h.directives, h.channels, h.batches⟩
    exact there.setChannel c (h.channels c) id
  · exact .refl s

/-- At rest the arbiter has no notice and no ready channel; what it picks is a reply (R138). -/
theorem State.AtRest.finish {s : State} (h : s.AtRest) (chained : Bool) : (s.finish chained).AtRest := by
  refine State.finish_preserves (P := State.AtRest) chained (fun u c hu => hu.setChannel c (hu.channels c) id)
    (fun u r hu => ⟨hu.stopped, hu.notices, hu.directives, hu.channels, hu.batches⟩) (fun u e rest hoffer hu => ?_)
    (fun u c hready hu => ?_) (fun u hu => ⟨hu.stopped, hu.notices, hu.directives, hu.channels, hu.batches⟩) h
  · rw [NoticeQueue.offer, hu.notices] at hoffer
    cases hoffer
  · rw [Channel.ready_of_empty (hu.channels c).1] at hready
    cases hready

/-! ### Every step -/

/-- Every part of a step keeps a closed session at rest. -/
theorem closedKept_effects : Effects ClosedKept where
  refl := .refl
  trans _ _ _ h g := h.trans g
  elapse s dt hr := .frame (fieldSound_effects.elapse s dt hr) rfl rfl rfl rfl (.of_eq rfl)
  comeTo s now hr := .frame (fieldSound_effects.comeTo s now hr) rfl rfl rfl rfl (.of_eq rfl)
  finish s chained := .inSession (fieldSound_effects.finish s chained) ((LimitsKept.refl s).finish chained).session
    fun _ h => h.finish chained
  drivePins s := .frame (fieldSound_effects.drivePins s) rfl rfl rfl rfl (.of_eq rfl)
  resetAssert _ := .of_reset rfl rfl rfl rfl rfl rfl
  resetRelease s a b := by
    unfold resetRelease
    split
    · exact .of_reset rfl rfl rfl rfl rfl rfl
    · exact .refl s
  holdAssert s begun := by
    unfold holdAssert
    split <;> exact .frame (OffField.sound ⟨rfl, rfl⟩) rfl rfl rfl rfl (.of_eq rfl)
  holdRelease s := .frame (fieldSound_effects.holdRelease s) rfl rfl rfl rfl (.of_eq rfl)
  hcsHigh s := .frame (fieldSound_effects.hcsHigh s) rfl rfl rfl rfl (.of_eq rfl)
  exchange s mark _ := by
    unfold State.exchange
    split
    · exact .refl s
    · split <;> exact .frame (OffField.sound ⟨rfl, rfl⟩) rfl rfl rfl rfl (.of_eq rfl)
  receive s r hr := .frame (fieldSound_effects.receive s r hr) rfl rfl rfl rfl (.of_eq rfl)
  countLink s f hr := .frame (fieldSound_effects.countLink s f hr) rfl rfl rfl rfl (.of_eq rfl)
  refuse s kind tag status hr := .frame (fieldSound_effects.refuse s kind tag status hr)
    (by unfold State.refuse; split <;> rfl) (by simp) (by simp) (by simp) (.of_eq (by simp))
  linkOpen s tag body _ _ _ := .trans
    (.frame (t := s.enter 0x01#8 tag) (OffField.sound ⟨rfl, rfl⟩) rfl rfl rfl rfl (.of_eq rfl))
    (linkOpen_closedKept tag body _)
  partReset s tag hr ht := .frame (fieldSound_effects.partReset s tag hr ht) rfl rfl rfl rfl (.of_eq rfl)
  noticeMask s tag body hr ho ht := .request ho ((Reports.refl _).noticeMask tag body).toLinkKept
    (fieldSound_effects.noticeMask s tag body hr ho ht)
  countersRead s tag body hr ho ht := .request ho ((LimitsKept.refl _).countersRead tag body).toLinkKept
    (fieldSound_effects.countersRead s tag body hr ho ht)
  ruleWrite s tag body hr ho ht := .request ho ((Reports.refl _).ruleWrite tag body).toLinkKept
    (fieldSound_effects.ruleWrite s tag body hr ho ht)
  ruleErase s tag body hr ho ht := .request ho ((Reports.refl _).ruleErase tag body).toLinkKept
    (fieldSound_effects.ruleErase s tag body hr ho ht)
  setWrite s tag body hr ho ht := .request ho ((Reports.refl _).setWrite tag body).toLinkKept
    (fieldSound_effects.setWrite s tag body hr ho ht)
  defaultWrite s tag body hr ho ht := .request ho ((Reports.refl _).defaultWrite tag body).toLinkKept
    (fieldSound_effects.defaultWrite s tag body hr ho ht)
  stageLoad s tag hr ho ht := .request ho ((Reports.refl _).stageLoad tag).toLinkKept
    (fieldSound_effects.stageLoad s tag hr ho ht)
  ruleCommit s tag body hr ho ht := .request ho ((Reports.refl _).ruleCommit tag body).toLinkKept
    (fieldSound_effects.ruleCommit s tag body hr ho ht)
  ruleRead s tag body hr ho ht := .request ho ((Reports.refl _).ruleRead tag body).toLinkKept
    (fieldSound_effects.ruleRead s tag body hr ho ht)
  channelConfigEnable s tag body hr ho ht := .request ho ((LimitsKept.refl _).channelEnable tag body).toLinkKept
    (fieldSound_effects.channelConfigEnable s tag body hr ho ht)
  channelConfigDisable s tag body hr ho ht := .request ho ((LimitsKept.refl _).channelDisable tag body).toLinkKept
    (fieldSound_effects.channelConfigDisable s tag body hr ho ht)
  channelCredit s tag body hr ho ht := .request ho ((LimitsKept.refl _).channelCredit tag body).toLinkKept
    (fieldSound_effects.channelCredit s tag body hr ho ht)
  channelFlush s tag body hr ho ht := .request ho ((LimitsKept.refl _).channelFlush tag body).toLinkKept
    (fieldSound_effects.channelFlush s tag body hr ho ht)
  channelQuery s tag body hr ho ht := .request ho ((Reports.refl _).channelQuery tag body).toLinkKept
    (fieldSound_effects.channelQuery s tag body hr ho ht)
  stationAdd s tag body hr ho ht := .request ho ((Reports.refl _).stationAdd tag body).toLinkKept
    (fieldSound_effects.stationAdd s tag body hr ho ht)
  stationSet s tag body hr ho ht := .request ho ((Reports.refl _).stationSet tag body).toLinkKept
    (fieldSound_effects.stationSet s tag body hr ho ht)
  stationQuery s tag body hr ho ht := .request ho ((Reports.refl _).stationQuery tag body).toLinkKept
    (fieldSound_effects.stationQuery s tag body hr ho ht)
  stationList s tag hr ho ht := .request ho ((Reports.refl _).stationList tag).toLinkKept
    (fieldSound_effects.stationList s tag hr ho ht)
  stationSuspend s tag body hr ho ht := .request ho ((Reports.refl _).stationSuspend tag body).toLinkKept
    (fieldSound_effects.stationSuspend s tag body hr ho ht)
  stationResume s tag body hr ho ht := .request ho ((Reports.refl _).stationResume tag body).toLinkKept
    (fieldSound_effects.stationResume s tag body hr ho ht)
  stationRemove s tag body hr ho ht := .request ho ((Reports.refl _).stationRemove tag body).toLinkKept
    (fieldSound_effects.stationRemove s tag body hr ho ht)
  trunkConfig s tag body hr ho ht := .request ho ((Reports.refl _).trunkConfig tag body).toLinkKept
    (fieldSound_effects.trunkConfig s tag body hr ho ht)
  trunkStart s tag body hr ho ht := .request ho ((Reports.refl _).trunkStart tag body).toLinkKept
    (fieldSound_effects.trunkStart s tag body hr ho ht)
  trunkStop s tag body hr ho ht := .request ho ((Reports.refl _).trunkStop tag body).toLinkKept
    (fieldSound_effects.trunkStop s tag body hr ho ht)
  trunkQuery s tag body hr ho ht := .request ho ((Reports.refl _).trunkQuery tag body).toLinkKept
    (fieldSound_effects.trunkQuery s tag body hr ho ht)
  directiveSubmit s tag body hr ho ht := .request ho ((Reports.refl _).directiveSubmit tag body).toLinkKept
    (fieldSound_effects.directiveSubmit s tag body hr ho ht)
  directiveCancel s tag body hr ho ht := .request ho ((Reports.refl _).directiveCancel tag body).toLinkKept
    (fieldSound_effects.directiveCancel s tag body hr ho ht)
  directiveQuery s tag body hr ho ht := .request ho ((Reports.refl _).directiveQuery tag body).toLinkKept
    (fieldSound_effects.directiveQuery s tag body hr ho ht)
  linkClose s tag hr ho ht := .busy (fieldSound_effects.linkClose s tag hr ho ht) <| by
    rintro (hclosed | ⟨_, hbatches⟩)
    · cases hclosed
    · cases hbatches
  closeEnd s _ := closeEnd_closedKept s
  closeStopStep s _ := closeStopStep_closedKept s
  closeDirectiveStep s _ := closeDirectiveStep_closedKept s
  runTrunk s k w due hr hk hw := .trunk k (fieldSound_effects.runTrunk s k w due hr hk hw)
    ((Reports.refl s).runTrunk k w due).toLinkKept fun h _ _ => nomatch hk.symm.trans h
  failStart s k w hr hk hw := .trunk k (fieldSound_effects.failStart s k w hr hk hw)
    ((Reports.refl s).failStart k w).toLinkKept fun h _ _ => nomatch hk.symm.trans h
  lineWentLow s k n hr := .trunk k (fieldSound_effects.lineWentLow s k n hr)
    ((Reports.refl s).lineWentLow k n).toLinkKept fun h _ _ => lineWentLow_stopped h n
  roundStart s k hr := .trunk k (fieldSound_effects.roundStart s k hr)
    ((Reports.refl s).roundStart k).toLinkKept fun h _ _ => roundStart_stopped h
  turnBegin s k hr := .trunk k (fieldSound_effects.turnBegin s k hr)
    ((Reports.refl s).turnBegin k).toLinkKept fun h _ _ => turnBegin_stopped h
  echoTaken s k b fe hr := .trunk k (fieldSound_effects.echoTaken s k b fe hr)
    ((Reports.refl s).echoTaken k b fe).toLinkKept fun _ h _ => echoTaken_idle h b fe
  echoDeadline s k hr := .trunk k (fieldSound_effects.echoDeadline s k hr)
    ((Reports.refl s).echoDeadline k).toLinkKept fun _ h _ => echoDeadline_idle h
  replyStarted s k hr := .trunk k (fieldSound_effects.replyStarted s k hr)
    ((Reports.refl s).replyStarted k).toLinkKept fun _ h _ => replyStarted_idle h
  replyTimeout s k hr := .trunk k (fieldSound_effects.replyTimeout s k hr)
    ((Reports.refl s).replyTimeout k).toLinkKept fun _ h _ => replyTimeout_idle h
  replyTaken s k b fe hr := .trunk k (fieldSound_effects.replyTaken s k b fe hr)
    ((Reports.refl s).replyTaken k b fe).toLinkKept fun _ h _ => replyTaken_idle h b fe
  gapExpiry s k hr := .trunk k (fieldSound_effects.gapExpiry s k hr)
    ((Reports.refl s).gapExpiry k).toLinkKept fun _ h _ => gapExpiry_idle h
  strayTaken s k b fe hr := .trunk k (fieldSound_effects.strayTaken s k b fe hr)
    ((Reports.refl s).strayTaken k b fe).toLinkKept fun h _ _ => strayTaken_stopped h b fe
  settleEnd s k hr := .trunk k (fieldSound_effects.settleEnd s k hr)
    ((Reports.refl s).settleEnd k).toLinkKept fun _ h _ => settleEnd_idle h
  sequenceCheck s k hr := .trunk k (fieldSound_effects.sequenceCheck s k hr)
    ((Reports.refl s).sequenceCheck k).toLinkKept fun _ _ h => sequenceCheck_noTurn h
  admissionStep s k hr := .trunk k (fieldSound_effects.admissionStep s k hr)
    ((LimitsKept.refl s).admissionStep k).toLinkKept fun _ _ h => admissionStep_noTurn h
  turnClose s k hr := .trunk k (fieldSound_effects.turnClose s k hr)
    ((Reports.refl s).turnClose k).toLinkKept fun _ _ h => turnClose_noTurn h
  holdExpiry s c _ := holdExpiry_closedKept c s
  clockedOut s _ := by
    unfold State.clockedOut
    split <;> exact .frame (OffField.sound ⟨rfl, rfl⟩) rfl rfl rfl rfl (.of_eq rfl)
  messageSent s m _ := messageSent_closedKept m s

/-- Settles O60, across the effects of every command. -/
theorem stepKeepsClosedSound : Obligations.StepKeepsClosedSound := by
  unfold Obligations.StepKeepsClosedSound
  intro s t htrunks hclosed hstep
  have kept := closedKept_effects.step
    (fun _ _ => .frame (OffField.sound ⟨rfl, rfl⟩) rfl rfl rfl rfl (.of_eq rfl)) hstep
  exact kept.closed htrunks hclosed

end Sys2Proof.Machine
end

section
/-! An admission step by step: what each of its parts makes of the set, the losses and the channels (R34 to R40, R49). -/

-- One proof at a time: beside the rest of the text these would need more threads than the check's memory holds.
set_option Elab.async false

namespace Sys2Proof.Machine

/-! ### An admission under way -/

/-- What an admission finds of channel `c`: its queue is full, and this is its policy (R37). -/
def State.fullAs (s : State) (p : Policy) (c : ChannelId) : Bool :=
  (s.channels[c]).full && decide ((s.channels[c]).config.policy = p)

/-- The channels of the set that are ENABLED (R35). -/
def State.enabledOf (s : State) (channels : List ChannelId) : List ChannelId :=
  channels.filter fun c => (s.channels[c]).enabled

/-- The loss on channel `c` when `strikes` have been struck for a full queue, `es` have given up an entry, and the record
has found no slot for `unplaced` (R35, R37, R38). -/
def State.lossOn (s : State) (strikes es unplaced : List ChannelId) (c : ChannelId) : Loss :=
  { disabled := if (s.channels[c]).enabled then 0 else 1, keepOld := strikes.count c, keepNew := es.count c
    noSlot := if c ∈ unplaced then 1 else 0 }

/-- The losses of a delivery set, one for each channel in its order. -/
def tally (channels : List ChannelId) (L : ChannelId → Loss) : List (ChannelId × Loss) := channels.map fun c => (c, L c)

/-- The admission that has struck `strikes` from its set and evicted from `es`, in their order. -/
def State.underway (s : State) (channels strikes es : List ChannelId) : Admission :=
  { state := es.foldl State.evictHead s
    kept := (s.enabledOf channels).filter fun c => c ∉ strikes
    losses := tally channels (s.lossOn strikes es []) }

theorem countLoss_tally (channels : List ChannelId) (L : ChannelId → Loss) (c : ChannelId) (f : Loss → Loss) :
    countLoss (tally channels L) c f = tally channels fun d => if d = c then f (L d) else L d := by
  unfold countLoss tally
  rw [List.map_map]
  refine List.map_congr_left fun d _ => ?_
  dsimp only [Function.comp_apply]
  split <;> rfl

section
variable (s : State) (channels strikes es : List ChannelId)

theorem State.beginAdmission_eq : s.beginAdmission channels = s.underway channels [] [] := by
  have hlosses : ∀ c, (if (s.channels[c]).enabled then Loss.zero else { Loss.zero with disabled := 1 }) =
      s.lossOn [] [] [] c := fun c => by
    unfold State.lossOn
    split <;> rfl
  simp only [State.beginAdmission, State.underway, tally, State.enabledOf, hlosses, List.foldl_nil, List.not_mem_nil,
    not_false_eq_true, decide_true, List.filter_true]

/-- An eviction under way (R37). -/
theorem State.underway_evict (c : ChannelId) :
    (s.underway channels strikes es).evict c = s.underway channels strikes (es ++ [c]) := by
  have hloss : ∀ d, (if d = c then { s.lossOn strikes es [] d with keepNew := (s.lossOn strikes es [] d).keepNew + 1 }
      else s.lossOn strikes es [] d) = s.lossOn strikes (es ++ [c]) [] d := fun d => by
    unfold State.lossOn
    rw [List.count_append, List.count_singleton]
    by_cases h : d = c
    · subst h; simp
    · simp [h, Ne.symm h]
  unfold Admission.evict State.underway
  simp only [countLoss_tally, hloss, List.foldl_append, List.foldl_cons, List.foldl_nil]

/-- A channel struck from the set for its full queue (R37). -/
theorem State.underway_strike (hnodup : channels.Nodup) (c : ChannelId) :
    ({ s.underway channels strikes es with
      kept := (s.underway channels strikes es).kept.erase c
      losses := countLoss (s.underway channels strikes es).losses c fun l => { l with keepOld := l.keepOld + 1 } } :
        Admission) = s.underway channels (strikes ++ [c]) es := by
  have hloss : ∀ d, (if d = c then { s.lossOn strikes es [] d with keepOld := (s.lossOn strikes es [] d).keepOld + 1 }
      else s.lossOn strikes es [] d) = s.lossOn (strikes ++ [c]) es [] d := fun d => by
    unfold State.lossOn
    rw [List.count_append, List.count_singleton]
    by_cases h : d = c
    · subst h; simp
    · simp [h, Ne.symm h]
  have henabled : (s.enabledOf channels).Nodup := hnodup.filter _
  have hkept : ((s.enabledOf channels).filter fun d => d ∉ strikes).erase c =
      (s.enabledOf channels).filter fun d => d ∉ strikes ++ [c] := by
    rw [(henabled.filter _).erase_eq_filter, List.filter_filter]
    refine List.filter_congr fun d _ => ?_
    by_cases h : d = c <;> simp [h]
  unfold State.underway
  simp only [countLoss_tally, hloss, hkept]

end

/-! ### Evictions (R37, R38) -/

/-- An eviction leaves every other channel. -/
theorem State.evicted_other {c : ChannelId} : ∀ {es : List ChannelId} {s : State}, c ∉ es →
    (es.foldl State.evictHead s).channels[c] = s.channels[c]
  | [], _, _ => rfl
  | e :: es, s, h => by
    obtain ⟨hce, hces⟩ := not_or.mp (mt List.mem_cons.mpr h)
    refine (State.evicted_other (es := es) hces).trans ?_
    rw [s.evictHead_get, if_neg fun he => hce he.1.symm]

/-- Evictions write the queue of a channel, its usage and its hold flag only. -/
theorem State.evicted_fields (c : ChannelId) : ∀ (es : List ChannelId) (s : State),
    ∃ q n b d, (es.foldl State.evictHead s).channels[c] =
      { s.channels[c] with queue := q, usage := n, holdRunOut := b, holdDue := d }
  | [], s => ⟨_, _, _, _, rfl⟩
  | e :: es, s => by
    obtain ⟨q, n, b, d, h⟩ := State.evicted_fields c es (s.evictHead e)
    rw [s.evictHead_get] at h
    split at h
    · rename_i he
      obtain ⟨rfl, -⟩ := he
      exact ⟨q, n, b, d, h⟩
    · exact ⟨q, n, b, d, h⟩

section
variable {s : State} {channels : List ChannelId}

/-- The full-queue step under way: the full KEEP_OLD channels are struck, and the full KEEP_NEW ones give up an entry
(R37). -/
theorem State.underway_fullQueues (hnodup : channels.Nodup) : ∀ (cs : List ChannelId) (strikes es : List ChannelId),
    cs.Nodup → (∀ c ∈ cs, c ∉ es) → (∀ c ∈ cs, s.fullAs .defer c = false) →
    Admission.fullQueues cs (s.underway channels strikes es) =
      s.underway channels (strikes ++ cs.filter (s.fullAs .keepOld)) (es ++ cs.filter (s.fullAs .keepNew))
  | [], strikes, es, _, _, _ => by simp [Admission.fullQueues]
  | c :: cs, strikes, es, hcs, hes, hdefer => by
    obtain ⟨hc, hcs⟩ := List.nodup_cons.mp hcs
    obtain ⟨hce, hes⟩ := List.forall_mem_cons.mp hes
    obtain ⟨hcd, hdefer⟩ := List.forall_mem_cons.mp hdefer
    have hread : (s.underway channels strikes es).state.channels[c] = s.channels[c] := State.evicted_other hce
    have hlater : ∀ d ∈ cs, d ∉ es ++ [c] := fun d hd => by
      rw [List.mem_append, List.mem_singleton]
      exact not_or.mpr ⟨hes d hd, ne_of_mem_of_not_mem hd hc⟩
    unfold Admission.fullQueues
    rw [hread]
    split
    · rename_i hfull
      have hpolicy : ∀ p, s.fullAs p c = decide ((s.channels[c]).config.policy = p) := fun p => by
        rw [State.fullAs, hfull, Bool.true_and]
      split
      · rename_i hp
        rw [State.underway_strike s channels strikes es hnodup c,
          State.underway_fullQueues hnodup cs _ _ hcs hes hdefer]
        have hold : s.fullAs .keepOld c = true := by rw [hpolicy, hp]; rfl
        have hnew : s.fullAs .keepNew c = false := by rw [hpolicy, hp]; rfl
        simp [hold, hnew]
      · rename_i hp
        rw [State.underway_evict, State.underway_fullQueues hnodup cs _ _ hcs hlater hdefer]
        have hold : s.fullAs .keepOld c = false := by rw [hpolicy, hp]; rfl
        have hnew : s.fullAs .keepNew c = true := by rw [hpolicy, hp]; rfl
        simp [hold, hnew]
      · rename_i hp
        rw [hpolicy, hp] at hcd
        cases hcd
    · rename_i hroom
      have hnot : ∀ p, s.fullAs p c = false := fun p => by
        rw [State.fullAs, Bool.eq_false_iff.mpr hroom, Bool.false_and]
      rw [State.underway_fullQueues hnodup cs _ _ hcs hes hdefer]
      simp [hnot]

/-- An eviction takes one of the entries that the set can give up. -/
theorem Admission.evict_entries {a : Admission} {c : ChannelId} (hc : c ∈ a.kept)
    (hq : (a.state.channels[c]).queue ≠ []) : (a.evict c).entries < a.entries := by
  have hlength : ∀ d : ChannelId, ((a.evict c).state.channels[d]).queue.length =
      if c = d then (a.state.channels[c]).queue.length - 1 else (a.state.channels[d]).queue.length := fun d => by
    rw [a.evict_get]
    by_cases hd : c = d
    · rw [if_pos ⟨hd, hq⟩, if_pos hd]
      exact List.length_tail
    · rw [if_neg fun h => hd h.1, if_neg hd]
  have hpos := List.length_pos_iff.mpr hq
  refine List.sum_lt_sum _ _ (fun d _ => ?_) ⟨c, hc, ?_⟩
  · rw [hlength]
    split
    · rename_i hd
      subst hd
      exact Nat.sub_le _ _
    · exact le_rfl
  · rw [hlength, if_pos rfl]
    omega

/-- The victim of an eviction is a channel of the set with an entry (R38). -/
theorem Admission.victim_spec {a : Admission} {c : ChannelId} (h : a.victim = some c) :
    c ∈ a.kept ∧ (a.state.channels[c]).queue ≠ [] := by
  have hp := List.find?_some h
  simp only [Bool.and_eq_true, Bool.not_eq_true', List.isEmpty_eq_false_iff] at hp
  exact ⟨List.mem_of_find?_eq_some h, hp.2⟩

/-- The evictions for a slot under way: one victim after the other, while no slot is obtainable, until one is or nothing
is left to evict (R38). -/
theorem State.underway_makeRoom {strikes : List ChannelId} : ∀ (more es : List ChannelId) (fuel : Nat),
    (∀ pre c post, more = pre ++ c :: post →
      ¬ (s.underway channels strikes (es ++ pre)).state.obtainable (s.underway channels strikes []).kept = true
        ∧ (s.underway channels strikes (es ++ pre)).victim = some c) →
    ((s.underway channels strikes (es ++ more)).state.obtainable (s.underway channels strikes []).kept = true
      ∨ (s.underway channels strikes (es ++ more)).victim = none) →
    (s.underway channels strikes es).entries ≤ fuel →
    Admission.makeRoom fuel (s.underway channels strikes es) = s.underway channels strikes (es ++ more)
  | [], es, fuel, _, hend, _ => by
    rw [List.append_nil] at hend ⊢
    cases fuel with
    | zero => rfl
    | succ fuel =>
      unfold Admission.makeRoom
      split
      · rfl
      · rename_i hslot
        rw [hend.resolve_left hslot]
  | c :: more, es, fuel, hmore, hend, hfuel => by
    obtain ⟨hslot, hvictim⟩ := hmore [] c more rfl
    rw [List.append_nil] at hslot hvictim
    have hless := Admission.evict_entries (Admission.victim_spec hvictim).1 (Admission.victim_spec hvictim).2
    rw [State.underway_evict] at hless
    cases fuel with
    | zero => exact absurd hfuel (by omega)
    | succ fuel =>
      have happend : ∀ rest, es ++ [c] ++ rest = es ++ c :: rest := fun rest => by simp
      unfold Admission.makeRoom
      rw [if_neg (by exact hslot), hvictim]
      dsimp only
      rw [State.underway_evict, ← happend more]
      refine State.underway_makeRoom (strikes := strikes) more (es ++ [c]) fuel (fun pre d post hd => ?_) ?_ (by omega)
      · rw [happend]
        exact hmore (c :: pre) d post (by rw [hd, List.cons_append])
      · rw [happend]
        exact hend

end

/-! ### The evaluations that end an admission (R49, R52, R58) -/

/-- A channel after the three evaluations (R49). -/
def Channel.evaluated (x : Channel) (now : Time) : Channel :=
  let y := x.evalHold now
  { y with level := y.markedLevel, offered := y.ready }

section
variable (x : Channel) (now : Time)

theorem Channel.evaluated_fields : ∃ b d, x.evaluated now =
    let y : Channel := { x with holdRunOut := b, holdDue := d }
    { y with level := x.config.levelAt x.level x.queue.length, offered := y.ready } := by
  obtain ⟨b, d, h⟩ := x.evalHold_fields now
  refine ⟨b, d, ?_⟩
  rw [Channel.evaluated, h, Channel.markedLevel_eq]

/-- The hold flag and the armed expiry after the evaluation, whatever they were before (R52). -/
theorem Channel.evaluated_hold : (x.evaluated now).HoldEvaluated x.holdRunOut now := by
  obtain ⟨b, d, hx⟩ := x.evalHold_fields now
  have hqueue : (x.evaluated now).queue = x.queue := by rw [Channel.evaluated, hx]
  have hhold : (x.evaluated now).config.hold = x.config.hold := by rw [Channel.evaluated, hx]
  have hflag : (x.evaluated now).holdRunOut = (x.evalHold now).holdRunOut := rfl
  have hdue : (x.evaluated now).holdDue = (x.evalHold now).holdDue := rfl
  unfold Channel.HoldEvaluated
  rw [hqueue, hhold, hflag, hdue]
  refine ⟨fun hq => ?_, fun e rest hq => ⟨fun hout => ?_, fun hran hwait => ?_⟩⟩
  · rw [Channel.evalHold_nil now hq]
    exact ⟨rfl, rfl⟩
  · rw [Channel.evalHold_cons now hq, if_pos hout]
    exact ⟨rfl, rfl⟩
  · rw [Channel.evalHold_cons now hq, if_neg (by rw [hran]; simpa using hwait)]
    exact ⟨rfl, rfl⟩

end

/-! ### The reports and evaluations of an admission, over its set (R40, R49, R174) -/

/-- Two states in which the same notice is taken the same way (R146). -/
structure State.HearsAs (s t : State) : Prop where
  session : t.link.session = s.link.session
  timeBase : t.timeBase = s.timeBase
  notices : t.notices = s.notices

namespace State.HearsAs
variable {s t u v : State}

theorem trans (h : s.HearsAs t) (g : t.HearsAs u) : s.HearsAs u :=
  ⟨g.session.trans h.session, g.timeBase.trans h.timeBase, g.notices.trans h.notices⟩

theorem raise (h : u.HearsAs v) (n : Notice) : (u.raise n).HearsAs (v.raise n) := by
  refine ⟨by simpa using h.session, by simpa using h.timeBase, ?_⟩
  rw [State.raise_notices, State.raise_notices, h.session, h.timeBase, h.notices]

end State.HearsAs

/-- The counters of a channel after a loss that counts something, or none (R40). -/
def ChannelCounters.after (n : ChannelCounters) (l : Loss) : ChannelCounters := if l = Loss.zero then n else n.addLoss l

/-- The loss report of one channel, where there is something to report (R40). -/
theorem State.reportLoss_eq (s : State) (c : ChannelId) (l : Loss) : s.reportLoss (c, l) =
    if l = Loss.zero then s else (s.setChannel c { s.channels[c] with
      counters := (s.channels[c]).counters.after l }).raise (.channelLoss c l) := by
  unfold State.reportLoss Loss.any ChannelCounters.after
  by_cases h : l = Loss.zero
  · rw [if_pos h, if_neg (by simp [h])]
  · rw [if_neg h, if_neg h, if_pos (by simp [h])]

section
variable (L : ChannelId → Loss)

theorem State.reportLoss_counters (s : State) (c d : ChannelId) : (s.reportLoss (c, L c)).channels[d] =
    if c = d then { s.channels[d] with counters := (s.channels[d]).counters.after (L d) } else s.channels[d] := by
  rw [State.reportLoss_eq]
  by_cases hcd : c = d
  · subst hcd
    rw [if_pos rfl]
    split
    · rename_i hzero
      have hsame : (s.channels[c]).counters.after (L c) = (s.channels[c]).counters := if_pos hzero
      rw [hsame]
    · rw [State.setChannel_raise]
      exact (s.setChannel_read c c _).trans (if_pos rfl)
  · rw [if_neg hcd]
    split
    · rfl
    · rw [State.setChannel_raise]
      exact (s.setChannel_read c d _).trans (if_neg hcd)

/-- What the loss reports of a set leave of each channel (R40). -/
theorem State.reportTally_get (d : ChannelId) : ∀ (channels : List ChannelId) (s : State), channels.Nodup →
    ((tally channels L).foldl State.reportLoss s).channels[d] =
      if d ∈ channels then { s.channels[d] with counters := (s.channels[d]).counters.after (L d) } else s.channels[d]
  | [], _, _ => rfl
  | c :: channels, s, hnodup => by
    obtain ⟨hc, hnodup⟩ := List.nodup_cons.mp hnodup
    refine (State.reportTally_get d channels (s.reportLoss (c, L c)) hnodup).trans ?_
    rw [State.reportLoss_counters]
    by_cases hcd : c = d
    · subst hcd
      rw [if_neg hc, if_pos rfl, if_pos List.mem_cons_self]
    · rw [if_neg hcd]
      exact if_congr ⟨List.mem_cons_of_mem c, fun h => (List.mem_cons.mp h).resolve_left (Ne.symm hcd)⟩ rfl rfl

/-- The CHANNEL_LOSS notices of a set, in its order (R40). -/
theorem State.reportTally_hears : ∀ (channels : List ChannelId) {u v : State}, v.HearsAs u →
    State.HearsAs (channels.foldl (fun v c => if L c = Loss.zero then v else v.raise (.channelLoss c (L c))) v)
      ((tally channels L).foldl State.reportLoss u)
  | [], _, _, h => h
  | c :: channels, u, v, h => by
    refine State.reportTally_hears channels (u := u.reportLoss (c, L c)) ?_
    rw [State.reportLoss_eq]
    dsimp only
    by_cases hzero : L c = Loss.zero
    · rw [if_pos hzero, if_pos hzero]
      exact h
    · rw [if_neg hzero, if_neg hzero]
      exact State.HearsAs.raise (by exact h.trans ⟨rfl, rfl, rfl⟩) _

end

/-- What the evaluations leave of each channel (R49). -/
theorem State.evalChannels_get (d : ChannelId) : ∀ (cs : List ChannelId) (s : State), cs.Nodup →
    (cs.foldl State.evalChannel s).channels[d] =
      if d ∈ cs then (s.channels[d]).evaluated s.timeBase else s.channels[d]
  | [], _, _ => rfl
  | c :: cs, s, hnodup => by
    obtain ⟨hc, hnodup⟩ := List.nodup_cons.mp hnodup
    refine (State.evalChannels_get d cs (s.evalChannel c) hnodup).trans ?_
    have htime : (s.evalChannel c).timeBase = s.timeBase := by simp
    rw [htime, State.evalChannel_get]
    by_cases hcd : c = d
    · subst hcd
      rw [if_neg hc, if_pos rfl, if_pos List.mem_cons_self]
      rfl
    · rw [if_neg hcd]
      exact if_congr ⟨List.mem_cons_of_mem c, fun h => (List.mem_cons.mp h).resolve_left (Ne.symm hcd)⟩ rfl rfl

/-- The CHANNEL_LEVEL notices of the evaluations, for channels that were at level `was` and come to level `now`
(R58, R59). -/
theorem State.evalChannels_hears {was now : ChannelId → Level} : ∀ (cs : List ChannelId) {u v : State}, cs.Nodup →
    v.HearsAs u → (∀ c ∈ cs, (u.channels[c]).level = was c
      ∧ (u.channels[c]).config.levelAt (was c) (u.channels[c]).queue.length = now c) →
    State.HearsAs (cs.foldl (fun v c => if now c = was c then v else v.raise (.channelLevel c (now c) 1)) v)
      (cs.foldl State.evalChannel u)
  | [], _, _, _, h, _ => h
  | c :: cs, u, v, hnodup, h, hlevels => by
    obtain ⟨hc, hnodup⟩ := List.nodup_cons.mp hnodup
    obtain ⟨⟨hwas, hnow⟩, hlevels⟩ := List.forall_mem_cons.mp hlevels
    refine State.evalChannels_hears cs (u := u.evalChannel c) hnodup ?_ fun d hd => ?_
    · have hmarked : ((u.channels[c]).evalHold u.timeBase).markedLevel = now c := by
        obtain ⟨b, due, hx⟩ := (u.channels[c]).evalHold_fields u.timeBase
        rw [hx, Channel.markedLevel_eq, ← hnow, ← hwas]
      rw [State.evalChannel_eq, hmarked, hwas, State.levelNotices]
      dsimp only
      by_cases hsame : now c = was c
      · rw [if_pos hsame, if_pos hsame]
        exact h.trans ⟨rfl, rfl, rfl⟩
      · rw [if_neg hsame, if_neg hsame]
        exact State.HearsAs.trans (h.raise _) ⟨by simp, by simp, rfl⟩
    · rw [State.evalChannel_get, if_neg (ne_of_mem_of_not_mem hd hc).symm]
      exact hlevels d hd

end Sys2Proof.Machine
end

section
/-! The admission of a record to its delivery set (R33 to R41, R48, R49, R52, R58, R174). -/

-- One proof at a time: beside the rest of the text these would need more threads than the check's memory holds.
set_option Elab.async false

namespace Sys2Proof.Machine

/-! ### The end of an admission (R40, R49, R174) -/

section
variable {u : State} {kept channels : List ChannelId} {L : ChannelId → Loss} (stored : Bool)

/-- The channels that an admission evaluates: those it stored the record on, or those it has evicted from (R49). -/
def settled (stored : Bool) (kept : List ChannelId) (L : ChannelId → Loss) : List ChannelId :=
  kept.filter fun c => stored || decide (0 < (L c).keepNew)

theorem settled_nodup (hkept : kept.Nodup) (L : ChannelId → Loss) : (settled stored kept L).Nodup := hkept.filter _

theorem Admission.touched_tally (hsub : kept ⊆ channels) :
    ({ state := u, kept := kept, losses := tally channels L } : Admission).touched stored = settled stored kept L := by
  refine List.filter_congr fun c hc => congrArg (stored || ·) (Bool.eq_iff_iff.mpr ?_)
  simp only [tally, List.any_map, List.any_eq_true, Function.comp_apply, Bool.and_eq_true, decide_eq_true_eq]
  exact ⟨fun ⟨d, _, hd, h⟩ => hd ▸ h, fun h => ⟨c, hsub hc, rfl, h⟩⟩

theorem Admission.conclude_tally (hsub : kept ⊆ channels) :
    ({ state := u, kept := kept, losses := tally channels L } : Admission).conclude stored =
      (settled stored kept L).foldl State.evalChannel ((tally channels L).foldl State.reportLoss u) := by
  rw [← Admission.touched_tally stored hsub (u := u)]
  rfl

variable (hchannels : channels.Nodup) (hkept : kept.Nodup)
include hchannels hkept

/-- What the end of an admission leaves of each channel of its set. -/
theorem Admission.conclude_get (hsub : kept ⊆ channels) {d : ChannelId} (hd : d ∈ channels) :
    (({ state := u, kept := kept, losses := tally channels L } : Admission).conclude stored).channels[d] =
      let x : Channel := { u.channels[d] with counters := (u.channels[d]).counters.after (L d) }
      if d ∈ settled stored kept L then x.evaluated u.timeBase else x := by
  have htime : ((tally channels L).foldl State.reportLoss u).timeBase = u.timeBase :=
    foldl_keeps State.timeBase _ (fun _ _ => by simp) _ _
  rw [Admission.conclude_tally stored hsub, State.evalChannels_get d _ _ (settled_nodup stored hkept L),
    htime, State.reportTally_get L d channels u hchannels, if_pos hd]

theorem Admission.conclude_other (hsub : kept ⊆ channels) {d : ChannelId} (hd : d ∉ channels) :
    (({ state := u, kept := kept, losses := tally channels L } : Admission).conclude stored).channels[d] =
      u.channels[d] := by
  have hsettled : d ∉ settled stored kept L := fun h => hd (hsub (List.mem_of_mem_filter h))
  rw [Admission.conclude_tally stored hsub, State.evalChannels_get d _ _ (settled_nodup stored hkept L),
    if_neg hsettled, State.reportTally_get L d channels u hchannels, if_neg hd]

/-- The notices of an admission: CHANNEL_LOSS in the order of the set, then CHANNEL_LEVEL (R40, R58, R174). -/
theorem Admission.conclude_hears (hsub : kept ⊆ channels) {s : State} (h : s.HearsAs u) {was now : ChannelId → Level}
    (hlevels : ∀ c ∈ settled stored kept L, (u.channels[c]).level = was c
      ∧ (u.channels[c]).config.levelAt (was c) (u.channels[c]).queue.length = now c) :
    State.HearsAs ((settled stored kept L).foldl
        (fun v c => if now c = was c then v else v.raise (.channelLevel c (now c) 1))
        (channels.foldl (fun v c => if L c = Loss.zero then v else v.raise (.channelLoss c (L c))) s))
      (({ state := u, kept := kept, losses := tally channels L } : Admission).conclude stored) := by
  rw [Admission.conclude_tally stored hsub]
  refine State.evalChannels_hears _ (hkept.filter _) (State.reportTally_hears L channels h) fun c hc => ?_
  rw [State.reportTally_get L c channels u hchannels, if_pos (hsub (List.mem_of_mem_filter hc))]
  exact hlevels c hc

end

/-! ### The two endings of an admission -/

section
variable (s : State) (channels : List ChannelId)

/-- The channels struck for a full queue (R37). -/
def State.struck : List ChannelId := (s.enabledOf channels).filter (s.fullAs .keepOld)

/-- The channels left in the set after the full-queue step (R37). -/
def State.staying : List ChannelId := (s.enabledOf channels).filter fun c => !s.fullAs .keepOld c

/-- The channels that give up an entry for their own full queue (R37). -/
def State.crowded : List ChannelId := (s.staying channels).filter (s.fullAs .keepNew)

theorem State.underway_kept (es : List ChannelId) : (s.underway channels (s.struck channels) es).kept =
    s.staying channels := by
  refine List.filter_congr fun c hc => ?_
  simp [State.struck, hc]

theorem State.enabledOf_nodup (hnodup : channels.Nodup) : (s.enabledOf channels).Nodup := hnodup.filter _

theorem State.staying_nodup (hnodup : channels.Nodup) : (s.staying channels).Nodup :=
  (s.enabledOf_nodup channels hnodup).filter _

theorem State.crowded_eq : s.crowded channels = (s.enabledOf channels).filter (s.fullAs .keepNew) := by
  unfold State.crowded State.staying
  rw [List.filter_filter]
  refine List.filter_congr fun c _ => ?_
  unfold State.fullAs
  cases hfull : (s.channels[c]).full
  · rfl
  · cases hp : (s.channels[c]).config.policy <;> rfl

theorem State.staying_subset : s.staying channels ⊆ channels := fun _ h =>
  List.mem_of_mem_filter (List.mem_of_mem_filter h)

/-- The losses that an admission counts in the end, with the no-slot drops of a record that found none (R40). -/
def State.finalLoss (dropped : Bool) (es : List ChannelId) : ChannelId → Loss :=
  s.lossOn (s.struck channels) es (if dropped then s.staying channels else [])

/-- The evictions of an admission: those of the full queues, and then one victim after the other (R37, R38). -/
def State.Evicts (es : List ChannelId) : Prop :=
  ∃ more, es = s.crowded channels ++ more ∧ ∀ pre c post, more = pre ++ c :: post →
    let a := s.underway channels (s.struck channels) (s.crowded channels ++ pre)
    ¬ a.state.obtainable (s.staying channels) = true ∧ a.victim = some c

end

section
variable {s : State} {channels es : List ChannelId}

/-- An empty set evicts nothing. -/
theorem State.Evicts.of_nil (h : s.Evicts channels es) (hnil : s.staying channels = []) : es = [] := by
  obtain ⟨more, rfl, hmore⟩ := h
  have hcrowded : s.crowded channels = [] := by rw [State.crowded, hnil, List.filter_nil]
  cases more with
  | nil => rw [hcrowded, List.append_nil]
  | cons c more =>
    obtain ⟨-, hvictim⟩ := hmore [] c more rfl
    have hmem := (Admission.victim_spec hvictim).1
    rw [State.underway_kept, hnil] at hmem
    cases hmem

theorem State.Evicts.subset (h : s.Evicts channels es) : es ⊆ s.staying channels := by
  obtain ⟨more, rfl, hmore⟩ := h
  refine List.append_subset.mpr ⟨fun c hc => List.mem_of_mem_filter hc, fun c hc => ?_⟩
  obtain ⟨pre, post, hsplit⟩ := List.append_of_mem hc
  have hmem := (Admission.victim_spec (hmore pre c post hsplit).2).1
  rwa [State.underway_kept] at hmem

/-- A channel struck from the set has given up nothing. -/
theorem State.Evicts.other (h : s.Evicts channels es) {c : ChannelId} (hc : c ∉ s.staying channels) :
    (es.foldl State.evictHead s).channels[c] = s.channels[c] :=
  State.evicted_other fun he => hc (h.subset he)

/-- The channels that a dropped record leaves to evaluate are those that have given up an entry (R49). -/
theorem State.settled_eq {L : ChannelId → Loss} (hL : ∀ c, (L c).keepNew = es.count c) :
    settled false (s.staying channels) L = (s.staying channels).filter fun c => decide (c ∈ es) := by
  refine List.filter_congr fun d _ => ?_
  rw [hL, Bool.false_or]
  exact decide_eq_decide.mpr List.count_pos_iff

/-- The full-queue step of an admission (R37). -/
theorem State.fullQueues_eq (hnodup : channels.Nodup) (hdefer : s.deferTest (s.enabledOf channels) = false) :
    Admission.fullQueues (s.enabledOf channels) (s.underway channels [] []) =
      s.underway channels (s.struck channels) (s.crowded channels) := by
  rw [State.underway_fullQueues hnodup _ _ _ (s.enabledOf_nodup channels hnodup) (fun _ _ => List.not_mem_nil)
    fun c hc => ?_, State.crowded_eq]
  · rfl
  · have hpass := List.any_eq_false.mp hdefer c hc
    simp only [Bool.and_eq_true, Bool.or_eq_true, not_and, not_or, decide_eq_true_eq] at hpass
    unfold State.fullAs
    rw [Bool.and_eq_false_iff, decide_eq_false_iff_not, ← Bool.not_eq_true]
    by_cases hp : (s.channels[c]).config.policy = .defer
    · exact .inl (hpass hp).1
    · exact .inr hp

/-- The evictions for a slot end where one is obtainable or nothing is left to evict (R38). -/
theorem State.makeRoom_eq (h : s.Evicts channels es)
    (hend : (s.underway channels (s.struck channels) es).state.obtainable (s.staying channels) = true
      ∨ (s.underway channels (s.struck channels) es).victim = none) :
    Admission.makeRoom (s.underway channels (s.struck channels) (s.crowded channels)).entries
      (s.underway channels (s.struck channels) (s.crowded channels)) = s.underway channels (s.struck channels) es := by
  obtain ⟨more, rfl, hmore⟩ := h
  refine State.underway_makeRoom more _ _ (fun pre c post hsplit => ?_) ?_ le_rfl
  · rw [State.underway_kept]
    exact hmore pre c post hsplit
  · rw [State.underway_kept]
    exact hend

/-- The state after an admission that has stored its record in slot `i`, with the losses `L` (R39, R40). -/
def State.storedEnd (s : State) (channels es : List ChannelId) (L : ChannelId → Loss) (r : Record) (i : SlotId) : State :=
  Admission.conclude { state := (es.foldl State.evictHead s).storeRecord r i (s.staying channels)
                       kept := s.staying channels, losses := tally channels L } true

/-- The state after an admission that has dropped its record, with the losses `L` (R37, R38, R40). -/
def State.droppedEnd (s : State) (channels es : List ChannelId) (L : ChannelId → Loss) : State :=
  Admission.conclude { state := es.foldl State.evictHead s, kept := s.staying channels, losses := tally channels L } false

theorem State.underway_noSlot (es : List ChannelId) : (s.underway channels (s.struck channels) es).noSlot =
    { state := es.foldl State.evictHead s, kept := s.staying channels
      losses := tally channels (s.finalLoss channels true es) } := by
  have hlosses : (s.underway channels (s.struck channels) es).noSlot.losses =
      tally channels (s.finalLoss channels true es) := by
    unfold Admission.noSlot
    rw [State.underway_kept]
    unfold State.underway tally
    rw [List.map_map]
    refine List.map_congr_left fun c _ => ?_
    simp only [Function.comp_apply, State.finalLoss, State.lossOn, if_true]
    split <;> simp
  have hkept : (s.underway channels (s.struck channels) es).noSlot.kept = s.staying channels := s.underway_kept channels es
  rw [← hlosses, ← hkept]
  rfl

/-- With no channel left there is none to count a no-slot drop on. -/
theorem State.underway_of_nil (hnil : s.staying channels = []) (es : List ChannelId) :
    s.underway channels (s.struck channels) es = { state := es.foldl State.evictHead s, kept := s.staying channels
                                                   losses := tally channels (s.finalLoss channels true es) } := by
  have hloss : s.finalLoss channels true es = s.lossOn (s.struck channels) es [] := by
    rw [State.finalLoss, if_pos rfl, hnil]
  rw [hloss, ← s.underway_kept channels es]
  rfl

section
variable (hnodup : channels.Nodup) (hdefer : s.deferTest (s.enabledOf channels) = false) (hevicts : s.Evicts channels es)
  (r : Record)
include hnodup hdefer hevicts

/-- An admission past the DEFER test, to a set in which a channel is left: the slot test after the evictions, and its
ending (R37 to R39). -/
theorem State.takeAdmission_placed (hstay : s.staying channels ≠ [])
    (hend : (s.underway channels (s.struck channels) es).state.obtainable (s.staying channels) = true
      ∨ (s.underway channels (s.struck channels) es).victim = none) :
    s.takeAdmission r channels =
      let placed := (s.underway channels (s.struck channels) es).place r
      (placed.1, placed.2.conclude (decide (placed.1 = .stored))) := by
  have henabled : s.enabledOf channels ≠ [] := fun h => hstay (by rw [State.staying, h, List.filter_nil])
  have hkept : (s.underway channels [] []).kept = s.enabledOf channels := by simp [State.underway]
  unfold State.takeAdmission
  rw [State.beginAdmission_eq]
  dsimp only
  rw [hkept, if_neg (by simpa using henabled), if_neg (by simp [hdefer]), State.fullQueues_eq hnodup hdefer,
    State.underway_kept, if_neg (by simpa using hstay), State.makeRoom_eq hevicts hend]

/-- The record takes the lowest free slot (R39). -/
theorem State.takeAdmission_stores {i : SlotId} (hstay : s.staying channels ≠ [])
    (hslot : (es.foldl State.evictHead s).obtainable (s.staying channels) = true)
    (hfree : (es.foldl State.evictHead s).store.lowestFree = some i) :
    s.takeAdmission r channels = (.stored, s.storedEnd channels es (s.finalLoss channels false es) r i) := by
  have hplaced : (s.underway channels (s.struck channels) es).place r = (.stored,
      { state := (es.foldl State.evictHead s).storeRecord r i (s.staying channels), kept := s.staying channels
        losses := tally channels (s.finalLoss channels false es) }) := by
    have hfound : (if (s.underway channels (s.struck channels) es).state.obtainable (s.staying channels) then
        (s.underway channels (s.struck channels) es).state.store.lowestFree else none) = some i :=
      (if_pos hslot).trans hfree
    unfold Admission.place
    rw [State.underway_kept, hfound, ← s.underway_kept channels es]
    rfl
  rw [State.takeAdmission_placed hnodup hdefer hevicts r hstay (.inl hslot), hplaced]
  rfl

/-- The record is dropped: no channel is left in the set, or no slot is obtainable and nothing is left to evict (R35,
R37, R38). -/
theorem State.takeAdmission_drops (h : s.staying channels = []
      ∨ (¬ (es.foldl State.evictHead s).obtainable (s.staying channels) = true
        ∧ (s.underway channels (s.struck channels) es).victim = none)) :
    s.takeAdmission r channels = (.dropped,
      let ended := s.droppedEnd channels es (s.finalLoss channels true es)
      if s.enabledOf channels = [] then ended.countLink fun c => { c with unrouted := bump c.unrouted 1 } else ended) := by
  unfold State.droppedEnd
  have hkept : (s.underway channels [] []).kept = s.enabledOf channels := by simp [State.underway]
  by_cases henabled : s.enabledOf channels = []
  · have hnil : s.staying channels = [] := by rw [State.staying, henabled, List.filter_nil]
    have hstruck : s.struck channels = [] := by rw [State.struck, henabled, List.filter_nil]
    dsimp only
    rw [if_pos henabled, ← State.underway_of_nil hnil, hevicts.of_nil hnil, hstruck]
    unfold State.takeAdmission
    rw [State.beginAdmission_eq]
    dsimp only
    rw [hkept, if_pos (by rw [henabled]; rfl)]
  · dsimp only
    rw [if_neg henabled]
    by_cases hnil : s.staying channels = []
    · have hcrowded : s.crowded channels = [] := by rw [State.crowded, hnil, List.filter_nil]
      rw [← State.underway_of_nil hnil, hevicts.of_nil hnil]
      unfold State.takeAdmission
      rw [State.beginAdmission_eq]
      dsimp only
      rw [hkept, if_neg (by simpa using henabled), if_neg (by simp [hdefer]), State.fullQueues_eq hnodup hdefer,
        State.underway_kept, if_pos (by rw [hnil]; rfl), hcrowded]
    · obtain ⟨hslot, hvictim⟩ := h.resolve_left hnil
      have hplaced : (s.underway channels (s.struck channels) es).place r =
          (.dropped, (s.underway channels (s.struck channels) es).noSlot) := by
        have hnone : (if (s.underway channels (s.struck channels) es).state.obtainable (s.staying channels) then
            (s.underway channels (s.struck channels) es).state.store.lowestFree else none) = none := if_neg hslot
        unfold Admission.place
        rw [State.underway_kept, hnone]
      rw [State.takeAdmission_placed hnodup hdefer hevicts r hnil (.inr hvictim), hplaced, State.underway_noSlot]
      rfl

end

end

/-! ### What an admission writes -/

/-- The settings of a channel and its in-flight batch: what no admission writes. -/
def Channel.settings (x : Channel) : Nat × ChannelConfig × Bool × List SlotId :=
  (x.credit, x.config, x.enabled, x.inflight)

theorem State.takeAdmission_settings (s : State) (r : Record) (channels : List ChannelId) (c : ChannelId) :
    ((s.takeAdmission r channels).2.channels[c]).settings = (s.channels[c]).settings := by
  refine State.takeAdmission_keeps_of _ (fun u : State => (u.channels[c]).settings) (fun u d => ?_) (fun u d => ?_)
    (fun u p => ?_) (fun u r i cs => ?_) (fun _ _ => rfl) s r channels
  · rw [u.evictHead_get]
    split
    · rename_i h
      rw [← h.1]
      rfl
    · rfl
  · rw [u.evalChannel_get]
    split
    · rename_i h
      subst h
      obtain ⟨b, due, hx⟩ := (u.channels[d]).evalHold_fields u.timeBase
      simp only [hx]
      rfl
    · rfl
  · obtain ⟨k, hk⟩ := u.reportLoss_get p c
    rw [hk]
    rfl
  · refine foldl_keeps (fun u : State => (u.channels[c]).settings) _ (fun u d => ?_) cs _
    rw [State.setChannel_read]
    split
    · rename_i h
      rw [← h]
      rfl
    · rfl

/-- An admission writes the channels, the store, the notices and the link's counters only. -/
theorem State.takeAdmission_frame (s : State) (r : Record) (channels : List ChannelId) :
    let t := (s.takeAdmission r channels).2
    t = { s with channels := t.channels, store := t.store, notices := t.notices, link := t.link } := by
  obtain ⟨h1, h2, h3, h4, h5, h6, h7, h8, h9, h10, h11, h12, h13, h14⟩ := s.takeAdmission_keeps r channels
  generalize (s.takeAdmission r channels).2 = t at *
  obtain ⟨⟩ := t
  dsimp only at *
  subst_vars
  rfl

/-- What the evaluations leave of a channel, and what they make of its level and its offer (R49, R54, R58). -/
theorem Channel.evaluated_spec (x : Channel) (now : Time) : let y := x.evaluated now
    y.queue = x.queue ∧ y.usage = x.usage ∧ y.counters = x.counters
      ∧ y.level = x.config.levelAt x.level y.queue.length ∧ y.offered = y.ready := by
  obtain ⟨b, d, h⟩ := x.evaluated_fields now
  dsimp only
  rw [h]
  exact ⟨rfl, rfl, rfl, rfl, rfl⟩

theorem State.evicted_time (s : State) (es : List ChannelId) : (es.foldl State.evictHead s).timeBase = s.timeBase :=
  foldl_keeps State.timeBase _ (fun _ _ => by simp) es s

theorem State.evicted_hears (s : State) (es : List ChannelId) : s.HearsAs (es.foldl State.evictHead s) where
  session := foldl_keeps (fun u : State => u.link.session) _ (fun _ _ => by simp) es s
  timeBase := s.evicted_time es
  notices := foldl_keeps State.notices _ (fun _ _ => by simp) es s

theorem tally_congr {channels : List ChannelId} {L M : ChannelId → Loss} (h : ∀ c ∈ channels, L c = M c) :
    tally channels L = tally channels M := List.map_congr_left fun c hc => by rw [h c hc]

/-- The level that the marks make of a channel left by the evictions with `added` entries more (R58). -/
def State.levelAfter (s : State) (es : List ChannelId) (added : Nat) (c : ChannelId) : Level :=
  (s.channels[c]).config.levelAt (s.channels[c]).level
    (((es.foldl State.evictHead s).channels[c]).queue.length + added)

/-- Channel `c` stands as `y` after the evaluations that end an admission with the evictions `es` (R49). -/
def State.EvaluatedTo (s : State) (es : List ChannelId) (c : ChannelId) (y : Channel) : Prop :=
  y.level = (s.channels[c]).config.levelAt (s.channels[c]).level y.queue.length ∧ y.offered = y.ready
    ∧ y.HoldEvaluated ((es.foldl State.evictHead s).channels[c]).holdRunOut s.timeBase

theorem State.evaluatedTo {s : State} {es : List ChannelId} {c : ChannelId} {x : Channel}
    (hlevel : x.level = ((es.foldl State.evictHead s).channels[c]).level)
    (hconfig : x.config = ((es.foldl State.evictHead s).channels[c]).config)
    (hhold : x.holdRunOut = ((es.foldl State.evictHead s).channels[c]).holdRunOut) :
    s.EvaluatedTo es c (x.evaluated s.timeBase) := by
  obtain ⟨q, n, b, d, h⟩ := State.evicted_fields c es s
  obtain ⟨-, -, -, hmarked, hoffer⟩ := x.evaluated_spec s.timeBase
  refine ⟨?_, hoffer, hhold ▸ x.evaluated_hold s.timeBase⟩
  rw [hmarked, hlevel, hconfig, h]

theorem State.evicted_counters (s : State) (es : List ChannelId) (c : ChannelId) :
    ((es.foldl State.evictHead s).channels[c]).counters = (s.channels[c]).counters := by
  obtain ⟨q, n, b, d, h⟩ := State.evicted_fields c es s
  rw [h]

/-- An entry counted before the losses stays counted (R40). -/
theorem ChannelCounters.after_enqueued (n : ChannelCounters) (k : Nat) (l : Loss) :
    ({ n with enqueued := k } : ChannelCounters).after l = { n.after l with enqueued := k } := by
  unfold ChannelCounters.after
  split <;> rfl

/-! ### The state of a stored record -/

section
variable {s : State} {channels es : List ChannelId} (hnodup : channels.Nodup) (hevicts : s.Evicts channels es)
  (L : ChannelId → Loss) (r : Record) (i : SlotId) {c : ChannelId}

theorem State.storedEnd_store : (s.storedEnd channels es L r i).store =
    (es.foldl State.evictHead s).store.occupy i r (s.staying channels).length := by
  refine (Admission.conclude_keeps _ State.store (by simp) (by simp) _ true).trans ?_
  simp [State.storeRecord]

theorem State.storedEnd_link : (s.storedEnd channels es L r i).link = s.link := by
  have hstored : ((es.foldl State.evictHead s).storeRecord r i (s.staying channels)).link =
      (es.foldl State.evictHead s).link := by simp
  refine (Admission.conclude_keeps _ State.link (by simp) (by simp) _ true).trans (hstored.trans ?_)
  exact foldl_keeps State.link _ (fun _ _ => by simp) es s

include hnodup hevicts

/-- The entries of a stored record (R39). -/
theorem State.stored_get : ((es.foldl State.evictHead s).storeRecord r i (s.staying channels)).channels[c] =
    if c ∈ s.staying channels then ((es.foldl State.evictHead s).channels[c]).append s.timeBase i
    else s.channels[c] := by
  have happended := State.appendEntries_get i (s.staying channels)
    { es.foldl State.evictHead s with
      store := (es.foldl State.evictHead s).store.occupy i r (s.staying channels).length }
    (s.staying_nodup channels hnodup) c
  refine happended.trans ?_
  dsimp only
  rw [s.evicted_time]
  split
  · rfl
  · exact hevicts.other ‹_›

theorem State.storedEnd_outside (hc : c ∉ channels) : (s.storedEnd channels es L r i).channels[c] = s.channels[c] := by
  refine (Admission.conclude_other true hnodup (s.staying_nodup channels hnodup) (s.staying_subset channels) hc).trans ?_
  rw [State.stored_get hnodup hevicts, if_neg fun h => hc (s.staying_subset channels h)]

/-- A channel of the set that the record is not queued on (R40). -/
theorem State.storedEnd_struck (hc : c ∈ channels) (hout : c ∉ s.staying channels) :
    (s.storedEnd channels es L r i).channels[c] =
      { s.channels[c] with counters := (s.channels[c]).counters.after (L c) } := by
  have hsettled : c ∉ settled true (s.staying channels) L := fun h => hout (List.mem_of_mem_filter h)
  unfold State.storedEnd
  rw [Admission.conclude_get true hnodup (s.staying_nodup channels hnodup) (s.staying_subset channels) hc,
    State.stored_get hnodup hevicts, if_neg hout]
  exact if_neg hsettled

/-- A channel that the record is queued on (R39, R40, R49). -/
theorem State.storedEnd_queued (hc : c ∈ s.staying channels) :
    let x := (es.foldl State.evictHead s).channels[c]
    let y := (s.storedEnd channels es L r i).channels[c]
    y.queue = x.queue ++ [{ slot := i, time := s.timeBase }] ∧ y.usage = x.usage + 1
      ∧ y.counters = { (s.channels[c]).counters.after (L c) with enqueued := bump (s.channels[c]).counters.enqueued 1 }
      ∧ s.EvaluatedTo es c y := by
  intro x y
  have hsettled : c ∈ settled true (s.staying channels) L := List.mem_filter.mpr ⟨hc, rfl⟩
  have htime : ((es.foldl State.evictHead s).storeRecord r i (s.staying channels)).timeBase = s.timeBase := by
    simp [s.evicted_time]
  have hy : y = Channel.evaluated { x.append s.timeBase i with
      counters := (x.append s.timeBase i).counters.after (L c) } s.timeBase := by
    simp only [y, State.storedEnd]
    rw [Admission.conclude_get true hnodup (s.staying_nodup channels hnodup) (s.staying_subset channels)
      (s.staying_subset channels hc), State.stored_get hnodup hevicts, if_pos hc, htime]
    exact if_pos hsettled
  obtain ⟨hqueue, husage, hcounts, -, -⟩ := Channel.evaluated_spec { x.append s.timeBase i with
    counters := (x.append s.timeBase i).counters.after (L c) } s.timeBase
  rw [hy]
  refine ⟨hqueue, husage, hcounts.trans ?_, State.evaluatedTo rfl rfl rfl⟩
  rw [Channel.append, ChannelCounters.after_enqueued, s.evicted_counters]

/-- The notices of a stored record (R40, R58, R174). -/
theorem State.storedEnd_hears :
    let was := fun c : ChannelId => (s.channels[c]).level
    let now := s.levelAfter es 1
    State.HearsAs ((s.staying channels).foldl
        (fun v c => if now c = was c then v else v.raise (.channelLevel c (now c) 1))
        (channels.foldl (fun v c => if L c = Loss.zero then v else v.raise (.channelLoss c (L c))) s))
      (s.storedEnd channels es L r i) := by
  intro was now
  have hall : settled true (s.staying channels) L = s.staying channels :=
    List.filter_eq_self.mpr fun _ _ => Bool.true_or _
  have hheard : s.HearsAs ((es.foldl State.evictHead s).storeRecord r i (s.staying channels)) :=
    (s.evicted_hears es).trans ⟨by simp, by simp, by simp⟩
  have hears := Admission.conclude_hears (L := L) true hnodup (s.staying_nodup channels hnodup)
    (s.staying_subset channels) hheard (was := was) (now := now) fun c hc => ?_
  · rwa [hall] at hears
  · obtain ⟨q, n, b, d, h⟩ := State.evicted_fields c es s
    rw [State.stored_get hnodup hevicts, if_pos (hall ▸ hc)]
    simp only [now, State.levelAfter, h, Channel.append, List.length_append, List.length_singleton, was, and_self]

end

/-! ### The state of a dropped record -/

section
variable {s : State} {channels es : List ChannelId} {L : ChannelId → Loss} {c : ChannelId}

theorem State.droppedEnd_store : (s.droppedEnd channels es L).store = (es.foldl State.evictHead s).store :=
  Admission.conclude_keeps _ State.store (by simp) (by simp) _ false

theorem State.droppedEnd_link : (s.droppedEnd channels es L).link = s.link :=
  (Admission.conclude_keeps _ State.link (by simp) (by simp) _ false).trans
    (foldl_keeps State.link _ (fun _ _ => by simp) es s)

variable (hnodup : channels.Nodup)
include hnodup

theorem State.droppedEnd_outside (hevicts : s.Evicts channels es) (hc : c ∉ channels) :
    (s.droppedEnd channels es L).channels[c] = s.channels[c] :=
  (Admission.conclude_other false hnodup (s.staying_nodup channels hnodup) (s.staying_subset channels) hc).trans
    (hevicts.other fun h => hc (s.staying_subset channels h))

variable (hL : ∀ c, (L c).keepNew = es.count c)
include hL

/-- A channel of the set that has given up no entry (R40). -/
theorem State.droppedEnd_unchanged (hevicts : s.Evicts channels es) (hc : c ∈ channels)
    (hout : c ∉ (s.staying channels).filter fun c => decide (c ∈ es)) : (s.droppedEnd channels es L).channels[c] =
      { s.channels[c] with counters := (s.channels[c]).counters.after (L c) } := by
  have hes : c ∉ es := fun h => hout (List.mem_filter.mpr ⟨hevicts.subset h, decide_eq_true h⟩)
  rw [← State.settled_eq hL] at hout
  unfold State.droppedEnd
  rw [Admission.conclude_get false hnodup (s.staying_nodup channels hnodup) (s.staying_subset channels) hc,
    State.evicted_other hes]
  exact if_neg hout

/-- A channel that has given up an entry (R37, R38, R49). -/
theorem State.droppedEnd_evicted (hc : c ∈ (s.staying channels).filter fun c => decide (c ∈ es)) :
    let x := (es.foldl State.evictHead s).channels[c]
    let y := (s.droppedEnd channels es L).channels[c]
    y.queue = x.queue ∧ y.usage = x.usage ∧ y.counters = (s.channels[c]).counters.after (L c) ∧ s.EvaluatedTo es c y := by
  intro x y
  rw [← State.settled_eq hL] at hc
  have hy : y = Channel.evaluated { x with counters := x.counters.after (L c) } s.timeBase := by
    simp only [y, State.droppedEnd]
    rw [Admission.conclude_get false hnodup (s.staying_nodup channels hnodup) (s.staying_subset channels)
      (s.staying_subset channels (List.mem_of_mem_filter hc)), s.evicted_time]
    exact if_pos hc
  obtain ⟨hqueue, husage, hcounts, -, -⟩ :=
    Channel.evaluated_spec { x with counters := x.counters.after (L c) } s.timeBase
  rw [hy]
  refine ⟨hqueue, husage, hcounts.trans ?_, State.evaluatedTo rfl rfl rfl⟩
  rw [s.evicted_counters]

/-- The notices of a dropped record (R40, R58, R174). -/
theorem State.droppedEnd_hears :
    let was := fun c : ChannelId => (s.channels[c]).level
    let now := s.levelAfter es 0
    State.HearsAs (((s.staying channels).filter fun c => decide (c ∈ es)).foldl
        (fun v c => if now c = was c then v else v.raise (.channelLevel c (now c) 1))
        (channels.foldl (fun v c => if L c = Loss.zero then v else v.raise (.channelLoss c (L c))) s))
      (s.droppedEnd channels es L) := by
  intro was now
  rw [← State.settled_eq hL]
  refine Admission.conclude_hears (L := L) false hnodup (s.staying_nodup channels hnodup)
    (s.staying_subset channels) (s.evicted_hears es) fun c _ => ?_
  obtain ⟨q, n, b, d, h⟩ := State.evicted_fields c es s
  simp only [now, State.levelAfter, h, was, Nat.add_zero, and_self]

end

/-! ### The statement -/

/-- The free slot below which every slot is occupied is the one a record takes (R39). -/
theorem Store.lowestFree_some {st : Store} {i : SlotId} (h : st.slots[i] = none)
    (hlow : ∀ j : SlotId, j < i → st.slots[j] ≠ none) : st.lowestFree = some i := by
  obtain ⟨before, after, hsplit⟩ := List.append_of_mem (List.mem_finRange i)
  have sorted : (before ++ i :: after).Pairwise (· < ·) := hsplit ▸ List.pairwise_lt_finRange 256
  refine List.find?_eq_some_iff_append.mpr ⟨Option.isNone_iff_eq_none.mpr h, before, after, hsplit, fun j hj => ?_⟩
  have hlt : j < i := (List.pairwise_append.mp sorted).2.2 j hj i List.mem_cons_self
  simpa [← Option.not_isSome] using Option.ne_none_iff_isSome.mp (hlow j hlt)

/-- A count at the link controller that is made or not made leaves everything else. -/
theorem State.countLink_if {β : Type} (g : State → β) (hg : ∀ t f, g (State.countLink t f) = g t) (p : Prop)
    [Decidable p] (t : State) (f : LinkCounters → LinkCounters) : g (if p then t.countLink f else t) = g t := by
  split
  · exact hg t f
  · rfl

/-- What no admission writes of a channel, and the channels outside its set. -/
theorem State.takeAdmission_rest (s : State) (r : Record) (channels : List ChannelId)
    (hother : ∀ c, c ∉ channels → (s.takeAdmission r channels).2.channels[c] = s.channels[c]) (c : ChannelId) :
    let y := (s.takeAdmission r channels).2.channels[c]
    y.credit = (s.channels[c]).credit ∧ y.config = (s.channels[c]).config ∧ y.enabled = (s.channels[c]).enabled
      ∧ y.inflight = (s.channels[c]).inflight ∧ (c ∉ channels → y = s.channels[c]) := by
  have h := s.takeAdmission_settings r channels c
  injection h with hcredit h
  injection h with hconfig h
  injection h with henabled hinflight
  exact ⟨hcredit, hconfig, henabled, hinflight, hother c⟩

section
variable {s : State} {channels es : List ChannelId}

/-- The loss that the statement names, on a channel of the set (R35, R37, R38). -/
theorem State.finalLoss_eq (hnodup : channels.Nodup) (dropped : Bool) {c : ChannelId} (hc : c ∈ channels) :
    s.finalLoss channels dropped es c =
      { disabled := if (s.channels[c]).enabled then 0 else 1
        keepOld := if (s.channels[c]).enabled = true ∧ (s.channels[c]).full = true
          ∧ (s.channels[c]).config.policy = .keepOld then 1 else 0
        keepNew := es.count c
        noSlot := if dropped = true ∧ c ∈ s.staying channels then 1 else 0 } := by
  have hcount : (s.struck channels).count c = if (s.channels[c]).enabled = true ∧ (s.channels[c]).full = true
      ∧ (s.channels[c]).config.policy = .keepOld then 1 else 0 := by
    have hstruck : (s.struck channels).Nodup := (s.enabledOf_nodup channels hnodup).filter _
    rw [hstruck.count]
    refine if_congr ?_ rfl rfl
    simp only [State.struck, State.enabledOf, State.fullAs, List.mem_filter, hc, true_and, Bool.and_eq_true,
      decide_eq_true_eq]
  unfold State.finalLoss State.lossOn
  rw [hcount]
  cases dropped <;> simp

/-- The next victim: the first KEEP_NEW channel left in the set with an entry (R38). -/
theorem State.underway_victim (cs : List ChannelId) : (s.underway channels (s.struck channels) cs).victim =
    (s.staying channels).find? fun c => decide ((s.channels[c]).config.policy = .keepNew)
      && !((cs.foldl State.evictHead s).channels[c]).queue.isEmpty := by
  unfold Admission.victim
  rw [State.underway_kept]
  refine congrArg (fun p => List.find? p (s.staying channels)) (funext fun c => ?_)
  obtain ⟨q, n, b, d, h⟩ := State.evicted_fields c cs s
  have hpolicy : ((cs.foldl State.evictHead s).channels[c]).config = (s.channels[c]).config := by rw [h]
  exact congrArg (fun x : ChannelConfig => decide (x.policy = .keepNew) && _) hpolicy

end

/-- Settles O48. The statement's evictions are those of the admission under way; what it says of the two endings is then
what the state after each of them is known to hold. -/
theorem admissionStoresOrLoses : Obligations.AdmissionStoresOrLoses := by
  unfold Obligations.AdmissionStoresOrLoses
  intro s r channels es hnodup full policy enabled kept evict after slot victim hdefer hmore u result loss nothing counted
    was level evaluated reports rest
  have hevict : evict = State.evictHead := funext₂ fun v c => by
    unfold State.evictHead
    cases hq : (v.channels[c]).queue with
    | nil => simp only [evict, hq]
    | cons e rest => simp only [evict, hq, Channel.dropHead, State.setChannel, List.tail_cons]
  clear_value evict
  subst hevict
  have hslot : ∀ v d, slot v d ↔ v.obtainable d = true := fun v d => by
    rw [State.obtainable_iff, State.unmetReserve_eq]
    rfl
  have hvictim : ∀ cs, (s.underway channels (s.struck channels) cs).victim = victim (after cs) := State.underway_victim
  have hpass : s.deferTest (s.enabledOf channels) = false := Bool.eq_false_iff.mpr fun h => by
    obtain ⟨c, hc, hp, hfull⟩ := (State.deferTest_iff s _).mp h
    obtain ⟨hroom, hfree⟩ := hdefer c hc hp
    exact hfull.elim (of_decide_eq_false hroom) fun h => h ((hslot _ _).mp hfree)
  have hevicts : s.Evicts channels es := by
    obtain ⟨more, hes, hmore⟩ := hmore
    refine ⟨more, hes, fun pre c post hsplit => ?_⟩
    obtain ⟨hno, hnext⟩ := hmore pre c post hsplit
    exact ⟨fun h => hno ((hslot _ _).mpr h), (hvictim _).trans hnext⟩
  have hloss : ∀ dropped, tally channels (s.finalLoss channels dropped es) = tally channels (loss dropped) :=
    fun dropped => tally_congr fun c hc => State.finalLoss_eq hnodup dropped hc
  refine ⟨fun i hstay hfree hi hlow => ?_, fun hnone => ?_⟩
  · have hresult : result = (.stored, s.storedEnd channels es (loss false) r i) := by
      rw [State.storedEnd, ← hloss]
      exact State.takeAdmission_stores hnodup hpass hevicts r hstay ((hslot _ _).mp hfree) (Store.lowestFree_some hi hlow)
    have hrest : rest := ⟨s.takeAdmission_frame r channels, s.takeAdmission_rest r channels fun c hc =>
      (congrArg (fun p : AdmissionEnd × State => p.2.channels[c]) hresult).trans
        (State.storedEnd_outside hnodup hevicts _ r i hc)⟩
    clear_value result
    subst hresult
    exact ⟨hrest, rfl, State.storedEnd_store _ r i, (State.storedEnd_hears hnodup hevicts _ r i).notices,
      State.storedEnd_link _ r i, fun c hc hout => State.storedEnd_struck hnodup hevicts _ r i hc hout,
      fun c hc => State.storedEnd_queued hnodup hevicts _ r i hc⟩
  · have hresult : result = (.dropped, if enabled = [] then (s.droppedEnd channels es (loss true)).countLink fun n =>
        { n with unrouted := bump n.unrouted 1 } else s.droppedEnd channels es (loss true)) := by
      rw [State.droppedEnd, ← hloss]
      exact State.takeAdmission_drops hnodup hpass hevicts r
        (hnone.imp_right fun ⟨hno, hlast⟩ => ⟨fun h => hno ((hslot _ _).mpr h), (hvictim es).trans hlast⟩)
    have hcount : ∀ c, (loss true c).keepNew = es.count c := fun _ => rfl
    have ended {β : Type} (g : State → β) (hg : ∀ t f, g (State.countLink t f) = g t) :
        g result.2 = g (s.droppedEnd channels es (loss true)) := by
      rw [congrArg Prod.snd hresult]
      exact State.countLink_if g hg _ _ _
    have hchannel (c : ChannelId) := ended (fun t : State => t.channels[c]) fun _ _ => rfl
    refine ⟨⟨s.takeAdmission_frame r channels, s.takeAdmission_rest r channels fun c hc =>
      (hchannel c).trans (State.droppedEnd_outside hnodup hevicts hc)⟩, congrArg Prod.fst hresult,
      (ended State.store fun _ _ => rfl).trans State.droppedEnd_store,
      (ended State.notices fun _ _ => rfl).trans (State.droppedEnd_hears hnodup hcount).notices, ?_,
      fun c hc hout => (hchannel c).trans (State.droppedEnd_unchanged hnodup hcount hevicts hc hout), fun c hc => ?_⟩
    · rw [congrArg Prod.snd hresult, apply_ite State.link]
      refine if_congr Iff.rfl ?_ State.droppedEnd_link
      rw [← State.droppedEnd_link (s := s) (channels := channels) (es := es) (L := loss true)]
      rfl
    · rw [hchannel c]
      exact State.droppedEnd_evicted hnodup hcount hc

end Sys2Proof.Machine
end
